-- ==== Sys2Proof/Word.lean ====
section
/-!
DEFINITION. The words the TH512's fields, messages and packets are made of (R8-R11, R623).
-/

namespace Sys2Proof

/-- One 32-bit word of a field, of an RMP body or of a record packet. -/
abbrev Word := BitVec 32

/-- One byte of a datagram or of an Ethernet frame. -/
abbrev Byte := BitVec 8

/-- A head link sample: 24-bit two's complement, normalised to the active range (R9). -/
abbrev Sample := BitVec 24

/-- One 64-bit block of the head link, without its two sync header bits (R454). -/
abbrev Block := BitVec 64

end Sys2Proof
end

