-- ==== Sys2Proof/Syntax.lean ====
section
/-!
DEFINITION. The commands the TH512 is given: the host's requests and the happenings at its pins, links, memories and
clocks. One constructor per row of spec/opcode_table.json.
-/

namespace Sys2Proof

/-- The object types of R25. -/
inductive Obj where
  | dev | port | chan | octet | bank | engine
  | loop | outer | repet | notch | profile
  | seq | bseq | sweep
  | acq | pattern | trigpin
  | route
  | fifo | spool | journal
  | arb | lock
  | hk | aout
  | time | sync
  deriving DecidableEq, Repr

/-- The two Ethernet ports: A faces the host, B the next device of the chain (R570). -/
inductive Port where
  | a | b
  deriving DecidableEq, Repr

/-- Where a datagram came from: the port it arrived on, the link-layer and IP address and the UDP port of its sender,
and the VLAN tag it carried (R584, R585). -/
structure Source where
  port : Port
  mac : Nat
  ip : Nat
  udp : Nat
  vlan : Option Nat
  deriving DecidableEq, Repr

/-- The envelope of an RMP request (R587), with the length of the UDP payload that carried it. CODE is the row's own.
auxLate says whether a value written to the aux analog island by this request needs the later of the two boundaries that
the crossing costs of R18 allow (DESIGN CHOICE, log entry 6). tail holds the bytes of BODY after its last whole word, at most three. -/
structure Envelope where
  src : Source
  udpLength : Nat
  magic : BitVec 16
  version : BitVec 8
  kind : BitVec 8
  session : BitVec 16
  length : BitVec 16
  seq : BitVec 32
  ctl : BitVec 16
  atField : BitVec 64
  tag : BitVec 128
  auxLate : Bool
  tail : List Byte
  deriving DecidableEq, Repr

/-- The symbols of the SYNC line (R502). -/
inductive SyncSymbol where
  | start | data0 | data1 | mark
  deriving DecidableEq, Repr

/-- The PTP messages an ordinary clock handles (R497). -/
inductive PtpKind where
  | sync | followUp | delayReq | delayResp | announce
  deriving DecidableEq, Repr

/-- A PTP message: its kind, sourcePortIdentity, whether a Sync is two-step, domainNumber, sequenceId, its timestamp and
correctionField in 1/128 ns, an Announce's priority1 and clockClass, and the requestingPortIdentity of a Delay_Resp (R497). -/
structure PtpMsg where
  kind : PtpKind
  source : Nat
  twoStep : Bool
  domain : Nat
  seq : Nat
  time : Int
  correction : Int
  priority : Nat
  clockClass : Nat
  requesting : Nat
  deriving DecidableEq, Repr

/-- How a PTP message is carried: over UDP on IPv4 or IPv6, or over IEEE 802.3 with EtherType 0x88F7 (R497). -/
inductive PtpCarriage where
  | udp4 | udp6 | ether
  deriving DecidableEq, Repr

/-- The frame that carries a PTP message: its link-layer addresses, its carriage, the IP address and UDP port of the other end where it is
carried over UDP (of the sender of a frame received, of the addressee of one the device sends), its 802.1Q tag, and the bytes of
its MAC client data without a tag (R497, R570, R585). -/
structure PtpFrame where
  src : Nat
  dst : Nat
  carriage : PtpCarriage
  ip : Nat
  udp : Nat
  vlan : Option Nat
  length : Nat
  deriving DecidableEq, Repr

/-- How a channel's words fared in the crossings between its link island and the core (R19, R548): well, or with a double-bit
error on the way to the core, or on the way to the link, where a hold fast block then leaves in the given slot. -/
inductive Crossing where
  | ok | toCore | toLink (slot : Nat)
  deriving DecidableEq, Repr

/-- An Ethernet frame that the internal switch handles (R571): addresses, EtherType, bytes of MAC client data without a tag,
802.1Q tag, the bytes after the EtherType, whether its frame check sequence is right, and whether a UDP checksum it carries
to the device fails (R570, R575, R586). -/
structure EthFrame where
  src : Nat
  dst : Nat
  etherType : Nat
  length : Nat
  vlan : Option Nat
  payload : List Byte
  fcsOk : Bool
  badChecksum : Bool
  deriving DecidableEq, Repr

/-- A frame of EtherType 0x88B5 (R576): the port it arrived on, its addresses, its 802.1Q tag and the bytes after the EtherType, eight of
header and the payload. -/
structure EnumFrame where
  port : Port
  src : Nat
  dst : Nat
  vlan : Option Nat
  bytes : List Byte
  deriving DecidableEq, Repr

/-- A read of SECDED memory: ok, corrected, or a double-bit error, which the rule of the memory's owner answers (R413, R683); or, for a
packet on its way into the spool, a word lost in a double-bit error of the crossing from the core to DRAM (R548). -/
inductive MemRead where
  | ok | corrected | double | crossed
  deriving DecidableEq, Repr

/-- What an update instant of an aux output meets: how the read of its sample goes, and the core cycle in which a report of it arrives
(R682, R683). -/
structure WaveRead where
  read : MemRead
  cyc : Nat
  deriving DecidableEq, Repr

/-- A rebuild of a remapped DRAM region, with the bits that DRAM has inverted there since the last access (R546): in granules of the point
store, 144 to an entry; in list-source granules of sweep descriptors, 128 to an entry, then the CRC-32; in calibration sets. -/
structure Rebuild where
  region : Nat
  points : List (Nat × List Nat)
  lists : List (Nat × Nat × List Nat)
  cals : List (Nat × List Nat)
  deriving DecidableEq, Repr

/-- A block as a link receives it (R449, R450): its sync header, its payload as it came, scrambled, and the 58 payload bits received
before it, the latest in bit 57. -/
structure Received where
  header : Nat
  bits : Block
  before : BitVec 58
  deriving DecidableEq, Repr

/-- What a receiver that has no block lock yet hears of a link (R451): the sync headers of the blocks before, oldest first, and the block
that is read. -/
structure Heard where
  headers : List Nat
  block : Received
  deriving DecidableEq, Repr

/-- A block received on the link of a channel. -/
structure OnLink where
  chan : Nat
  block : Received
  deriving DecidableEq, Repr

/-- How an expansion ended (R250): whether a lasting DRAM fault ended it, and the bits that DRAM has inverted since the last access,
by list-source granule: 128 to an entry, then the CRC-32. -/
structure ExpansionEnd where
  interrupted : Bool
  inverted : List (Nat × List Nat)
  deriving DecidableEq, Repr

/-- What a scrub pass over the SRAMs and the crossing FIFOs met. regions are those in which a single-bit error was corrected (R534).
fixed are the islands that words came into with a single-bit error corrected: 0-7 the link islands, then the core, firmware, Ethernet,
DRAM and aux analog island (R19). lost are the crossings other than those between a link island and the core in which a double-bit
error was detected: 16-27, in the order of R18 with each direction by itself (R548). lines are the cache lines, by sequencer, in which
a double-bit error was detected (R256, R313). -/
structure ScrubPass where
  regions : List Nat
  fixed : List Nat
  lost : List Nat
  lines : List (Bool × Nat × Nat)
  deriving DecidableEq, Repr

/-- Where the head reports a pin for one vector (R322-R324, R455): the upstream fast block that carries the strobe's result and the
place of the result in it, and the fast block of the frame that contains the vector's pin start; none where the block did not arrive. -/
structure PinReport where
  result : Option Received
  place : Nat
  clamp : Option Received
  deriving DecidableEq, Repr

/-- How the read of a channel's loop state went (R533): good; a double-bit error in the current copy; one in both copies or
in a coefficient word. -/
inductive StateRead where
  | good | current | both
  deriving DecidableEq, Repr

/-- What a scan of the journal device finds from program unit on (R433-R435): the words of data units that may be a record's,
erased bytes reading all ones, and of the unit after them. -/
structure JImage where
  unit : Nat
  data : List Word
  commit : List Word
  deriving DecidableEq, Repr

/-- A record of the journal: its number, first unit, data units and packets, when it opened and closed, the CRC-32 of its data units,
the words of its commit unit, which are formed once every data unit has reported success, and whether that unit was programmed
(R433-R435). -/
structure JRecord where
  jseq : Nat
  unit : Nat
  units : Nat
  packets : List (List Word)
  openTime : Nat
  closeTime : Nat
  dataCrc : Nat
  commit : List Word
  committed : Bool
  deriving DecidableEq, Repr

/-- The commands, in the order of spec/opcode_table.json. The host's requests carry their envelope and BODY; a request that
writes one field carries that field's value. n numbers a sequencer: of a bank where bank holds, else of a channel. -/
inductive Instr where
  /-- SESSION_OPEN (R596). Opens a session with the requested rates, derives its key and replies with the granted
  values, or refuses when sessions, rate or spans do not allow it. -/
  | sessionOpen (e : Envelope) (body : List Word)
  /-- SESSION_CLOSE (R598). Ends the session, discarding its staged groups and orphaning its locks. -/
  | sessionClose (e : Envelope) (body : List Word)
  /-- SESSION_PING (R598). Costs its tokens, keeps the session alive and does nothing else. -/
  | sessionPing (e : Envelope) (body : List Word)
  /-- OBJ_READ (R624). Returns the listed fields of an object type, in the applied or the staged view. Here obj is
  the low byte of the code. -/
  | objRead (e : Envelope) (obj : Nat) (body : List Word)
  /-- OBJ_WRITE (R28). Writes live, locked, W1C and SC fields that have no row of their own; all items are checked
  first and act at one boundary. Here obj is the low byte of the code. -/
  | objWrite (e : Envelope) (obj : Nat) (body : List Word)
  /-- OBJ_STAGE (R34). Stores staged values in a commit group's staging buffer and takes ownership of that buffer.
  Here obj is the low byte of the code. -/
  | objStage (e : Envelope) (obj : Nat) (body : List Word)
  /-- COMMIT (R43). Checks the named groups, takes a ticket, or is refused; an admitted commit has its lead work
  scheduled on the commit path. -/
  | commit (e : Envelope) (body : List Word)
  /-- COMMIT_RELEASE (R43). When a commit's lead work ends, the shadow copies, the flags and the release word are
  written for its apply boundary. Here num is the ticket whose lead work ends. -/
  | commitRelease (num : Nat)
  /-- GROUP_APPLY (R44). At a device frame boundary, released staged groups and then live writes are applied before
  the frame is computed. Here t is the device time of the boundary. -/
  | groupApply (t : Nat)
  /-- DISCARD (R37). Empties the named groups' staging buffers and releases their ownership. -/
  | discard (e : Envelope) (body : List Word)
  /-- DEV_CAPS (R635). Returns the capability counts and identity of the device. -/
  | devCaps (e : Envelope) (body : List Word)
  /-- DEV_CAL_WRITE (R227). Writes words into a calibration set, making it FILLING. -/
  | devCalWrite (e : Envelope) (body : List Word)
  /-- DEV_CAL_SEAL (R228). Checks a calibration set and makes it LOADED, or refuses it. -/
  | devCalSeal (e : Envelope) (body : List Word)
  /-- DEV_CAL_FREE (R226). Returns a calibration set to EMPTY unless it is in use. -/
  | devCalFree (e : Envelope) (body : List Word)
  /-- DEV_CAL_INFO (R636). Returns a calibration set's state, its users and its header. -/
  | devCalInfo (e : Envelope) (body : List Word)
  /-- DEV_THAW (R551). Releases a frozen master so that it continues. -/
  | devThaw (e : Envelope) (body : List Word)
  /-- DEV_MASTER_RESET (R551). Resets a frozen master: it ends a session, stops a sequencer, or restarts a task. -/
  | devMasterReset (e : Envelope) (body : List Word)
  /-- DEV_FAULT_READ (R567). Returns the oldest fault log entries and frees them. -/
  | devFaultRead (e : Envelope) (body : List Word)
  /-- DEV_NOTICE_READ (R611). Returns notices from the notice ring, starting at a named NSEQ. -/
  | devNoticeRead (e : Envelope) (body : List Word)
  /-- ARM (R82). Checks the named channels and arms them at a boundary, starting relay closure, or refuses them
  all. -/
  | arm (e : Envelope) (body : List Word)
  /-- ARM_APPLY (R85). At the apply boundary of a timed ARM, each channel is checked again; channels that fail are
  not armed and N_ARM_FAILED is sent. Here id is the admitted command. -/
  | armApply (id : Nat)
  /-- DISARM (R90). Ramps the set-point to 0 and opens the relay, or with IMMEDIATE commands the safe state at
  once. -/
  | disarm (e : Envelope) (body : List Word)
  /-- CHAN_CLEAR (R639). Returns a TRIPPED channel to READY, or releases a channel held at zero. -/
  | chanClear (e : Envelope) (body : List Word)
  /-- CHAN_HEAD_READ (R469). Reads head registers over the link's message lane. -/
  | chanHeadRead (e : Envelope) (body : List Word)
  /-- CHAN_HEAD_WRITE (R469). Writes vendor head registers over the link's message lane. -/
  | chanHeadWrite (e : Envelope) (body : List Word)
  /-- ENGINE_RETIRE (R541). Retires an in-service engine as if its fault were lasting, which starts a failover. -/
  | engineRetire (e : Envelope) (body : List Word)
  /-- SEQ_RUN (R266). Admits and starts a channel sequencer at PC0, reserving its DRAM grant and cache. -/
  | seqRun (e : Envelope) (body : List Word)
  /-- RUN_APPLY (R720). At the apply boundary of a timed SEQ.RUN or BSEQ.RUN, each sequencer is checked again; one
  that fails does not start and N_RUN_FAILED is sent. Here id is the admitted command. -/
  | runApply (id : Nat)
  /-- TIMED_COMMAND_APPLY (R628). An admitted timed DISARM, STOP, ACQ.ARM or ACQ.FORCE acts at its promised
  boundary. Here id is the admitted command. -/
  | timedCommandApply (id : Nat)
  /-- SEQ_STOP (R267). Ends playback at the next boundary, or at the segment end with AT_END, and enters DONE. -/
  | seqStop (e : Envelope) (body : List Word)
  /-- SEQ_RESUME (R302). Starts a parked sequencer's chosen segment after RECLAIM. -/
  | seqResume (e : Envelope) (body : List Word)
  /-- BSEQ_RUN (R318). Admits and starts a bank sequencer at its first issue boundary. -/
  | bseqRun (e : Envelope) (body : List Word)
  /-- BSEQ_STOP (R317). Ends bank sequencer playback as SEQ.STOP does. -/
  | bseqStop (e : Envelope) (body : List Word)
  /-- BSEQ_RESUME (R317). Resumes a parked bank sequencer as SEQ.RESUME does. -/
  | bseqResume (e : Envelope) (body : List Word)
  /-- BSEQ_VEC_WRITE (R311). Writes vectors into both copies of the bank vector memory. -/
  | bseqVecWrite (e : Envelope) (body : List Word)
  /-- BSEQ_LANE_WRITE (R311). Writes lane entries into both copies of the bank vector memory. -/
  | bseqLaneWrite (e : Envelope) (body : List Word)
  /-- BSEQ_CAPT_READ (R327). Returns the oldest capture ring entries and frees them. -/
  | bseqCaptRead (e : Envelope) (body : List Word)
  /-- SWEEP_LIST_WRITE (R252). Writes list entries into a LIST descriptor's list source, taking granules as
  needed. -/
  | sweepListWrite (e : Envelope) (body : List Word)
  /-- ACQ_ARM (R368). Admits and arms acquisition units, which then form intervals from the next channel frame. -/
  | acqArm (e : Envelope) (body : List Word)
  /-- ACQ_STOP (R371). Completes a record in progress with TRUNC and puts the unit in DONE. -/
  | acqStop (e : Envelope) (body : List Word)
  /-- ACQ_FORCE (R376). Triggers the named units from the host at a device frame boundary. -/
  | acqForce (e : Envelope) (body : List Word)
  /-- ROUTE_SINK_READ (R345). Returns a consumer's overrun, coincidence, busy state and counts. -/
  | routeSinkRead (e : Envelope) (body : List Word)
  /-- ROUTE_SINK_CLEAR (R345). Clears a consumer's OVERRUN flag and sets OVERRUNS to 0. -/
  | routeSinkClear (e : Envelope) (body : List Word)
  /-- FIFO_FLUSH (R414). Closes the open packets of every unit of the named FIFOs at their next entry boundary. -/
  | fifoFlush (e : Envelope) (body : List Word)
  /-- SPOOL_READ (R617). Pull read: returns whole spool packets with their cursors, or the not-valid tag. -/
  | spoolRead (e : Envelope) (body : List Word)
  /-- SPOOL_ACK (R618). Acknowledges pulled packets up to a cursor, so that they can leave the spool. -/
  | spoolAck (e : Envelope) (body : List Word)
  /-- SPOOL_DISCARD (R428). Empties the spool and every FIFO ring while no consumer is enabled. -/
  | spoolDiscard (e : Envelope) (body : List Word)
  /-- JOURNAL_OPEN (R438). Switches the journal device to 8D mode and starts the scan of the journal. -/
  | journalOpen (e : Envelope) (body : List Word)
  /-- JOURNAL_SCAN_DONE (R438). The journal scan ends, setting FIRST_JSEQ, NEXT_JSEQ, USED and TORN and placing the
  next record. Here found lists what stands on the device. -/
  | journalScanDone (found : List JImage)
  /-- JOURNAL_READ (R644). Returns the packets of a valid journal record from a given offset. -/
  | journalRead (e : Envelope) (body : List Word)
  /-- ARB_READ (R526). Returns a master's arbiter grants, waits and starvation data. -/
  | arbRead (e : Envelope) (body : List Word)
  /-- ARB_CLEAR (R526). Clears a master's WAITS, LONGEST, STARVES and STARVED. -/
  | arbClear (e : Envelope) (body : List Word)
  /-- LOCK_TAKE (R553). Takes the lowest free lock on an instance with a lease. -/
  | lockTake (e : Envelope) (body : List Word)
  /-- LOCK_RENEW (R553). Restarts the lease of an owned lock. -/
  | lockRenew (e : Envelope) (body : List Word)
  /-- LOCK_RELEASE (R553). Ends an owned lock. -/
  | lockRelease (e : Envelope) (body : List Word)
  /-- LOCK_RECLAIM (R556). Makes the session the owner of an ORPHANED lock with a new lease. -/
  | lockReclaim (e : Envelope) (body : List Word)
  /-- LEASE_EXPIRY (R554). An unrenewed lease or the loss of its session makes the lock ORPHANED, and
  N_LOCK_ORPHANED is sent. Here k is the lock. -/
  | leaseExpiry (k : Nat)
  /-- HK_RUN (R670). Starts the housekeeping conversion sequence at slot 0. -/
  | hkRun (e : Envelope) (body : List Word)
  /-- HK_STOP (R674). Ends the sequence and abandons a sequence conversion in progress. -/
  | hkStop (e : Envelope) (body : List Word)
  /-- HK_CONVERT (R672). Starts or queues a host conversion of one input. -/
  | hkConvert (e : Envelope) (body : List Word)
  /-- HK_SLOT_DUE (R670). A sequence slot becomes due after GAP and starts, or waits and slips. Here t is the device
  time. -/
  | hkSlotDue (t : Nat)
  /-- HK_CONVERSION_DONE (R675). A conversion result arrives: VALUE, STAMP and OVR are updated, the HK source fires
  and the next conversion may start. Here x is the converted sample, t the device time, cyc the core cycle. -/
  | hkConversionDone (x : Sample) (t cyc : Nat)
  /-- HK_URGENT_ACTIVATION (R673). An activation reaching the aux island starts an urgent conversion, or is dropped
  and counted. Here n is the input, t the device time. -/
  | hkUrgentActivation (n t : Nat)
  /-- HK_PACKET_TIMEOUT (R676). An HK packet closes 1 ms after its first record. Here cyc is the core cycle. -/
  | hkPacketTimeout (cyc : Nat)
  /-- AOUT_RUN (R680). Requests playback of the named aux outputs. -/
  | aoutRun (e : Envelope) (body : List Word)
  /-- AOUT_STOP (R681). Requests the end of playback of the named outputs. -/
  | aoutStop (e : Envelope) (body : List Word)
  /-- AOUT_WAVE_WRITE (R683). Writes samples into an output's waveform memory. -/
  | aoutWaveWrite (e : Envelope) (body : List Word)
  /-- AOUT_PLAYBACK_START (R680). Playback begins at the first update instant at least 200 ns after the command or
  start activation, and source 2k fires. Here k is the output, t the device time, cyc the core cycle, r how the read
  of its sample went. -/
  | aoutPlaybackStart (k t cyc : Nat) (r : MemRead)
  /-- AOUT_PLAYBACK_END (R681). Playback ends at its last pass or on a stop; the output keeps its sample and source
  2k + 1 fires. Here k is the output, t the device time, cyc the core cycle. -/
  | aoutPlaybackEnd (k t cyc : Nat)
  /-- AOUT_LEVEL (R679). A LEVEL write reaches the idle output at the next update instant, or is stored during
  playback. -/
  | aoutLevel (e : Envelope) (k : Nat) (w : Word)
  /-- TIME_LOAD (R493). Sets device time at the next frame boundary on a quiet device. -/
  | timeLoad (e : Envelope) (body : List Word)
  /-- SYNC_CALIBRATE (R511). The origin sends a CAL word and starts a skew calibration run over W hop windows. -/
  | syncCalibrate (e : Envelope) (body : List Word)
  /-- CALIBRATION_WINDOW (R512). A hop window ends with CAL_RT and CAL_TURN recorded and the next hop measured. Here
  answers is how many answers the measuring device has stamped in the window and sum what their round trips add up to, in 1/128 ns. -/
  | calibrationWindow (sum answers : Nat)
  /-- EXPAND (R247). Writing SWEEP CTRL.EXPAND checks the descriptor and starts its expansion into the point
  store. -/
  | expand (e : Envelope) (d : Nat)
  /-- EXPANSION_DONE (R250). Expansion ends: LENGTH, VMIN and VMAX are set and the descriptor becomes READY, or
  FAULT. Here d is the descriptor. -/
  | expansionDone (d : Nat) (x : ExpansionEnd)
  /-- RELEASE (R253). Writing SWEEP CTRL.RELEASE returns the descriptor to EMPTY and frees its list source. -/
  | release (e : Envelope) (d : Nat)
  /-- CLEAR (R164). Writing REPET CTRL.CLEAR sets every bin to 0.0 unless the channel is armed. -/
  | clear (e : Envelope) (c : Nat)
  /-- SWFLAG (R262). Writing CTRL.SWFLAG raises the host condition of a channel or bank sequencer. -/
  | swflag (e : Envelope) (bank : Bool) (n : Nat)
  /-- ACCEPT_NEW (R478). Accepts a changed head descriptor so that the link can train. Here w is the rest of the
  field. -/
  | acceptNew (e : Envelope) (c : Nat) (w : Word)
  /-- FAULT_STATUS (R530). A W1C write clears FAULT_STATUS bits, which may release FAULT_N. -/
  | faultStatus (e : Envelope) (w : Word)
  /-- FORCE_LEVEL (R65). A live set-point write is checked against the applied and pending limits and acts at the
  next boundary. -/
  | forceLevel (e : Envelope) (c : Nat) (w : Word)
  /-- RATE_WRITE (R282). A live write of SEQ RATE sets φ to 0 and starts a fresh input sample at its boundary. -/
  | rateWrite (e : Envelope) (c : Nat) (hi lo : Word)
  /-- HRST (R445). Writing BANK LINK_CTRL.HRST drives or releases HRST_N of the bank. Here on is the bit HRST, w the
  rest of the field. -/
  | hrst (e : Envelope) (b : Nat) (on : Bool) (w : Word)
  /-- LCLK_EN (R444). Writing LINK_CTRL.LCLK_EN starts or stops LCLK of the bank. Here on is the bit LCLK_EN, w the
  rest of the field. -/
  | lclkEn (e : Envelope) (b : Nat) (on : Bool) (w : Word)
  /-- LINK_EN (R471). Writing CHAN LINK_CTRL.LINK_EN enables training of the link, or fails the link with
  F_LINK_RESET. Here on is the bit LINK_EN, w the rest of the field. -/
  | linkEn (e : Envelope) (c : Nat) (on : Bool) (w : Word)
  /-- CURFEW (R482). A CURFEW write is sent to the trained head's CURFEW register within 20 µs. Here v is CURFEW, w
  the rest of the field. -/
  | curfew (e : Envelope) (c : Nat) (v : Nat) (w : Word)
  /-- EGRESS_EN (R615). Writing SPOOL CTRL.EGRESS_EN starts push egress to the writing session, or stops it after
  the datagram in progress. -/
  | egressEn (e : Envelope) (on : Bool)
  /-- LOG_EN (R432). Writing JOURNAL CTRL.LOG_EN starts or stops logging to the journal. -/
  | logEn (e : Envelope) (on : Bool)
  /-- SPOOL_SIZE (R421). A write of SPOOL CFG.SIZE resizes an empty spool. Here v is SIZE, w the rest of the
  field. -/
  | spoolSize (e : Envelope) (v : Nat) (w : Word)
  /-- HALT (R272). Sequencer instruction: enters DONE, keeping the last output value. -/
  | halt (bank : Bool) (n : Nat)
  /-- PLAY (R272). Sequencer instruction: starts playback of a segment. -/
  | play (bank : Bool) (n : Nat)
  /-- JUMP (R272). Sequencer instruction: goes to TARGET if its condition holds on the latches. -/
  | jump (bank : Bool) (n : Nat)
  /-- LOOP (R272). Sequencer instruction: sets a loop counter. -/
  | loop (bank : Bool) (n : Nat)
  /-- ENDLOOP (R272). Sequencer instruction: decrements a counter and loops back unless it reached 0. -/
  | endloop (bank : Bool) (n : Nat)
  /-- WAIT (R272). Sequencer instruction: holds the last input sample until its condition holds or ARG frames
  pass. -/
  | wait (bank : Bool) (n : Nat)
  /-- WAIT_RELEASE (R721). A WAIT releases at the first channel frame boundary at which its condition holds. -/
  | waitRelease (bank : Bool) (n : Nat)
  /-- WAIT_TIMEOUT (R272). A WAIT goes to TARGET after ARG frames without release. -/
  | waitTimeout (bank : Bool) (n : Nat)
  /-- RATE (R282). Sequencer instruction: writes RATES[ARG] into RATE and starts a fresh input sample. -/
  | rate (n : Nat)
  /-- EMIT (R272). Sequencer instruction: emits markers. -/
  | emit (bank : Bool) (n : Nat)
  /-- TSET (R317). Bank sequencer instruction: selects the timing set from the next issue boundary. -/
  | tset (b : Nat)
  /-- SEGMENT_END (R278). At the boundary ending a segment's last sample, the sequencer takes its decision on the
  latches and emits SEGEND. -/
  | segmentEnd (bank : Bool) (n : Nat)
  /-- INPUT_SAMPLE_BOUNDARY (R280). The resampler phase reaches 2^60 and the next input sample begins at the channel
  frame boundary. -/
  | inputSampleBoundary (c : Nat)
  /-- UNDERRUN_RESUME (R294). At a possible resume boundary where the chosen segment's head is cached, playback
  resumes and a gap marker is written. -/
  | underrunResume (bank : Bool) (n : Nat)
  /-- GRANULE_FETCH (R242). A fetched point, vector or list granule arrives from DRAM and is checked before it
  enters the cache or window. Here key names the granule in the cache; inA and inB are the bits, 144 to an entry, that DRAM has
  inverted since the last access, in the granule or in its copies A and B. -/
  | granuleFetch (bank : Bool) (n key : Nat) (inA inB : List Nat)
  /-- REGENERATION_DONE (R254). A regenerated granule is written back and delivered to the cache, and RECOMP_COUNT
  increments. Here g is the granule of the point store; inverted are the bits that DRAM has inverted since the last
  access in the list-source granule it is made from: 128 to an entry, then the CRC-32. -/
  | regenerationDone (g : Nat) (inverted : List Nat)
  /-- REMAP_REBUILD_DONE (R546). The rebuild of a remapped region ends. Here r names the
  DRAM region and what the rebuild has read there. -/
  | remapRebuildDone (r : Rebuild)
  /-- STREAM_DATAGRAM (R620). A STREAM datagram's granules are accepted, discarded as late or refused, and a
  STREAM_ACK is sent. Here e is its envelope and code its CODE. -/
  | streamDatagram (e : Envelope) (code : BitVec 16) (body : List Word)
  /-- VECTOR_ISSUE (R319). At an issue boundary the bank sequencer selects the next vector and its timing set. -/
  | vectorIssue (b : Nat)
  /-- PIN_RESULT_CREDIT (R325). A pin compare result is credited to the open latches 300 ns after its strobe. Here
  the vector of bank b issued at device time t, pin j of the bank. -/
  | pinResultCredit (b t j : Nat) (r : PinReport)
  /-- LOOP_UPDATE (R106). An upstream fast block's sample becomes available and the engine computes the channel's
  update, output and tail. Here up is the fast block with its sync header, or none where no block arrived; cyc the
  core cycle in which its sample is available, delay the measured loop delay where one is measured, r how the read
  of the loop state went, x how the crossings went. -/
  | loopUpdate (c : Nat) (up : Option Received) (cyc : Nat) (delay : Option Nat) (r : StateRead) (x : Crossing)
  /-- LATE_RESULT (R123). A result not written 30 core cycles after its sample is replaced by a hold fast block and
  counted against the engine. Here slot is the slot of the hold fast block. -/
  | lateResult (c slot : Nat)
  /-- PREDICTION_HOLD (R128). After PRED_MAX consecutive predicted frames, the engine holds the output and freezes
  its states. -/
  | predictionHold (c : Nat)
  /-- COMPLIANCE_EXIT (R114). After 16 frames without the compliance output selected, the channel leaves
  compliance. -/
  | complianceExit (c : Nat)
  /-- CROSS_TIME (R71). A channel in compliance for CROSS_TIME trips. -/
  | crossTime (c : Nat)
  /-- PROTECTION_TRIP (R73). A limit exceeded for PROT_DELAY frames trips the channel, increments TRIP_COUNT and
  sends N_PROTECT. -/
  | protectionTrip (c : Nat)
  /-- CHAN_EVENT_TRIP (R334). An activation of a channel's trip input trips it in its first frame at least 10 cycles
  later. -/
  | chanEventTrip (c : Nat)
  /-- OUTER_UPDATE (R151). At a divider frame the outer loop computes a new inner set-point from Y_MEAN. -/
  | outerUpdate (c : Nat)
  /-- THERM_SRC_LOST (R159). Thermal feedback older than MAX_AGE holds the outer loop and sends N_THERM_SRC. -/
  | thermSrcLost (c : Nat)
  /-- THERM_SRC_TRIP (R159). Thermal feedback reaching twice MAX_AGE trips the channel. -/
  | thermSrcTrip (c : Nat)
  /-- REPET_BIN_END (R167). A repetitive-controller bin completes, is learned or skipped, and the bin behind is
  written. -/
  | repetBinEnd (c : Nat)
  /-- FE_ACTION (R185). The following-error timer reaches FE_TIME and its notice or trip acts. -/
  | feAction (c : Nat)
  /-- PLAUS_ACTION (R191). The implausible count reaches COUNT of the phase and its action acts. -/
  | plausAction (c : Nat)
  /-- SUPV_PHASE_END (R189). The start-up or recovery phase of supervision ends when its time has passed. -/
  | supvPhaseEnd (c : Nat)
  /-- RANGE_TIMEOUT (R205). A range change unreported after 2 × OVERLAP + 20 µs trips the channel. -/
  | rangeTimeout (c : Nat)
  /-- UP_RANGE (R215). A measured value above UP for UP_COUNT frames starts an up-range. -/
  | upRange (c : Nat) (current : Bool)
  /-- DOWN_RANGE (R216). Values below DOWN for DWELL start a down-range. -/
  | downRange (c : Nat) (current : Bool)
  /-- CORRECTION_EVAL (R231). Every 32 frames the correction unit evaluates coefficient pairs for armed channels.
  Here inverted lists the bits of calibration sets that DRAM has inverted since their blocks were last read, bits 32 i on those of word
  i. -/
  | correctionEval (b : Nat) (inverted : List (Nat × List Nat))
  /-- PAIRS_TAKE_EFFECT (R201). Evaluated coefficient pairs take effect at the boundary at least 1 µs after their
  start. -/
  | pairsTakeEffect (c : Nat)
  /-- RAMP_START (R89). After the relay is reported closed, or at the synchronised start, the channel enters ARMED
  and ramps. -/
  | rampStart (c : Nat)
  /-- RELAY_CLOSE_TIMEOUT (R88). A relay not reported closed in time disarms the channel and sends N_ARM_FAILED. -/
  | relayCloseTimeout (c : Nat)
  /-- DISARM_COMPLETE (R90). After the relay is reported open, or its open time has passed, IDLE frames are sent and
  the channel is READY. -/
  | disarmComplete (c : Nat)
  /-- UPSTREAM_STATUS (R713). Upstream blocks 1–9 of a frame are received and, if their CRC passes, the relay,
  temperature, ALERT and RX_ERR reports are taken. Here blocks are their sync headers and payloads as they came, scrambled, and before
  the 58 payload bits received before them. -/
  | upstreamStatus (c : Nat) (blocks : List (Nat × Block)) (before : BitVec 58)
  /-- HALERT_FALL (R447). A falling HALERT_N edge reads the heads' FAULT, acts as ALERT_ACT selects and sends
  N_HEAD_ALERT. Here low says for how long the line then stays low, in ns. -/
  | halertFall (b low : Nat)
  /-- LINK_TRAINING_START (R471). Once HRST_N and LCLK conditions hold, the controller starts training with TS1. -/
  | linkTrainingStart (c : Nat)
  /-- TRAINING_RETRY (R471). A new training attempt starts 10 ms after a failed one. -/
  | trainingRetry (c : Nat)
  /-- TS1_ECHO (R473). Upstream lock and the CHAN echo are checked, and TS2 is sent. Here heard is what
  has been received of the link since the event before. -/
  | ts1Echo (c : Nat) (heard : Heard)
  /-- TS2_ECHO (R473). The head's aligned TS2 is received, and round-trip measurement begins. Here r is the block received and
  its channel. -/
  | ts2Echo (r : OnLink)
  /-- RT_MEASURED (R474). The round trip over 64 frames is measured and TS3 carries ADV. Here count is the measured
  count. -/
  | rtMeasured (c count : Nat)
  /-- TS3_ECHO (R473). The head's TS3 echoes ADV and the alignment check begins. Here r is the block received. -/
  | ts3Echo (c : Nat) (r : Received)
  /-- ALIGNMENT_CHECK (R473). Upstream frame alignment is checked over 64 frames, then IDLE frames start and the
  descriptor is read. Here ok says that the alignment held over 64 frames. -/
  | alignmentCheck (c : Nat) (ok : Bool)
  /-- DESCRIPTOR_CHECK (R477). The head's descriptor is checked and accepted, or refused. Here words are the words
  of the descriptor that was read. -/
  | descriptorCheck (c : Nat) (words : List Block)
  /-- TRAINING_TIMEOUT (R475). A training step missing its bound fails the attempt. -/
  | trainingTimeout (c : Nat)
  /-- LINK_CRC_FAIL (R483). Link errors reaching THRESH within WINDOW fail the link: LINK_DOWN, with N_FAULT and
  N_LINK_DOWN. -/
  | linkCrcFail (c : Nat)
  /-- BLOCK_LOCK_LOST (R451). Loss of upstream block lock fails the link with F_LINK_LOCK. -/
  | blockLockLost (c : Nat)
  /-- TRAINING_BLOCK_RECEIVED (R484). A training block received on a trained link fails the link with
  F_LINK_LOCK. Here r is the block and its channel. -/
  | trainingBlockReceived (r : OnLink)
  /-- HEAD_MESSAGE_RESPONSE (R467). A head response on the message lane completes its request. Here tag, status and
  words are those of the response. -/
  | headMessageResponse (c tag status : Nat) (words : List Block)
  /-- HEAD_MESSAGE_TIMEOUT (R467). A request without a response after 4 µs is repeated, or fails after three
  repeats. Here tag is that of the request. -/
  | headMessageTimeout (c tag : Nat)
  /-- HELD_FRAME (R536). For a HELD channel the link island sends a hold fast block, the held blocks 1–9 and a HELD
  frame to acquisition. Here up is the fast block of the frame with its sync header, cyc the core cycle, slot the
  slot of the hold fast block. -/
  | heldFrame (c : Nat) (up : Option Received) (cyc slot : Nat)
  /-- HELD_PROTECTION_TRIP (R543). A raw sample beyond the protection codes for PROT_DELAY frames commands a HELD
  channel safe. -/
  | heldProtectionTrip (c : Nat)
  /-- ENGINE_FRAME (R532). An engine frame runs its known-answer self-check, and its write-back becomes current only
  if the check passes. Here pass says that the self-check passed. -/
  | engineFrame (n : Nat) (pass : Bool)
  /-- FAILOVER (R537). The firmware checks the spare, tests it, loads the loop programs, maps the octet and releases
  it. Here o is the octet; pass says that the test of the spare passed. -/
  | failover (o : Nat) (pass : Bool)
  /-- FAILOVER_TIMEOUT (R539). An octet still HELD after 50 µs, or without a spare, is commanded safe with
  F_NO_SPARE. -/
  | failoverTimeout (o : Nat)
  /-- SRAM_SCRUB (R534). A scrub pass reads and corrects SECDED SRAM words. Beside them stands what the
  crossing FIFOs met. -/
  | sramScrub (pass : ScrubPass)
  /-- DRAM_REQUEST (R522). A DRAM request is queued for a slot, or a sequencer exceeding its grant is refused. Here
  m is the master, unit the 576-bit unit asked for, sel the slot in which it asks; regen marks an access of a
  regeneration. -/
  | dramRequest (m unit : Nat) (regen : Bool) (sel : Nat)
  /-- FIRMWARE_REGION_VIOLATION (R550). A firmware task writing outside its region is frozen. Here task is the
  firmware task. -/
  | firmwareRegionViolation (task : Nat)
  /-- ARB_GRANT_LATE (R549). A request within grant waiting over 1.2 µs counts as an ARB_GRANT error. Here m is the
  master, slot the present slot. -/
  | arbGrantLate (m slot : Nat)
  /-- STARVATION (R524). A request waiting past STARVE sets STARVED and sends N_ARB_STARVE. Here m is the master,
  slot the present slot. -/
  | starvation (m slot : Nat)
  /-- QUAD_RETURN (R525). A moved quad returns to FREE after REBAL_HOLD without starvation. Here k is the class the
  quad was moved to, slot the present slot. -/
  | quadReturn (k slot : Nat)
  /-- TABLE_SWAP (R519). A requested arbiter table swap takes effect at the next table-cycle boundary. Here slot is
  the slot that begins a table cycle. -/
  | tableSwap (slot : Nat)
  /-- TRIG_INPUT_EDGE (R355). A selected edge at a TRIG input is stamped and fires its source. Here k is the pin,
  high its level after the edge, cyc the core cycle in which the edge fires, stamp the device time of the crossing
  in 1/128 ns. -/
  | trigInputEdge (k : Nat) (high : Bool) (cyc stamp : Nat)
  /-- EVENT_DELIVERY (R343). Deliveries reaching a consumer in one cycle form an arrival group that activates the
  consumer once. Here dst is the consumer, cyc the core cycle. -/
  | eventDelivery (dst cyc : Nat)
  /-- TRIG_PULSE_END (R356). A TRIG output pulse ends after PULSE cycles and the pin is free. Here k is the pin, cyc
  the core cycle. -/
  | trigPulseEnd (k cyc : Nat)
  /-- MERIDIAN (R504). At a meridian the origin launches MARK, followed by TIME_HI, TIME_LO and PERIOD. -/
  | meridian
  /-- SYNC_WORD (R507). A complete SYNC word is received, checked and acted on. Here w is the word, cyc the core
  cycle. -/
  | syncWord (w : BitVec 48) (cyc : Nat)
  /-- SYNC_EVENT_FIRE (R510). At the target boundary every device fires SEk, or counts EVT_LATE. -/
  | syncEventFire (k : Nat)
  /-- SYNC_LOST (R509). No SYNC_IN edge for 8 frames clears PRESENT and sends N_SYNC_LOST. -/
  | syncLost
  /-- PTP_MESSAGE (R497). A PTP message is handled by the ordinary clock, disciplining time when SOURCE is PTP. Here
  rx is the device time of reception, residence the time it spends in the device, in 1/128 ns. -/
  | ptpMessage (p : Port) (f : PtpFrame) (m : PtpMsg) (rx residence : Int)
  /-- REFCLK_LOST (R496). REFCLK absent for four periods puts the PLLs in holdover and sends N_REFCLK_LOST. -/
  | refclkLost
  /-- REFCLK_RELOCK (R496). REFCLK present for 10 ms relocks the PLLs without a phase step. -/
  | refclkRelock
  /-- ACQ_RECORD_COMPLETE (R369). A record's last post-trigger interval completes the record; the unit goes to
  HOLDOFF, DONE or the next record. -/
  | acqRecordComplete (a cyc : Nat)
  /-- ACQ_HOLDOFF_END (R369). The holdoff ends and the unit returns to ARMED. -/
  | acqHoldoffEnd (a : Nat)
  /-- DETECTION_START (R390). DET_FRAMES detecting frames start a detection and fire DETECT. -/
  | detectionStart (a cyc : Nat)
  /-- DETECTION_END (R390). DET_FRAMES releasing frames end a detection, fire DETECT_END and may write a detection
  record. -/
  | detectionEnd (a cyc : Nat)
  /-- PATTERN_FIRE (R395). A pattern matching for HOLD evaluations fires its source. -/
  | patternFire (p cyc : Nat)
  /-- FLUSH_TIME (R403). A unit's open packet with payload closes after FLUSH_TIME. -/
  | flushTime (u : Nat)
  /-- PACKET_TO_RING (R406). A closed packet is copied whole into its FIFO ring when there is room. Here f is the
  FIFO, r how the read of the packet buffer went. -/
  | packetToRing (f cyc : Nat) (r : MemRead)
  /-- SPOOL_WRITE (R411). The spool writer takes a packet from the next FIFO, writes its CRC and stores it. Here r
  is how the read of the ring went. -/
  | spoolWrite (cyc : Nat) (r : MemRead)
  /-- SPOOL_RESUME (R424). The spool writer resumes when the next packet fits. -/
  | spoolResume
  /-- EGRESS_DATAGRAM (R616). Push egress sends a paced datagram of whole spool packets, checking each packet. Here
  inverted names, for each packet read in order, the bits DRAM has inverted in it, bits 32 i on those of word i. -/
  | egressDatagram (inverted : List (List Nat))
  /-- EGRESS_FLUSH_TIMEOUT (R616). A datagram is sent 10 µs after its first packet was taken. -/
  | egressFlushTimeout
  /-- PAUSE_FRAME (R574). A received pause frame stops the port's transmissions for its pause time. -/
  | pauseFrame (p : Port) (quanta : Nat)
  /-- JOURNAL_TAKE (R436). The journal port takes a spool packet into its open record, opening or closing records as
  needed. Here inverted names the bits DRAM has inverted in the packet, bits 32 i on those of word i. -/
  | journalTake (inverted : List Nat)
  /-- JOURNAL_MAX_AGE (R436). A journal record open for MAX_AGE closes. -/
  | journalMaxAge
  /-- JOURNAL_PROGRAM_DONE (R434). All data units programmed lets the commit unit be programmed, committing the
  record. -/
  | journalProgramDone
  /-- JOURNAL_PROGRAM_FAIL (R440). A failed erase or program retires the block and rewrites the record elsewhere. -/
  | journalProgramFail (block : Nat)
  /-- CORE_WATCHDOG (R557). A firmware core's 2 ms watchdog expires and the core restarts. Here held are the
  requests, by session and SEQ, that the core was working on; ticket a commit it was writing. -/
  | coreWatchdog (held : List (Nat × Nat)) (ticket : Option Nat)
  /-- HOST_TIMEOUT (R559). No open session for HOST_TIMEOUT performs HOST_ACT and sends N_HOST_LOST. -/
  | hostTimeout
  /-- SESSION_TIMEOUT (R598). A session without a valid request for TIMEOUT ends. Here n is the session. -/
  | sessionTimeout (n : Nat)
  /-- HELD_REQUEST_EXPIRY (R599). An out-of-order request still held after 5 ms is dropped. Here n is the
  session. -/
  | heldRequestExpiry (n : Nat)
  /-- LANTERN (R614). At each lantern period N_LANTERN is sent to subscribed sessions. -/
  | lantern
  /-- PORT_LOST (R561). A port without lock, or with a fault, for 100 µs is lost; N_PORT_LOST and a ring-fault frame
  are sent. Here lock, localFault and remoteFault are the state of the port over the last 100 µs. -/
  | portLost (p : Port) (lock localFault remoteFault : Bool)
  /-- RING_FAULT (R561). A received ring-fault frame is forwarded and flushes the address table; the owner unblocks
  port B. -/
  | ringFault (f : EnumFrame)
  /-- PORT_UP (R563). A lost port with valid blocks for 1 s sends N_PORT_UP and a ring-restore frame. -/
  | portUp (p : Port)
  /-- RING_RESTORE (R563). A received ring-restore frame flushes the table; the owner blocks port B again. -/
  | ringRestore (f : EnumFrame)
  /-- FRAME_FORWARD (R571). The internal switch forwards a received frame, learning its source address. -/
  | frameForward (p : Port) (f : EthFrame)
  /-- ADDRESS_AGE_OUT (R572). A learned address is aged out 300 s after it was last seen. Here mac is the learned
  address. -/
  | addressAgeOut (mac : Nat)
  /-- ARP_REQUEST (R583). An ARP request for the device's IPv4 address is answered. Here target is the address asked
  for. -/
  | arpRequest (p : Port) (f : EthFrame) (target : Nat)
  /-- NEIGHBOUR_SOLICITATION (R583). A neighbour solicitation for the device's IPv6 addresses is answered. Here
  target is the address asked for. -/
  | neighbourSolicitation (p : Port) (f : EthFrame) (target : Nat)
  /-- ECHO_REQUEST (R583). An ICMP or ICMPv6 echo request is answered within the rate limit. -/
  | echoRequest (src : Source) (v6 : Bool) (id seq : Nat) (data : List Byte)
  /-- DIE_TEMP_MEASURE (R564). The 1 ms die temperature measurement sends N_OVERTEMP, or trips every running channel
  at 115 °C. Here tj is the hottest sensor in 1/64 K. -/
  | dieTempMeasure (tj : Nat)
  /-- PWRGOOD_FALL (R565). On a fall of PWRGOOD, IDLE frames go to every link and the journal commits its open
  record. -/
  | pwrgoodFall
  /-- SUPPLY_DETECTOR (R692). A rail below 90 % for 2 µs acts as a PWRGOOD fall and holds reset. Here vddio33 says
  that the rail is VDDIO33. -/
  | supplyDetector (vddio33 : Bool)
  /-- CONTROLLER_RESET (R651). RESET_N falling with PWRGOOD high resets the controller, retaining HRST_N. Here low
  is how long RESET_N is low, in ns. -/
  | controllerReset (low : Nat)
  /-- POWER_UP (R652). PWRGOOD rising begins power-up with every state lost. Here resetLow says that RESET_N is
  low. -/
  | powerUp (resetLow : Bool)
  /-- BOOT_ROM_START (R653). After RESET_N rises and the PLLs lock, the boot ROM initialises DRAM and starts serving
  enumeration. -/
  | bootRomStart
  /-- DISCOVER (R577). A DISCOVER on port A sets the position, is answered with REPLY and is forwarded. -/
  | discover (f : EnumFrame)
  /-- ASSIGN (R580). ASSIGN sets the MAC and IP addresses and the chain key, answered with ASSIGN_ACK or refused. -/
  | assign (f : EnumFrame)
  /-- LOAD_BEGIN (R656). Starts an image load under a LOAD_ID. -/
  | loadBegin (f : EnumFrame)
  /-- LOAD_DATA (R656). Stores image bytes at an offset. -/
  | loadData (f : EnumFrame)
  /-- LOAD_END (R657). Reports missing data, or starts the image check. -/
  | loadEnd (f : EnumFrame)
  /-- LOAD_QUERY (R657). Answers with LOAD_STATUS. -/
  | loadQuery (f : EnumFrame)
  /-- LOAD_ABORT (R656). Discards the image in progress. -/
  | loadAbort (f : EnumFrame)
  /-- IMAGE_CHECK_DONE (R659). The signature and hash check ends, accepting the image or discarding it with its
  RESULT. -/
  | imageCheckDone
  /-- FIRMWARE_START (R660). The firmware starts with every field at reset, and STARTED is sent. -/
  | firmwareStart
  /-- SYNC_IN_EDGE (R506). A SYNC_IN rising edge and its symbol arrive: the edge is stamped and filtered into
  PHASE_ERR, ALIGNED and PRESENT are updated, the symbol is relaunched with REPEAT, and during calibration it is
  answered. Here stamp is the device time of the edge in 1/128 ns, y the symbol it begins. -/
  | syncInEdge (stamp : Nat) (y : SyncSymbol)
  /-- ALIGNED_EXPIRY (R509). One second after SYNC is lost the follower stops being ALIGNED. -/
  | alignedExpiry
  /-- PAUSE_TIME_END (R574). The pause time of a received pause frame runs out and the port resumes sending,
  draining its queue. -/
  | pauseTimeEnd (p : Port)
  /-- HRST_N_RISE (R445). HRST_N rises once it has been low for 10 µs after HRST was written 0. -/
  | hrstNRise (b : Nat)
  /-- AOUT_UPDATE_INSTANT (R677). At each 1 µs update instant a playing output advances to its next sample, counting
  passes, with double-bit memory errors replaced by the previous sample. Here k is the output, t the device time, r
  how the read of its sample went, with the cycle of a report. -/
  | aoutUpdateInstant (k t : Nat) (r : WaveRead)
  /-- JOURNAL_ERASE_DONE (R438). An erase of a journal block completes and records may be programmed into it. -/
  | journalEraseDone (block : Nat)
  /-- FIRMWARE_RESTART_DONE (R558). All four cores are running again after a firmware restart, which lets FAULT_N
  follow FAULT_STATUS again. -/
  | firmwareRestartDone
  /-- PTP_TRANSMIT (R497). The ordinary clock sends its periodic Sync, Follow_Up, Announce or Delay_Req messages.
  Here tx is the device time in 1/128 ns. -/
  | ptpTransmit (k : PtpKind) (tx : Int)
  deriving DecidableEq, Repr

end Sys2Proof
end

