-- ==== Sys2Proof/Machine/Bits.lean ====
section
/-!
DEFINITION. Bit fields of words, byte order, signed readings: the plain helpers every chapter of the manual uses
(R11: most significant byte first; bit ranges are written [msb:lsb]).
-/

namespace Sys2Proof.Machine

/-- Bits [hi:lo] of a number. -/
def bitsOf (n hi lo : Nat) : Nat := (n / 2 ^ lo) % 2 ^ (hi + 1 - lo)

/-- Bits [hi:lo] of a word, as a number. -/
def fld (w : Word) (hi lo : Nat) : Nat := bitsOf w.toNat hi lo

/-- Bit i of a word. -/
def bitAt (w : Word) (i : Nat) : Bool := bitsOf w.toNat i i == 1

/-- The number n with bits [hi:lo] replaced by v. -/
def putBits (n hi lo v : Nat) : Nat :=
  n - bitsOf n hi lo * 2 ^ lo + (v % 2 ^ (hi + 1 - lo)) * 2 ^ lo

/-- The word w with bits [hi:lo] replaced by v. -/
def putFld (w : Word) (hi lo v : Nat) : Word := BitVec.ofNat 32 (putBits w.toNat hi lo v)

/-- The word w with bit i set to b. -/
def putBit (w : Word) (i : Nat) (b : Bool) : Word := putFld w i i b.toNat

/-- A number as a word. -/
def word (n : Nat) : Word := BitVec.ofNat 32 n

/-- The two's complement reading of an n-bit number. -/
def signedOf (n v : Nat) : Int := if v < 2 ^ (n - 1) then (v : Int) else (v : Int) - 2 ^ n

/-- An integer as an n-bit two's complement number (it wraps). -/
def twosOf (n : Nat) (v : Int) : Nat := (v % (2 ^ n : Int)).toNat

/-- An integer kept within lo..hi. -/
def clampInt (lo hi v : Int) : Int := if v < lo then lo else if hi < v then hi else v

/-- The list 0, 1, ..., n - 1. -/
def upto (n : Nat) : List Nat := List.range n

/-- A number as n bytes, most significant first (R11). -/
def bytesOf : Nat → Nat → List Byte
  | 0, _ => []
  | n + 1, v => BitVec.ofNat 8 (v / 256 ^ n) :: bytesOf n v

/-- Bytes read as one number, most significant first (R11). -/
def ofBytes (l : List Byte) : Nat := l.foldl (fun a b => a * 256 + b.toNat) 0

/-- Words read as one number, the first word sent being the most significant (R11). -/
def ofWords (l : List Word) : Nat := l.foldl (fun a w => a * 2 ^ 32 + w.toNat) 0

/-- A number as n words, the most significant first (R11). -/
def wordsOf : Nat → Nat → List Word
  | 0, _ => []
  | n + 1, v => word (v / (2 ^ 32) ^ n) :: wordsOf n v

/-- The bytes of a list of words. -/
def wordBytes (l : List Word) : List Byte := l.flatMap fun w => bytesOf 4 w.toNat

/-- The words of a list of bytes; a tail of fewer than four bytes is filled with zeros. -/
def packWords : List Byte → List Word
  | a :: b :: c :: d :: r => word (ofBytes [a, b, c, d]) :: packWords r
  | [] => []
  | r => [word (ofBytes ((r ++ [0, 0, 0]).take 4))]

/-- Item i of a list of words; 0 beyond its end. -/
def wget (l : List Word) (i : Nat) : Word := l.getD i 0

/-- Words i and i + 1 of a list as one 64-bit number. -/
def dword (l : List Word) (i : Nat) : Nat := ofWords [wget l i, wget l (i + 1)]

/-- Whether a list names no item twice. -/
def noRepeat [BEq α] : List α → Bool
  | [] => true
  | a :: r => !r.contains a && noRepeat r

/-- A counter that stops at its greatest 32-bit value. -/
def satInc (w : Word) : Word := if w = 0xFFFFFFFF then w else w + 1

/-- The quotient a / b rounded up; 0 for b = 0. -/
def ceilDiv (a b : Nat) : Nat := if b = 0 then 0 else (a + b - 1) / b

/-- The least multiple of p strictly above t (t for p = 0). -/
def nextMultiple (p t : Nat) : Nat := if p = 0 then t else (t / p + 1) * p

end Sys2Proof.Machine
end

