-- ==== Sys2Proof/Machine/Crc.lean ====
section
/-!
DEFINITION. The two cyclic redundancy checks the manual uses: CRC-16 with polynomial 0x1021 (R464) and the IEEE 802.3
CRC-32 (R465).
-/

namespace Sys2Proof.Machine

/-- One bit through the CRC-16 of R464, most significant bit first. -/
def crc16Bit (c : Nat) (b : Bool) : Nat :=
  let top := bitsOf c 15 15 == 1
  let c := (c * 2) % 65536
  if top != b then c ^^^ 0x1021 else c

/-- CRC-16 of a list of bits, first bit first, from 0xFFFF (R464). -/
def crc16Bits (bs : List Bool) : Nat := bs.foldl crc16Bit 0xFFFF

/-- The n low bits of a number, most significant first. -/
def bitsMsb : Nat → Nat → List Bool
  | 0, _ => []
  | n + 1, v => (bitsOf v n n == 1) :: bitsMsb n v

/-- CRC-16 of a list of bytes, each most significant bit first. -/
def crc16 (bs : List Byte) : Nat := crc16Bits (bs.flatMap fun b => bitsMsb 8 b.toNat)

/-- One bit step of the reflected CRC-32. -/
def crc32Shift (c : Nat) : Nat := if c % 2 = 1 then (c / 2) ^^^ 0xEDB88320 else c / 2

/-- One byte through the CRC-32. -/
def crc32Byte (c : Nat) (b : Byte) : Nat :=
  (upto 8).foldl (fun x _ => crc32Shift x) (c ^^^ b.toNat)

/-- CRC-32 of a list of bytes (R465). -/
def crc32 (bs : List Byte) : Nat := (bs.foldl crc32Byte 0xFFFFFFFF) ^^^ 0xFFFFFFFF

end Sys2Proof.Machine
end

