-- ==== Sys2Proof/Machine/Float.lean ====
section
/-!
DEFINITION. IEEE 754 binary32 and binary64 arithmetic (R8, R102): every operation is done exactly on integers and rounded
once to nearest, ties to even. The loop engine flushes subnormal results to zero; other units do not (DESIGN CHOICE, log entry 16).
-/

namespace Sys2Proof.Machine

/-- A floating-point value: not a number, infinite, or (-1)^neg × m × 2^e. -/
inductive Num where
  | nan
  | inf (neg : Bool)
  | fin (neg : Bool) (m : Nat) (e : Int)
  deriving DecidableEq, Repr

/-- A format: bits of the significand with its leading one, bits of the exponent field. -/
structure Fmt where
  prec : Nat
  expBits : Nat
  deriving DecidableEq, Repr

/-- binary32. -/
def f32 : Fmt := ⟨24, 8⟩

/-- binary64. -/
def f64 : Fmt := ⟨53, 11⟩

/-- The exponent of the last place of the smallest normal number. -/
def Fmt.emin (f : Fmt) : Int := 3 - (2 ^ (f.expBits - 1) : Nat) - (f.prec : Int)

/-- The all-ones exponent field. -/
def Fmt.emax (f : Fmt) : Nat := 2 ^ f.expBits - 1

/-- The bits of an infinity. -/
def Fmt.infBits (f : Fmt) (neg : Bool) : Nat :=
  neg.toNat * 2 ^ (f.prec + f.expBits - 1) + f.emax * 2 ^ (f.prec - 1)

/-- The bits of the quiet NaN the model writes (DESIGN CHOICE, log entry 16). -/
def Fmt.nanBits (f : Fmt) : Nat := f.infBits false + 2 ^ (f.prec - 2)

/-- The value of a bit pattern. -/
def Fmt.decode (f : Fmt) (bits : Nat) : Num :=
  let frac := bits % 2 ^ (f.prec - 1)
  let ex := bits / 2 ^ (f.prec - 1) % 2 ^ f.expBits
  let neg := bits / 2 ^ (f.prec + f.expBits - 1) % 2 == 1
  if ex = f.emax then (if frac = 0 then .inf neg else .nan)
  else if ex = 0 then .fin neg frac f.emin
  else .fin neg (frac + 2 ^ (f.prec - 1)) (f.emin + (ex : Int) - 1)

/-- m × 2^e, plus something below one unit of m when sticky, rounded to a multiple of 2^t: the multiple. -/
def roundAt (m : Nat) (e : Int) (sticky : Bool) (t : Int) : Nat :=
  if t ≤ e then m * 2 ^ (e - t).toNat
  else
    let k := (t - e).toNat
    let q := m / 2 ^ k
    let r := m % 2 ^ k
    let half := 2 ^ (k - 1)
    if half < r || (r == half && (sticky || q % 2 == 1)) then q + 1 else q

/-- The bit pattern nearest to a finite value; flush replaces a subnormal result by a zero of its sign. -/
def Fmt.round (f : Fmt) (flush neg : Bool) (m : Nat) (e : Int) (sticky : Bool) : Nat :=
  let sign := neg.toNat * 2 ^ (f.prec + f.expBits - 1)
  if m = 0 then sign
  else
    let t := max f.emin (e + (Nat.log2 m : Int) + 1 - (f.prec : Int))
    let q := roundAt m e sticky t
    let carry := decide (2 ^ f.prec ≤ q)
    let q := if carry then q / 2 else q
    let t := if carry then t + 1 else t
    if q < 2 ^ (f.prec - 1) then (if flush then sign else sign + q)
    else
      let ex := (t - f.emin).toNat + 1
      if f.emax ≤ ex then f.infBits neg else sign + ex * 2 ^ (f.prec - 1) + (q - 2 ^ (f.prec - 1))

/-- The bit pattern nearest to a value. -/
def Fmt.encode (f : Fmt) (flush : Bool) : Num → Nat
  | .nan => f.nanBits
  | .inf neg => f.infBits neg
  | .fin neg m e => f.round flush neg m e false

/-! ## Exact arithmetic on values -/

/-- The signed significand of a value at exponent e, which is at most its own. -/
def scaled (neg : Bool) (m : Nat) (e0 e : Int) : Int :=
  let v : Int := (m * 2 ^ (e0 - e).toNat : Nat)
  if neg then -v else v

/-- The exact product. -/
def Num.mul : Num → Num → Num
  | .nan, _ => .nan
  | _, .nan => .nan
  | .inf a, .inf b => .inf (a != b)
  | .inf a, .fin b m _ => if m = 0 then .nan else .inf (a != b)
  | .fin a m _, .inf b => if m = 0 then .nan else .inf (a != b)
  | .fin a m e, .fin b n k => .fin (a != b) (m * n) (e + k)

/-- The exact sum; a zero sum is negative only when both terms are. -/
def Num.add : Num → Num → Num
  | .nan, _ => .nan
  | _, .nan => .nan
  | .inf a, .inf b => if a = b then .inf a else .nan
  | .inf a, .fin _ _ _ => .inf a
  | .fin _ _ _, .inf b => .inf b
  | .fin a m e, .fin b n k =>
    let x := min e k
    let v := scaled a m e x + scaled b n k x
    if v = 0 then .fin (a && b) 0 x else .fin (decide (v < 0)) v.natAbs x

/-- The value with its sign turned. -/
def Num.neg : Num → Num
  | .nan => .nan
  | .inf a => .inf (!a)
  | .fin a m e => .fin (!a) m e

/-- The magnitude. -/
def Num.abs : Num → Num
  | .nan => .nan
  | .inf _ => .inf false
  | .fin _ m e => .fin false m e

/-- Whether the first value is below the second; false for a NaN. -/
def Num.lt : Num → Num → Bool
  | .nan, _ => false
  | _, .nan => false
  | .inf a, .inf b => a && !b
  | .inf a, .fin _ _ _ => a
  | .fin _ _ _, .inf b => !b
  | .fin a m e, .fin b n k =>
    let x := min e k
    decide (scaled a m e x < scaled b n k x)

/-- Whether two values are equal; false for a NaN. -/
def Num.eqv : Num → Num → Bool
  | .nan, _ => false
  | _, .nan => false
  | a, b => !a.lt b && !b.lt a

/-- The integer nearest below or above a finite value, ties to even; none where it is not finite. -/
def Num.toInt : Num → Option Int
  | .fin neg m e => let q := roundAt m e false 0; some (if neg then -(q : Int) else q)
  | _ => none

/-- The quotient rounded to a format. -/
def Fmt.div (f : Fmt) (flush : Bool) : Num → Num → Nat
  | .nan, _ => f.nanBits
  | _, .nan => f.nanBits
  | .inf _, .inf _ => f.nanBits
  | .inf a, .fin b _ _ => f.infBits (a != b)
  | .fin a _ _, .inf b => f.round flush (a != b) 0 0 false
  | .fin a m e, .fin b n k =>
    if n = 0 then (if m = 0 then f.nanBits else f.infBits (a != b))
    else
      let sh := 2 * f.prec + Nat.log2 n + 2
      f.round flush (a != b) (m * 2 ^ sh / n) (e - k - (sh : Int)) (m * 2 ^ sh % n != 0)

/-- The greatest number whose square is at most n, sought below 2^(2 × steps). -/
def sqrtSteps : Nat → Nat → Nat → Nat
  | 0, _, r => r
  | k + 1, n, r => let c := r + 2 ^ k; sqrtSteps k n (if c * c ≤ n then c else r)

/-- The square root rounded to a format. -/
def Fmt.sqrt (f : Fmt) : Num → Nat
  | .nan => f.nanBits
  | .inf neg => if neg then f.nanBits else f.infBits false
  | .fin neg m e =>
    if m = 0 then f.round false neg 0 0 false
    else if neg then f.nanBits
    else
      let odd := (e % 2).toNat
      let sh := 2 * f.prec + 2
      let n := m * 2 ^ (odd + 2 * sh)
      let r := sqrtSteps (Nat.log2 n / 2 + 1) n 0
      f.round false false r ((e - (odd : Int)) / 2 - (sh : Int)) (r * r != n)

/-! ## binary32 words -/

/-- The value of a binary32 word. -/
def val (w : Word) : Num := f32.decode w.toNat

/-- The binary32 word nearest to a value, subnormals kept. -/
def toF32 (n : Num) : Word := word (f32.encode false n)

/-- The binary32 word nearest to a value as the engine delivers it: a subnormal result is flushed to zero (R102). -/
def toEng (n : Num) : Word := word (f32.encode true n)

/-- The quiet NaN of binary32. -/
def qnan : Word := 0x7FC00000

/-- a × b + c in the engine, with one rounding (R102). -/
def fma (a b c : Word) : Word := toEng (((val a).mul (val b)).add (val c))

/-- a + b in the engine. -/
def fadd (a b : Word) : Word := toEng ((val a).add (val b))

/-- a − b in the engine. -/
def fsub (a b : Word) : Word := toEng ((val a).add (val b).neg)

/-- a × b in the engine. -/
def fmul (a b : Word) : Word := toEng ((val a).mul (val b))

/-- The sign turned. -/
def fneg (a : Word) : Word := a ^^^ 0x80000000

/-- The magnitude. -/
def fabs (a : Word) : Word := a &&& 0x7FFFFFFF

/-- The reciprocal in the engine, rounded to nearest (R102; DESIGN CHOICE, log entry 16). -/
def frcp (a : Word) : Word := word (f32.div true (.fin false 1 0) (val a))

/-- a / b in the engine, which has no division: the reciprocal, then a product (R102; DEDUCED, log entry 97). -/
def fquot (a b : Word) : Word := fmul a (frcp b)

/-! ### Outside the engine: subnormals are kept (R8) -/

/-- a + b in binary32. -/
def iadd (a b : Word) : Word := toF32 ((val a).add (val b))

/-- a − b in binary32. -/
def isub (a b : Word) : Word := toF32 ((val a).add (val b).neg)

/-- a × b in binary32. -/
def imul (a b : Word) : Word := toF32 ((val a).mul (val b))

/-- a / b in binary32. -/
def fdiv (a b : Word) : Word := word (f32.div false (val a) (val b))

/-! ### Comparisons and choices -/

/-- a < b. -/
def flt (a b : Word) : Bool := (val a).lt (val b)

/-- a ≤ b. -/
def fle (a b : Word) : Bool := (val a).lt (val b) || (val a).eqv (val b)

/-- a = b as values. -/
def feq (a b : Word) : Bool := (val a).eqv (val b)

/-- Whether a word is a NaN. -/
def isNan (a : Word) : Bool := val a == .nan

/-- Whether a word is neither NaN nor infinite. -/
def isFin (a : Word) : Bool := match val a with
  | .fin _ _ _ => true
  | _ => false

/-- The lesser of two values. -/
def fmin (a b : Word) : Word := if flt b a then b else a

/-- The greater of two values. -/
def fmax (a b : Word) : Word := if flt a b then b else a

/-- a kept within lo..hi; a NaN stays. -/
def fclamp (lo hi a : Word) : Word := if flt a lo then lo else if flt hi a then hi else a

/-- Whether a value is above zero. -/
def fpos (a : Word) : Bool := flt 0 a

/-- An integer as a binary32 word. -/
def ofInt (i : Int) : Word := toF32 (.fin (decide (i < 0)) i.natAbs 0)

/-- An exact value from an integer and a power of two. -/
def numOf (i : Int) (e : Int) : Num := .fin (decide (i < 0)) i.natAbs e

/-! ## CVTS (R102) -/

/-- A 24-bit code as a fraction of full scale. -/
def codeNum (x : Sample) : Num := numOf x.toInt (-23)

/-- CVTS upwards: code × scale as binary32. -/
def cvtsUp (x : Sample) (scale : Word) : Word := toEng ((codeNum x).mul (val scale))

/-- m × 2^k / d rounded to the nearest integer, ties to even. -/
def roundQuotient (m : Nat) (k : Int) (d : Nat) : Nat :=
  let n := m * 2 ^ k.toNat
  let d := d * 2 ^ (-k).toNat
  let q := n / d
  let r := n % d
  if d < 2 * r || (2 * r == d && q % 2 == 1) then q + 1 else q

/-- CVTS downwards: value / full scale as a 24-bit code, 1.0 standing for 2^23 (R9), rounded once; it saturates, and says
whether it did. A NaN gives code 0 (DESIGN CHOICE, log entry 16). -/
def cvtsDown (v fullScale : Word) : Sample × Bool :=
  match val v, val fullScale with
  | .fin neg m e, .fin _ d f =>
    let n := roundQuotient m (e + 23 - f) d
    let q : Int := if neg then -(n : Int) else n
    if q < -8388608 then (0x800000, true) else if 8388607 < q then (0x7FFFFF, true)
    else (BitVec.ofInt 24 q, false)
  | .inf neg, _ => (if neg then 0x800000 else 0x7FFFFF, true)
  | _, _ => (0, false)

/-! ## binary64 numbers, for sums and measurements -/

/-- The value of a binary64 pattern. -/
def val64 (w : BitVec 64) : Num := f64.decode w.toNat

/-- The binary64 pattern nearest to a value. -/
def toF64 (n : Num) : BitVec 64 := BitVec.ofNat 64 (f64.encode false n)

/-- A binary32 word as binary64. -/
def widen (a : Word) : BitVec 64 := toF64 (val a)

/-- A binary64 pattern rounded once to binary32. -/
def narrow (a : BitVec 64) : Word := toF32 (val64 a)

/-- a + b in binary64. -/
def dadd (a b : BitVec 64) : BitVec 64 := toF64 ((val64 a).add (val64 b))

/-- a − b in binary64. -/
def dsub (a b : BitVec 64) : BitVec 64 := toF64 ((val64 a).add (val64 b).neg)

/-- a × b in binary64. -/
def dmul (a b : BitVec 64) : BitVec 64 := toF64 ((val64 a).mul (val64 b))

/-- a / b in binary64. -/
def ddiv (a b : BitVec 64) : BitVec 64 := BitVec.ofNat 64 (f64.div false (val64 a) (val64 b))

/-- The square root in binary64. -/
def dsqrt (a : BitVec 64) : BitVec 64 := BitVec.ofNat 64 (f64.sqrt (val64 a))

/-- An integer as binary64. -/
def dofInt (i : Int) : BitVec 64 := toF64 (numOf i 0)

/-! ## The logarithm and the exponential of LOG sweeps (R248, R251)

Both are summed with 200 binary places and rounded once to binary64 (DESIGN CHOICE, log entry 107). -/

/-- Binary places of the sums. -/
def fixPlaces : Nat := 200

/-- A finite number with fixPlaces binary places, towards minus infinity; 0 for others. -/
def Num.fix : Num → Int
  | .fin neg m e =>
    let v : Int := if neg then -(m : Int) else m
    if 0 ≤ e + fixPlaces then v * 2 ^ (e + fixPlaces).toNat else v / 2 ^ (-(e + fixPlaces)).toNat
  | _ => 0

/-- 2 artanh(a / b) = ln((b + a) / (b - a)) with fixPlaces binary places, for 3 a ≤ b. -/
def artanh2 (a b : Nat) : Nat :=
  let t := a * 2 ^ fixPlaces / b
  let t2 := t * t / 2 ^ fixPlaces
  2 * ((upto 70).foldl (fun (p : Nat × Nat) k => (p.1 + p.2 / (2 * k + 1), p.2 * t2 / 2 ^ fixPlaces)) (0, t)).1

/-- ln 2 with fixPlaces binary places. -/
def ln2 : Nat := artanh2 1 3

/-- ln of a positive finite binary64 number. -/
def dln (x : BitVec 64) : BitVec 64 :=
  match val64 x with
  | .fin _ m e =>
    let top := m.log2
    let r : Int := (artanh2 (m - 2 ^ top) (m + 2 ^ top) : Int) + (e + top) * ln2
    toF64 (numOf r (-(fixPlaces : Int)))
  | _ => x

/-- exp of a finite binary64 number. -/
def dexp (x : BitVec 64) : BitVec 64 :=
  let v := (val64 x).fix
  let n := v / (ln2 : Int)
  let r := (v - n * ln2).toNat
  let sum := ((upto 60).foldl (fun (p : Nat × Nat) k => (p.1 + p.2, p.2 * r / 2 ^ fixPlaces / (k + 1))) (0, 2 ^ fixPlaces)).1
  toF64 (numOf (sum : Nat) (n - fixPlaces))

end Sys2Proof.Machine
end

