-- ==== Sys2Proof/Machine/Fields.lean ====
section
/-!
DEFINITION. The field maps of every object of R25: field number, size, class, reset words and the bits a field uses.
A bit that no field uses is reserved (R12, R13). One row may stand for several consecutive fields of the same shape.
-/

namespace Sys2Proof.Machine

/-- The access class of a field (R14). In a word of several classes (R709) lockedBits marks the bits of class K,
selfClearBits those of class SC, and every other used bit is live. -/
inductive FieldClass where
  | live
  | staged (group : Nat)
  | locked
  | ro
  | w1c
  | mixed (lockedBits selfClearBits : Nat)
  deriving DecidableEq, Repr

/-- A run of count consecutive fields from field number first, each of the same number of words, class, reset words and
used bits. -/
structure FieldRow where
  first : Nat
  count : Nat
  words : Nat
  cls : FieldClass
  reset : List Nat
  used : List Nat
  deriving DecidableEq, Repr

/-- The fields of DEV (R530, R613). -/
def devFields : List FieldRow :=
  [⟨0x100, 1, 1, .live, [0x203E8], [0xFFFFFFFF]⟩,  -- FLT_CFG[0]
   ⟨0x101, 1, 1, .live, [0x40001], [0xFFFFFFFF]⟩,  -- FLT_CFG[1]
   ⟨0x102, 1, 1, .live, [0x203E8], [0xFFFFFFFF]⟩,  -- FLT_CFG[2]
   ⟨0x103, 1, 1, .live, [0x3E803E8], [0xFFFFFFFF]⟩,  -- FLT_CFG[3]
   ⟨0x104, 1, 1, .live, [0x303E8], [0xFFFFFFFF]⟩,  -- FLT_CFG[4]
   ⟨0x105, 1, 1, .live, [0x303E8], [0xFFFFFFFF]⟩,  -- FLT_CFG[5]
   ⟨0x106, 1, 1, .live, [0x403E8], [0xFFFFFFFF]⟩,  -- FLT_CFG[6]
   ⟨0x107, 1, 1, .live, [0x303E8], [0xFFFFFFFF]⟩,  -- FLT_CFG[7]
   ⟨0x108, 1, 1, .live, [0x22710], [0xFFFFFFFF]⟩,  -- FLT_CFG[8]
   ⟨0x120, 9, 1, .ro, [0x0], [0xFFFFFFFF]⟩,  -- FLT_COUNT
   ⟨0x140, 1, 1, .w1c, [0x0], [0xFFE00000]⟩,  -- FAULT_STATUS
   ⟨0x141, 1, 1, .live, [0xFDA00000], [0xFFE00000]⟩,  -- FAULT_MASK
   ⟨0x142, 1, 1, .live, [0x0], [0xFFFFC000]⟩,  -- WDOG_CFG
   ⟨0x143, 1, 1, .live, [0x0], [0xC0000000]⟩,  -- RING_CFG
   ⟨0x144, 1, 1, .ro, [0x0], [0xFFFF0000]⟩,  -- TEMP
   ⟨0x180, 1, 2, .ro, [0x0, 0x0], [0xFFFF, 0xFFFFFFFF]⟩,  -- MAC
   ⟨0x181, 1, 2, .ro, [0x0, 0x0], [0xFFFFFFFF, 0xFF]⟩,  -- IP4
   ⟨0x182, 1, 5, .ro, [0x0, 0x0, 0x0, 0x0, 0x0], [0xFFFFFFFF, 0xFFFFFFFF, 0xFFFFFFFF, 0xFFFFFFFF, 0xFF]⟩,  -- IP6
   ⟨0x183, 1, 1, .live, [0x5DC], [0xFFFF]⟩,  -- MTU
   ⟨0x184, 1, 1, .live, [0xA0000], [0xFFFF0000]⟩,  -- LANTERN
   ⟨0x185, 1, 1, .ro, [0x0], [0xFFFF]⟩,  -- SESSIONS
   ⟨0x186, 1, 1, .ro, [0x9C40], [0xFFFFFFFF]⟩]  -- RATE_FREE

/-- The fields of PORT (R575). -/
def portFields : List FieldRow :=
  [⟨0x0, 1, 1, .live, [0x80000000], [0x80000000]⟩,  -- CFG
   ⟨0x20, 1, 1, .ro, [0x0], [0xFC000000]⟩,  -- STATUS
   ⟨0x21, 6, 1, .ro, [0x0], [0xFFFFFFFF]⟩]  -- RX_FRAMES,TX_FRAMES,RX_DROP,RX_FCS,RX_BAD_MSG,PAUSE_RX

/-- The fields of CHAN (R57, R58, R59, R60, R66, R67, R77, R100, R194, R237, R486). -/
def chanFields : List FieldRow :=
  [⟨0x0, 1, 1, .staged 0, [0x18000], [0xFFFC000]⟩,  -- CTRL
   ⟨0x1, 1, 1, .staged 0, [0x0], [0xFFFFFFC0]⟩,  -- RANGE
   ⟨0x2, 1, 1, .staged 0, [0x0], [0xFFFFFFFF]⟩,  -- COMP_POS
   ⟨0x3, 1, 1, .staged 0, [0x0], [0xFFFFFFFF]⟩,  -- COMP_NEG
   ⟨0x4, 1, 1, .staged 0, [0x0], [0xFFFFFFFF]⟩,  -- PROT_V_HI
   ⟨0x5, 1, 1, .staged 0, [0x0], [0xFFFFFFFF]⟩,  -- PROT_V_LO
   ⟨0x6, 1, 1, .staged 0, [0x0], [0xFFFFFFFF]⟩,  -- PROT_I
   ⟨0x7, 1, 1, .staged 0, [0x10000], [0xFFFFC000]⟩,  -- PROT_CTRL
   ⟨0x8, 1, 1, .staged 0, [0x0], [0xFFFF8000]⟩,  -- CROSS_CFG
   ⟨0x9, 1, 1, .staged 0, [0x0], [0xFFFFFFFF]⟩,  -- HEAD_TEMP_MAX
   ⟨0xA, 1, 1, .staged 0, [0x0], [0xFFFF]⟩,  -- CAL_SET
   ⟨0xB, 1, 1, .staged 0, [0x0], [0xC0000000]⟩,  -- GUARD_CFG
   ⟨0x10, 1, 1, .live, [0x0], [0xFFFFFFFF]⟩,  -- FORCE_LEVEL
   ⟨0x20, 1, 1, .ro, [0x1], [0xFFFFFFFF]⟩,  -- STATE
   ⟨0x21, 1, 1, .ro, [0x0], [0xFFFFF800]⟩,  -- STATUS
   ⟨0x22, 1, 1, .ro, [0x0], [0xFFFFFFFF]⟩,  -- INERT
   ⟨0x23, 1, 1, .ro, [0x0], [0xFFFFFFFF]⟩,  -- CROSS_COUNT
   ⟨0x24, 1, 1, .ro, [0x0], [0xFFFFFFFF]⟩,  -- TRIP_COUNT
   ⟨0x25, 1, 1, .ro, [0x0], [0xFFFFFFFF]⟩,  -- EXTRAP_COUNT
   ⟨0x26, 1, 1, .ro, [0x0], [0xFFFFFFFF]⟩,  -- RANGE_COUNTS
   ⟨0x30, 16, 4, .ro, [0x0, 0x0, 0x0, 0x0], [0xFFFFFFFF, 0xFFFFFFFF, 0xFFFFFFFF, 0xC0000000]⟩,  -- VRANGE_INFO
   ⟨0x40, 16, 4, .ro, [0x0, 0x0, 0x0, 0x0], [0xFFFFFFFF, 0xFFFFFFFF, 0xFFFFFFFF, 0xC0000000]⟩,  -- IRANGE_INFO
   ⟨0x50, 1, 1, .mixed 0 0x40000000, [0x80000000], [0xF800FFFF]⟩,  -- LINK_CTRL
   ⟨0x51, 1, 1, .live, [0x8000A], [0xFFFFFFFF]⟩] ++  -- LINK_ERR_CFG
  [⟨0x52, 1, 1, .ro, [0x10000000], [0xFF000000]⟩,  -- LINK_STATUS
   ⟨0x53, 1, 1, .ro, [0x0], [0xFFFFFFFF]⟩,  -- FB_CRC
   ⟨0x54, 1, 1, .ro, [0x0], [0xFFFFFFFF]⟩,  -- BLK_CRC
   ⟨0x55, 1, 1, .ro, [0x0], [0xFFFFFFFF]⟩,  -- SH_ERR
   ⟨0x56, 1, 1, .ro, [0x0], [0xFFFFFFFF]⟩,  -- HEAD_RX_ERR
   ⟨0x57, 1, 1, .ro, [0x0], [0xFFFFFFFF]⟩,  -- LINK_DOWNS
   ⟨0x58, 1, 2, .ro, [0x0, 0x0], [0xFFFFFFFF, 0xFFFFFFFF]⟩,  -- HEAD_ID
   ⟨0x200, 256, 2, .ro, [0x0, 0x0], [0xFFFFFFFF, 0xFFFFFFFF]⟩]  -- DESC

/-- The fields of OCTET (R711). -/
def octetFields : List FieldRow :=
  [⟨0x20, 1, 1, .ro, [0x0], [0xFFFFFF00]⟩]  -- STATE

/-- The fields of BANK (R210, R448). -/
def bankFields : List FieldRow :=
  [⟨0x30, 1, 1, .live, [0xF3333200], [0xFFFFFF00]⟩,  -- AR_CFG
   ⟨0x31, 1, 1, .live, [0xA0000], [0xFFFF0000]⟩,  -- AR_DWELL
   ⟨0x40, 1, 1, .live, [0xC0000000], [0xF0000000]⟩,  -- LINK_CTRL
   ⟨0x41, 1, 1, .ro, [0x0], [0x80000000]⟩,  -- LINK_STATUS
   ⟨0x42, 1, 1, .ro, [0x0], [0xFFFFFFFF]⟩]  -- ALERTS

/-- The fields of ENGINE (R144). -/
def engineFields : List FieldRow :=
  [⟨0x0, 1, 1, .ro, [0x0], [0xFF0F]⟩,  -- STATE
   ⟨0x1, 1, 1, .ro, [0x180000], [0xFFFFFF00]⟩,  -- LOAD
   ⟨0x2, 1, 1, .ro, [0x0], [0xFFFFFFFF]⟩]  -- SELFCHK

/-- The fields of LOOP (R139, R140, R141, R142). -/
def loopFields : List FieldRow :=
  [⟨0x0, 1, 1, .staged 0, [0x9000340], [0xFFC0FFFF]⟩,  -- CFG[0]
   ⟨0x1, 1, 7, .staged 0, [0x0, 0x0, 0x0, 0x0, 0x0, 0x0, 0x0], [0xFFFFFFFF, 0xFFFFFFFF, 0xFFFFFFFF, 0xFFFFFFFF, 0xFFFFFFFF, 0xFFFFFFFF, 0xFFFFFFFF]⟩,  -- REG_COEF[0]
   ⟨0x2, 1, 7, .staged 0, [0x0, 0x0, 0x0, 0x0, 0x0, 0x0, 0x0], [0xFFFFFFFF, 0xFFFFFFFF, 0xFFFFFFFF, 0xFFFFFFFF, 0xFFFFFFFF, 0xFFFFFFFF, 0xFFFFFFFF]⟩,  -- CMP_COEF[0]
   ⟨0x3, 1, 2, .staged 0, [0x0, 0x0], [0xFFFFFFFF, 0xFFFFFFFF]⟩,  -- U_LIMIT[0]
   ⟨0x4, 1, 3, .staged 0, [0x0, 0x3F800000, 0x0], [0xFFFFFFFF, 0xFFFFFFFF, 0xFFFFFFFF]⟩,  -- AUX_COEF[0]
   ⟨0x8, 1, 1, .staged 1, [0x9000340], [0xFFC0FFFF]⟩,  -- CFG[1]
   ⟨0x9, 1, 7, .staged 1, [0x0, 0x0, 0x0, 0x0, 0x0, 0x0, 0x0], [0xFFFFFFFF, 0xFFFFFFFF, 0xFFFFFFFF, 0xFFFFFFFF, 0xFFFFFFFF, 0xFFFFFFFF, 0xFFFFFFFF]⟩,  -- REG_COEF[1]
   ⟨0xA, 1, 7, .staged 1, [0x0, 0x0, 0x0, 0x0, 0x0, 0x0, 0x0], [0xFFFFFFFF, 0xFFFFFFFF, 0xFFFFFFFF, 0xFFFFFFFF, 0xFFFFFFFF, 0xFFFFFFFF, 0xFFFFFFFF]⟩,  -- CMP_COEF[1]
   ⟨0xB, 1, 2, .staged 1, [0x0, 0x0], [0xFFFFFFFF, 0xFFFFFFFF]⟩,  -- U_LIMIT[1]
   ⟨0xC, 1, 3, .staged 1, [0x0, 0x3F800000, 0x0], [0xFFFFFFFF, 0xFFFFFFFF, 0xFFFFFFFF]⟩,  -- AUX_COEF[1]
   ⟨0x10, 1, 1, .staged 2, [0x9000340], [0xFFC0FFFF]⟩,  -- CFG[2]
   ⟨0x11, 1, 7, .staged 2, [0x0, 0x0, 0x0, 0x0, 0x0, 0x0, 0x0], [0xFFFFFFFF, 0xFFFFFFFF, 0xFFFFFFFF, 0xFFFFFFFF, 0xFFFFFFFF, 0xFFFFFFFF, 0xFFFFFFFF]⟩,  -- REG_COEF[2]
   ⟨0x12, 1, 7, .staged 2, [0x0, 0x0, 0x0, 0x0, 0x0, 0x0, 0x0], [0xFFFFFFFF, 0xFFFFFFFF, 0xFFFFFFFF, 0xFFFFFFFF, 0xFFFFFFFF, 0xFFFFFFFF, 0xFFFFFFFF]⟩,  -- CMP_COEF[2]
   ⟨0x13, 1, 2, .staged 2, [0x0, 0x0], [0xFFFFFFFF, 0xFFFFFFFF]⟩,  -- U_LIMIT[2]
   ⟨0x14, 1, 3, .staged 2, [0x0, 0x3F800000, 0x0], [0xFFFFFFFF, 0xFFFFFFFF, 0xFFFFFFFF]⟩,  -- AUX_COEF[2]
   ⟨0x18, 1, 1, .staged 3, [0x9000340], [0xFFC0FFFF]⟩,  -- CFG[3]
   ⟨0x19, 1, 7, .staged 3, [0x0, 0x0, 0x0, 0x0, 0x0, 0x0, 0x0], [0xFFFFFFFF, 0xFFFFFFFF, 0xFFFFFFFF, 0xFFFFFFFF, 0xFFFFFFFF, 0xFFFFFFFF, 0xFFFFFFFF]⟩,  -- REG_COEF[3]
   ⟨0x1A, 1, 7, .staged 3, [0x0, 0x0, 0x0, 0x0, 0x0, 0x0, 0x0], [0xFFFFFFFF, 0xFFFFFFFF, 0xFFFFFFFF, 0xFFFFFFFF, 0xFFFFFFFF, 0xFFFFFFFF, 0xFFFFFFFF]⟩,  -- CMP_COEF[3]
   ⟨0x1B, 1, 2, .staged 3, [0x0, 0x0], [0xFFFFFFFF, 0xFFFFFFFF]⟩,  -- U_LIMIT[3]
   ⟨0x1C, 1, 3, .staged 3, [0x0, 0x3F800000, 0x0], [0xFFFFFFFF, 0xFFFFFFFF, 0xFFFFFFFF]⟩,  -- AUX_COEF[3]
   ⟨0x20, 1, 1, .staged 4, [0x9000340], [0xFFC0FFFF]⟩,  -- CFG[4]
   ⟨0x21, 1, 7, .staged 4, [0x0, 0x0, 0x0, 0x0, 0x0, 0x0, 0x0], [0xFFFFFFFF, 0xFFFFFFFF, 0xFFFFFFFF, 0xFFFFFFFF, 0xFFFFFFFF, 0xFFFFFFFF, 0xFFFFFFFF]⟩,  -- REG_COEF[4]
   ⟨0x22, 1, 7, .staged 4, [0x0, 0x0, 0x0, 0x0, 0x0, 0x0, 0x0], [0xFFFFFFFF, 0xFFFFFFFF, 0xFFFFFFFF, 0xFFFFFFFF, 0xFFFFFFFF, 0xFFFFFFFF, 0xFFFFFFFF]⟩,  -- CMP_COEF[4]
   ⟨0x23, 1, 2, .staged 4, [0x0, 0x0], [0xFFFFFFFF, 0xFFFFFFFF]⟩] ++  -- U_LIMIT[4]
  [⟨0x24, 1, 3, .staged 4, [0x0, 0x3F800000, 0x0], [0xFFFFFFFF, 0xFFFFFFFF, 0xFFFFFFFF]⟩,  -- AUX_COEF[4]
   ⟨0x28, 1, 1, .staged 5, [0x9000340], [0xFFC0FFFF]⟩,  -- CFG[5]
   ⟨0x29, 1, 7, .staged 5, [0x0, 0x0, 0x0, 0x0, 0x0, 0x0, 0x0], [0xFFFFFFFF, 0xFFFFFFFF, 0xFFFFFFFF, 0xFFFFFFFF, 0xFFFFFFFF, 0xFFFFFFFF, 0xFFFFFFFF]⟩,  -- REG_COEF[5]
   ⟨0x2A, 1, 7, .staged 5, [0x0, 0x0, 0x0, 0x0, 0x0, 0x0, 0x0], [0xFFFFFFFF, 0xFFFFFFFF, 0xFFFFFFFF, 0xFFFFFFFF, 0xFFFFFFFF, 0xFFFFFFFF, 0xFFFFFFFF]⟩,  -- CMP_COEF[5]
   ⟨0x2B, 1, 2, .staged 5, [0x0, 0x0], [0xFFFFFFFF, 0xFFFFFFFF]⟩,  -- U_LIMIT[5]
   ⟨0x2C, 1, 3, .staged 5, [0x0, 0x3F800000, 0x0], [0xFFFFFFFF, 0xFFFFFFFF, 0xFFFFFFFF]⟩,  -- AUX_COEF[5]
   ⟨0x30, 1, 1, .staged 6, [0x9000340], [0xFFC0FFFF]⟩,  -- CFG[6]
   ⟨0x31, 1, 7, .staged 6, [0x0, 0x0, 0x0, 0x0, 0x0, 0x0, 0x0], [0xFFFFFFFF, 0xFFFFFFFF, 0xFFFFFFFF, 0xFFFFFFFF, 0xFFFFFFFF, 0xFFFFFFFF, 0xFFFFFFFF]⟩,  -- REG_COEF[6]
   ⟨0x32, 1, 7, .staged 6, [0x0, 0x0, 0x0, 0x0, 0x0, 0x0, 0x0], [0xFFFFFFFF, 0xFFFFFFFF, 0xFFFFFFFF, 0xFFFFFFFF, 0xFFFFFFFF, 0xFFFFFFFF, 0xFFFFFFFF]⟩,  -- CMP_COEF[6]
   ⟨0x33, 1, 2, .staged 6, [0x0, 0x0], [0xFFFFFFFF, 0xFFFFFFFF]⟩,  -- U_LIMIT[6]
   ⟨0x34, 1, 3, .staged 6, [0x0, 0x3F800000, 0x0], [0xFFFFFFFF, 0xFFFFFFFF, 0xFFFFFFFF]⟩,  -- AUX_COEF[6]
   ⟨0x38, 1, 1, .staged 7, [0x9000340], [0xFFC0FFFF]⟩,  -- CFG[7]
   ⟨0x39, 1, 7, .staged 7, [0x0, 0x0, 0x0, 0x0, 0x0, 0x0, 0x0], [0xFFFFFFFF, 0xFFFFFFFF, 0xFFFFFFFF, 0xFFFFFFFF, 0xFFFFFFFF, 0xFFFFFFFF, 0xFFFFFFFF]⟩,  -- REG_COEF[7]
   ⟨0x3A, 1, 7, .staged 7, [0x0, 0x0, 0x0, 0x0, 0x0, 0x0, 0x0], [0xFFFFFFFF, 0xFFFFFFFF, 0xFFFFFFFF, 0xFFFFFFFF, 0xFFFFFFFF, 0xFFFFFFFF, 0xFFFFFFFF]⟩,  -- CMP_COEF[7]
   ⟨0x3B, 1, 2, .staged 7, [0x0, 0x0], [0xFFFFFFFF, 0xFFFFFFFF]⟩,  -- U_LIMIT[7]
   ⟨0x3C, 1, 3, .staged 7, [0x0, 0x3F800000, 0x0], [0xFFFFFFFF, 0xFFFFFFFF, 0xFFFFFFFF]⟩,  -- AUX_COEF[7]
   ⟨0x40, 1, 1, .ro, [0x0], [0x7FC0]⟩,  -- STATUS
   ⟨0x41, 1, 1, .ro, [0x0], [0xFFFF0000]⟩,  -- DELAY_LAST
   ⟨0x42, 1, 1, .ro, [0xFFFF0000], [0xFFFFFFFF]⟩,  -- DELAY_SPAN
   ⟨0x43, 1, 1, .ro, [0x0], [0xFFFF]⟩,  -- FLIGHT
   ⟨0x44, 1, 1, .ro, [0x0], [0xFFFFFFFF]⟩,  -- HEAD_LAT
   ⟨0x45, 1, 1, .ro, [0x0], [0xFFFF0000]⟩,  -- COST
   ⟨0x46, 1, 1, .ro, [0x0], [0xFFFFFFFF]⟩,  -- SAT_COUNT
   ⟨0x47, 1, 1, .ro, [0x0], [0xFFFFFFFF]⟩] ++  -- PRED_COUNT
  [⟨0x48, 1, 1, .ro, [0x0], [0xFFFFFFFF]⟩]  -- PRED_HOLD_COUNT

/-- The fields of OUTER (R146, R147). -/
def outerFields : List FieldRow :=
  [⟨0x0, 1, 1, .staged 0, [0xA0], [0xFFFFFFE0]⟩,  -- CFG
   ⟨0x1, 1, 1, .staged 0, [0xC0000064], [0xFF00FFFF]⟩,  -- TSRC_CFG
   ⟨0x2, 8, 1, .staged 0, [0x0], [0xFFFFFFFF]⟩,  -- KP,KI,OUT_MAX,OUT_MIN,FF_FLOOR,TSEP_T0,TSEP_V0,TSEP_KT
   ⟨0x20, 1, 1, .ro, [0x0], [0xF0]⟩,  -- STATUS
   ⟨0x21, 3, 1, .ro, [0x0], [0xFFFFFFFF]⟩,  -- Y_MEAN,INTEG,SETPOINT
   ⟨0x24, 1, 1, .ro, [0x0], [0xFFFF]⟩]  -- SRC_AGE

/-- The fields of REPET (R162). -/
def repetFields : List FieldRow :=
  [⟨0x0, 1, 1, .locked, [0xFFE00800], [0xFFFFFFFF]⟩,  -- CFG
   ⟨0x1, 1, 1, .mixed 0x40000000 0x20000000, [0x80000000], [0xE0000000]⟩,  -- CTRL
   ⟨0x2, 1, 1, .live, [0x0], [0xFFFFFFFF]⟩,  -- GAIN
   ⟨0x3, 1, 1, .live, [0x3F800000], [0xFFFFFFFF]⟩,  -- ALPHA
   ⟨0x4, 1, 1, .staged 0, [0x3F800000], [0xFFFFFFFF]⟩,  -- Q0
   ⟨0x5, 2, 1, .staged 0, [0x0], [0xFFFFFFFF]⟩,  -- Q1,MAX_CORR
   ⟨0x20, 1, 1, .ro, [0x0], [0xFFFC0000]⟩,  -- STATUS
   ⟨0x21, 3, 1, .ro, [0x0], [0xFFFFFFFF]⟩,  -- SKIP_COUNT,RESYNC_COUNT,PEAK
   ⟨0x800, 2048, 1, .locked, [0x0], [0xFFFFFFFF]⟩]  -- BINS

/-- The fields of NOTCH (R170). -/
def notchFields : List FieldRow :=
  [⟨0x0, 1, 1, .staged 0, [0x0], [0xC0000000]⟩,  -- CFG
   ⟨0x1, 2, 5, .staged 0, [0x3F800000, 0x0, 0x0, 0x0, 0x0], [0xFFFFFFFF, 0xFFFFFFFF, 0xFFFFFFFF, 0xFFFFFFFF, 0xFFFFFFFF]⟩,  -- SEC0,SEC1
   ⟨0x10, 1, 1, .ro, [0x0], [0xFF]⟩]  -- USERS

/-- The fields of PROFILE (R175, R182, R183). -/
def profileFields : List FieldRow :=
  [⟨0x0, 1, 1, .staged 0, [0x7F800000], [0xFFFFFFFF]⟩,  -- SLEW
   ⟨0x1, 3, 1, .staged 0, [0x0], [0xFFFFFFFF]⟩,  -- ACCEL,JERK,WINDOW
   ⟨0x4, 1, 1, .staged 0, [0x7F800000], [0xFFFFFFFF]⟩,  -- C_SLEW
   ⟨0x5, 3, 1, .staged 0, [0x0], [0xFFFFFFFF]⟩,  -- C_ACCEL,C_JERK,C_WINDOW
   ⟨0x8, 1, 1, .staged 0, [0x7F800000], [0xFFFFFFFF]⟩,  -- I_SLEW
   ⟨0x9, 2, 1, .staged 0, [0x0], [0xFFFFFFFF]⟩,  -- I_ACCEL,I_JERK
   ⟨0x10, 1, 1, .staged 1, [0x100000], [0xFFFFF000]⟩,  -- SUPV_CFG
   ⟨0x11, 1, 1, .staged 1, [0x7F800000], [0xFFFFFFFF]⟩,  -- FE_LIMIT
   ⟨0x12, 2, 1, .staged 1, [0x0], [0xFFFFFFFF]⟩,  -- PL_G,PL_OFFSET
   ⟨0x14, 1, 1, .staged 1, [0x640064], [0xFFFFFFFF]⟩,  -- PHASE_TIME
   ⟨0x15, 2, 1, .staged 1, [0x0], [0xFFFFFFFF]⟩,  -- START_ABS,START_REL
   ⟨0x17, 1, 1, .staged 1, [0x10000], [0xFFFFC000]⟩,  -- START_CTL
   ⟨0x18, 2, 1, .staged 1, [0x0], [0xFFFFFFFF]⟩,  -- TEST_ABS,TEST_REL
   ⟨0x1A, 1, 1, .staged 1, [0x10000], [0xFFFFC000]⟩,  -- TEST_CTL
   ⟨0x1B, 2, 1, .staged 1, [0x0], [0xFFFFFFFF]⟩,  -- REC_ABS,REC_REL
   ⟨0x1D, 1, 1, .staged 1, [0x10000], [0xFFFFC000]⟩,  -- REC_CTL
   ⟨0x20, 1, 1, .ro, [0x0], [0xFC]⟩,  -- STATUS
   ⟨0x21, 5, 1, .ro, [0x0], [0xFFFFFFFF]⟩]  -- POSITION,VELOCITY,FE_PEAK,FE_COUNT,PL_COUNT

/-- The fields of SEQ (R262, R263, R271). -/
def seqFields : List FieldRow :=
  [⟨0x0, 1, 1, .staged 0, [0x0], [0xFFF1FF00]⟩,  -- CFG
   ⟨0x1, 1, 1, .staged 0, [0x0], [0xFF]⟩,  -- ENTRY
   ⟨0x2, 1, 2, .staged 0, [0x10000000, 0x0], [0x1FFFFFFF, 0xFFFFFFFF]⟩,  -- RATE_MAX
   ⟨0x8, 8, 2, .staged 0, [0x10000000, 0x0], [0x1FFFFFFF, 0xFFFFFFFF]⟩,  -- RATES
   ⟨0x10, 64, 2, .staged 0, [0x0, 0x0], [0xFFFF8FFF, 0xFF0FFFFF]⟩,  -- SEG
   ⟨0x50, 1, 2, .live, [0x10000000, 0x0], [0x1FFFFFFF, 0xFFFFFFFF]⟩,  -- RATE
   ⟨0x51, 1, 1, .mixed 0 0xFFFFFFFF, [0x0], [0x80000000]⟩,  -- CTRL
   ⟨0x60, 1, 1, .ro, [0x0], [0xFFFFFF80]⟩,  -- STATE
   ⟨0x61, 1, 1, .ro, [0x0], [0xFFFFFF]⟩,  -- POSITION
   ⟨0x62, 3, 1, .ro, [0x0], [0xFFFFFFFF]⟩,  -- UR_COUNT,CMP_FAIL_COUNT,CLAMP_COUNT
   ⟨0x65, 1, 1, .ro, [0x0], [0xFFFF0000]⟩,  -- GRANT
   ⟨0x66, 1, 2, .ro, [0x0, 0x0], [0xFFFFFFFF, 0xFFFFFFFF]⟩,  -- STREAM_NEXT
   ⟨0x67, 1, 1, .ro, [0x0], [0xFFFFFFFF]⟩,  -- STREAM_LATE
   ⟨0x100, 256, 2, .staged 0, [0x0, 0x0], [0xFFFFFF80, 0xFFFFFFFF]⟩]  -- PROG

/-- The fields of BSEQ (R306, R314, R315, R316). -/
def bseqFields : List FieldRow :=
  [⟨0x0, 1, 1, .staged 0, [0x0], [0xFFFFFFFF]⟩,  -- CFG
   ⟨0x1, 1, 1, .staged 0, [0x4], [0x7FFFF]⟩,  -- PERIOD
   ⟨0x10, 64, 2, .staged 0, [0x0, 0x0], [0x80000000, 0xFFFFFFFF]⟩,  -- SEG
   ⟨0x50, 1, 1, .mixed 0 0xFFFFFFFF, [0x0], [0x80000000]⟩,  -- CTRL
   ⟨0x60, 1, 1, .ro, [0x0], [0xFFFFFF80]⟩,  -- STATE
   ⟨0x61, 1, 1, .ro, [0x0], [0xFFFFFF]⟩,  -- POSITION
   ⟨0x62, 3, 1, .ro, [0x0], [0xFFFFFFFF]⟩,  -- UR_COUNT,FAIL_COUNT,CAPT_LOST
   ⟨0x65, 1, 1, .ro, [0x0], [0xFFFF0000]⟩,  -- GRANT
   ⟨0x66, 1, 1, .ro, [0x0], [0xFFFFFFFF]⟩,  -- MIRROR_COUNT
   ⟨0x67, 1, 2, .ro, [0x0, 0x0], [0xFFFFFFFF, 0xFFFFFFFF]⟩,  -- CHANNELS
   ⟨0x80, 64, 1, .ro, [0x0], [0xFFFFFFFF]⟩,  -- FAIL_CH
   ⟨0x100, 256, 2, .staged 0, [0x0, 0x0], [0xFFFFFF80, 0xFFFFFFFF]⟩,  -- PROG
   ⟨0x200, 64, 4, .staged 1, [0x0, 0x0, 0x0, 0x0], [0xFFFFFFFF, 0xFFFFFFFF, 0xFFFFFFFF, 0xFFFFFFFF]⟩,  -- LEVEL
   ⟨0x400, 1024, 2, .staged 2, [0x0, 0x8000C0], [0xFFFF, 0xFFFFFFFF]⟩]  -- TSET

/-- The fields of SWEEP (R246). -/
def sweepFields : List FieldRow :=
  [⟨0x0, 1, 1, .locked, [0x0], [0xFFFE0000]⟩,  -- CFG
   ⟨0x1, 1, 1, .locked, [0x0], [0xFFFFFF]⟩,  -- BASE
   ⟨0x2, 1, 1, .locked, [0x0], [0x1FFFFFF]⟩,  -- COUNT
   ⟨0x3, 4, 1, .locked, [0x0], [0xFFFFFFFF]⟩,  -- START,STOP,STEP,BASE_LEVEL
   ⟨0x7, 1, 1, .locked, [0x10000], [0xFFFFFFFF]⟩,  -- TIMING
   ⟨0x8, 2, 1, .locked, [0x0], [0xFFFFFFFF]⟩,  -- CMP_HI,CMP_LO
   ⟨0xA, 1, 1, .mixed 0 0xFFFFFFFF, [0x0], [0xC0000000]⟩,  -- CTRL
   ⟨0x20, 1, 1, .ro, [0x0], [0xF0000000]⟩,  -- STATE
   ⟨0x21, 1, 1, .ro, [0x0], [0x1FFFFFF]⟩,  -- LENGTH
   ⟨0x22, 3, 1, .ro, [0x0], [0xFFFFFFFF]⟩]  -- VMIN,VMAX,RECOMP_COUNT

/-- The fields of ACQ (R365). -/
def acqFields : List FieldRow :=
  [⟨0x0, 1, 1, .locked, [0x0], [0xFE1F0000]⟩,  -- CFG
   ⟨0x1, 1, 1, .locked, [0x0], [0xFFC00000]⟩,  -- TRIG
   ⟨0x2, 2, 1, .locked, [0x0], [0xFFFFFFFF]⟩,  -- LEVEL,HYST
   ⟨0x4, 1, 1, .locked, [0x0], [0x3FF]⟩,  -- PRE
   ⟨0x5, 1, 1, .locked, [0x1], [0xFFFFFF]⟩,  -- POST
   ⟨0x6, 1, 1, .locked, [0x0], [0xFFFFF]⟩,  -- AVG
   ⟨0x7, 1, 1, .locked, [0x0], [0xFFFFFFFF]⟩,  -- REPEAT
   ⟨0x8, 2, 1, .locked, [0x0], [0xFFFFFFFF]⟩,  -- XLEVEL,XHYST
   ⟨0xA, 1, 1, .locked, [0x1], [0xF000FFFF]⟩,  -- DET_CFG
   ⟨0xB, 3, 1, .locked, [0x0], [0xFFFFFFFF]⟩,  -- DET_ON,DET_OFF,DET_RATE
   ⟨0x20, 1, 1, .ro, [0x0], [0xFC000000]⟩,  -- STATE
   ⟨0x21, 4, 1, .ro, [0x0], [0xFFFFFFFF]⟩,  -- RECORDS,TRIG_LOST,DET_COUNT,DET_REC_LOST
   ⟨0x25, 1, 3, .ro, [0x0, 0x0, 0x0], [0xFFFFFFFF, 0xFFFFFFFF, 0xFE000000]⟩]  -- LAST_TRIG

/-- The fields of PATTERN (R394). -/
def patternFields : List FieldRow :=
  [⟨0x0, 1, 1, .locked, [0x1], [0x8000FFFF]⟩,  -- CFG
   ⟨0x10, 64, 2, .locked, [0x0, 0x0], [0xFFFFFFFF, 0xFFFFFFFF]⟩,  -- TERM
   ⟨0x80, 1, 1, .ro, [0x0], [0x8000FFFF]⟩,  -- STATE
   ⟨0x81, 1, 1, .ro, [0x0], [0xFFFFFFFF]⟩]  -- FIRES

/-- The fields of TRIGPIN (R353, R381). -/
def trigpinFields : List FieldRow :=
  [⟨0x0, 1, 1, .staged 0, [0xF], [0xFC00FFFF]⟩,  -- CFG
   ⟨0x20, 1, 1, .ro, [0x0], [0x80000000]⟩,  -- STATE
   ⟨0x21, 1, 1, .ro, [0x0], [0xFFFFFFFF]⟩,  -- EDGES
   ⟨0x22, 1, 3, .ro, [0x0, 0x0, 0x0], [0xFFFFFFFF, 0xFFFFFFFF, 0xFE000000]⟩]  -- STAMP

/-- The fields of ROUTE (R337). -/
def routeFields : List FieldRow :=
  [⟨0x0, 1, 1, .staged 0, [0x10], [0xF000FFFF]⟩,  -- CFG
   ⟨0x1, 1, 1, .staged 0, [0x0], [0xFFFF]⟩,  -- SRC
   ⟨0x2, 1, 1, .staged 0, [0x0], [0xFFFFFFFF]⟩,  -- GATE
   ⟨0x3, 1, 1, .staged 0, [0x0], [0xFFFF]⟩,  -- DST
   ⟨0x4, 1, 1, .staged 0, [0x1], [0xFFFF]⟩,  -- DIV
   ⟨0x10, 1, 1, .locked, [0x0], [0xFFFF]⟩,  -- CNT_PRESET
   ⟨0x20, 1, 1, .ro, [0x0], [0x8000FFFF]⟩,  -- STATUS
   ⟨0x21, 3, 1, .ro, [0x0], [0xFFFFFFFF]⟩]  -- PASSED,BLOCKED,SUPPRESSED

/-- The fields of FIFO (R418). -/
def fifoFields : List FieldRow :=
  [⟨0x0, 1, 1, .locked, [0xF800000A], [0xFF00FFFF]⟩,  -- CFG
   ⟨0x1, 1, 1, .live, [0x2A001C0], [0xFFFFFFFF]⟩,  -- WMARK
   ⟨0x20, 1, 1, .ro, [0x0], [0xC000007F]⟩,  -- STATUS
   ⟨0x21, 7, 1, .ro, [0x0], [0xFFFFFFFF]⟩]  -- FILL,PEAK,DROP_WORDS,GAPS,ECC_CORR,ECC_DET,PSEQ_NEXT

/-- The fields of SPOOL (R420). -/
def spoolFields : List FieldRow :=
  [⟨0x0, 1, 1, .locked, [0x21FF0000], [0xFFFF8000]⟩,  -- CFG
   ⟨0x1, 1, 1, .locked, [0x3E840000], [0xFFFFFC00]⟩,  -- EGRESS
   ⟨0x2, 1, 1, .live, [0x3000200], [0xFFFFFFFF]⟩,  -- WMARK
   ⟨0x3, 4, 1, .live, [0x0], [0xFFF00000]⟩,  -- HOLDOFF
   ⟨0x8, 1, 1, .live, [0x0], [0x80000000]⟩,  -- CTRL
   ⟨0x20, 1, 1, .ro, [0x0], [0xC0000000]⟩,  -- STATUS
   ⟨0x21, 3, 2, .ro, [0x0, 0x0], [0xFFFFFFFF, 0xFFFFFFFF]⟩,  -- DEPTH,PEAK,OLDEST
   ⟨0x24, 2, 1, .ro, [0x0], [0xFFFFFFFF]⟩]  -- CORRUPT_COUNT,SKIPPED_WORDS

/-- The fields of JOURNAL (R431). -/
def journalFields : List FieldRow :=
  [⟨0x0, 1, 1, .locked, [0x0], [0xFF000000]⟩,  -- CFG
   ⟨0x1, 1, 1, .locked, [0x80000000], [0xFF000000]⟩,  -- GEOM
   ⟨0x2, 1, 1, .locked, [0x0], [0xFFFFFFFF]⟩,  -- SIZE
   ⟨0x3, 1, 1, .locked, [0x100003E8], [0xFF00FFFF]⟩,  -- REC_CFG
   ⟨0x4, 1, 1, .locked, [0x0], [0xFFFFFFFF]⟩,  -- RATE
   ⟨0x8, 1, 1, .live, [0x0], [0x80000000]⟩,  -- CTRL
   ⟨0x20, 1, 1, .ro, [0x0], [0xE0000000]⟩,  -- STATUS
   ⟨0x21, 2, 2, .ro, [0x0, 0x0], [0xFFFFFFFF, 0xFFFFFFFF]⟩,  -- FIRST_JSEQ,NEXT_JSEQ
   ⟨0x23, 3, 1, .ro, [0x0], [0xFFFFFFFF]⟩]  -- USED,TORN,BAD

/-- The fields of ARB (R516, R517). -/
def arbFields : List FieldRow :=
  [⟨0x0, 1, 1, .live, [0x80000064], [0x8000FFFF]⟩,  -- CFG
   ⟨0x1, 1, 1, .staged 0, [0x2004B0], [0xFFFFFF]⟩,  -- SHARE[0]
   ⟨0x2, 1, 1, .staged 0, [0x804B0], [0xFFFFFF]⟩,  -- SHARE[1]
   ⟨0x3, 1, 1, .staged 0, [0x10FA0], [0xFFFFFF]⟩,  -- SHARE[2]
   ⟨0x4, 1, 1, .staged 0, [0x40FA0], [0xFFFFFF]⟩,  -- SHARE[3]
   ⟨0x5, 1, 1, .staged 0, [0x20FA0], [0xFFFFFF]⟩,  -- SHARE[4]
   ⟨0x6, 1, 1, .staged 0, [0x14E20], [0xFFFFFF]⟩,  -- SHARE[5]
   ⟨0x7, 1, 1, .staged 0, [0x40FA0], [0xFFFFFF]⟩,  -- SHARE[6]
   ⟨0x8, 1, 1, .staged 0, [0x203E8], [0xFFFFFF]⟩,  -- SHARE[7]
   ⟨0x9, 1, 1, .staged 0, [0x22710], [0xFFFFFF]⟩,  -- SHARE[8]
   ⟨0x20, 1, 1, .ro, [0x0], [0xFFC00000]⟩,  -- STATUS
   ⟨0x21, 1, 1, .ro, [0x0], [0xFFFFFFFF]⟩,  -- SWAPS
   ⟨0x22, 1, 1, .ro, [0x0], [0xFFC00000]⟩,  -- LOAD
   ⟨0x100, 32, 1, .ro, [0x0], [0xFFFFFFFF]⟩,  -- LIVE
   ⟨0x140, 32, 1, .ro, [0x0], [0xFFFFFFFF]⟩]  -- SHADOW

/-- The fields of LOCK (R710). -/
def lockFields : List FieldRow :=
  [⟨0x20, 1, 1, .ro, [0x0], [0xC0FFFFFF]⟩,  -- STATE
   ⟨0x21, 1, 1, .ro, [0x0], [0xFFFF]⟩,  -- OWNER
   ⟨0x22, 1, 1, .ro, [0x0], [0xFFFFFFFF]⟩]  -- LEASE

/-- The fields of HK (R668). -/
def hkFields : List FieldRow :=
  [⟨0x20, 1, 1, .ro, [0x0], [0xFFC00000]⟩,  -- STATUS
   ⟨0x21, 3, 1, .ro, [0x0], [0xFFFFFFFF]⟩,  -- CONVS,URGENT_DROP,SLIPS
   ⟨0x24, 1, 4, .ro, [0x0, 0x0, 0x0, 0x0], [0xFE000000, 0xFFFFFFFF, 0xFFFFFFFF, 0xFFFFFFFF]⟩,  -- HOST_RESULT
   ⟨0x25, 1, 1, .ro, [0x0], [0xFFFFFFFF]⟩,  -- OVR
   ⟨0x100, 32, 1, .ro, [0x0], [0xFFFFFFFF]⟩,  -- VALUE
   ⟨0x120, 32, 2, .ro, [0x0, 0x0], [0xFFFFFFFF, 0xFFFFFFFF]⟩,  -- STAMP
   ⟨0x0, 1, 1, .locked, [0x0], [0xC0000000]⟩,  -- CFG
   ⟨0x1, 1, 1, .locked, [0x40200000], [0xFFFFFFFF]⟩,  -- VREF_EXT
   ⟨0x2, 1, 1, .locked, [0x0], [0xFE00FFFF]⟩,  -- SEQ_CFG
   ⟨0x10, 64, 1, .locked, [0x0], [0xF8000000]⟩,  -- SEQ
   ⟨0x60, 32, 1, .locked, [0x6C00000], [0xFFF00000]⟩,  -- INCFG
   ⟨0x80, 32, 1, .locked, [0x3F800000], [0xFFFFFFFF]⟩,  -- SCALE
   ⟨0xA0, 32, 1, .locked, [0x0], [0xFFFFFFFF]⟩]  -- OFFSET

/-- The fields of AOUT (R678). -/
def aoutFields : List FieldRow :=
  [⟨0x0, 1, 1, .locked, [0x0], [0xF800FFFF]⟩,  -- CFG
   ⟨0x1, 1, 1, .locked, [0x0], [0xFFFFFFFF]⟩,  -- WINDOW
   ⟨0x2, 1, 1, .locked, [0x0], [0xFFFF0000]⟩,  -- REPEAT
   ⟨0x3, 1, 1, .locked, [0x0], [0xFFFF]⟩,  -- SAFE
   ⟨0x4, 1, 1, .live, [0x0], [0xFFFF]⟩,  -- LEVEL
   ⟨0x20, 1, 1, .ro, [0x0], [0xC000FFFF]⟩,  -- STATUS
   ⟨0x21, 2, 1, .ro, [0x0], [0xFFFFFFFF]⟩]  -- LOOPS,MEM_ERR

/-- The fields of TIME (R491). -/
def timeFields : List FieldRow :=
  [⟨0x0, 1, 1, .staged 0, [0x80800], [0xFFFFF800]⟩,  -- CFG
   ⟨0x20, 1, 2, .ro, [0x0, 0x0], [0xFFFFFFFF, 0xFFFFFFFF]⟩,  -- NOW
   ⟨0x21, 1, 1, .ro, [0x0], [0xFC000000]⟩,  -- STATUS
   ⟨0x22, 3, 1, .ro, [0x0], [0xFFFFFFFF]⟩]  -- OFFSET,STEPS,REF_LOSS

/-- The fields of SYNC (R500). -/
def syncFields : List FieldRow :=
  [⟨0x0, 1, 1, .staged 0, [0x0], [0xFF000000]⟩,  -- CFG
   ⟨0x1, 1, 1, .staged 0, [0x186A0], [0xFFFFFF]⟩,  -- MER_PERIOD
   ⟨0x2, 1, 1, .staged 0, [0x14], [0xFFFF]⟩,  -- EVT_LEAD
   ⟨0x3, 1, 1, .staged 0, [0x0], [0xFFFFFFFF]⟩,  -- PATH_DELAY
   ⟨0x20, 1, 1, .ro, [0x0], [0xF0000000]⟩,  -- STATUS
   ⟨0x21, 6, 1, .ro, [0x0], [0xFFFFFFFF]⟩,  -- PHASE_ERR,LOOP_DELAY,CAL_RT,CAL_TURN,WORD_ERR,EVT_LATE
   ⟨0x27, 1, 3, .ro, [0x0, 0x0, 0x0], [0xFFFFFFFF, 0xFFFFFFFF, 0xFE000000]⟩]  -- IN_STAMP

/-- The field map of an object type (R25). -/
def fieldRows : Obj → List FieldRow
  | .dev => devFields
  | .port => portFields
  | .chan => chanFields
  | .octet => octetFields
  | .bank => bankFields
  | .engine => engineFields
  | .loop => loopFields
  | .outer => outerFields
  | .repet => repetFields
  | .notch => notchFields
  | .profile => profileFields
  | .seq => seqFields
  | .bseq => bseqFields
  | .sweep => sweepFields
  | .acq => acqFields
  | .pattern => patternFields
  | .trigpin => trigpinFields
  | .route => routeFields
  | .fifo => fifoFields
  | .spool => spoolFields
  | .journal => journalFields
  | .arb => arbFields
  | .lock => lockFields
  | .hk => hkFields
  | .aout => aoutFields
  | .time => timeFields
  | .sync => syncFields

/-- The row that describes field number f of an object type (R26: none where the type has no such field). -/
def fieldRow (o : Obj) (f : Nat) : Option FieldRow :=
  (fieldRows o).find? fun r => r.first ≤ f && f < r.first + r.count

/-- The row that describes a field as a write or a staging request meets it. HK is the one object whose map gives
numbers twice: SEQ[16] to SEQ[21] and the read-only fields 0x20 to 0x25; a write meets SEQ[i] (DESIGN CHOICE, log entry 9). -/
def fieldRowForWrite (o : Obj) (f : Nat) : Option FieldRow :=
  if o = .hk && 0x20 ≤ f && f ≤ 0x25 then some ⟨0x10, 64, 1, .locked, [0], [0xF8000000]⟩ else fieldRow o f

/-- The reset LIVE and SHADOW tables of the arbiter: class of position p of each stack. The classes take the reset
shares of R516, spread by reversed position numbers (DESIGN CHOICE, log entry 10). -/
def arbResetClass (p : Nat) : Nat :=
  if p % 2 = 0 then 0 else if p % 8 = 1 then 1 else if p % 8 = 3 then 0xF else if p % 16 = 5 then 3 else if p % 16 = 7 then 6
  else if p % 32 = 13 then 4 else if p % 32 = 15 then 7 else if p % 32 = 29 then 8 else if p = 31 then 2 else 5

/-- Word i of the reset tables of the arbiter (R517): slot 8i + j in bits [4j + 3:4j]. -/
def arbResetWord (i : Nat) : Word :=
  word ((upto 8).foldl (fun a j => a + arbResetClass ((8 * i + j) / 4) * 16 ^ j) 0)

/-- The reset value of word w of a field: from its field map; OCTET and ENGINE state and the arbiter tables depend on
the object number or the field number (R144, R516, R711). -/
def resetWord (o : Obj) (n f w : Nat) : Word :=
  match o with
  | .octet => if f = 0x20 then word (n * 2 ^ 24) else 0
  | .engine => if f = 0 then (if n ≤ 63 then word (n * 256) else 0xFF01) else if f = 1 then 0x180000 else 0
  | .arb =>
    if 0x100 ≤ f && f < 0x120 then arbResetWord (f - 0x100)
    else if 0x140 ≤ f && f < 0x160 then arbResetWord (f - 0x140)
    else match fieldRow o f with
      | some r => word (r.reset.getD w 0)
      | none => 0
  | _ =>
    match fieldRow o f with
    | some r => word (r.reset.getD w 0)
    | none => 0

end Sys2Proof.Machine
end

