-- ==== Sys2Proof/Machine/State.lean ====
section
/-!
DEFINITION. The state of the TH512: everything the manual gives the device, as plain data.

Every numbered field of R25 (registers, status words, counters) has its one home in regs, a list of words in one canonical
form: keys strictly rising and no word equal to its reset value. Keys are made by regKey (Machine/Ops.lean). What the
manual gives the device beside its numbered fields (sessions, tickets, loop states, memories, rings, ...) stands in the
other parts of State.
-/

namespace Sys2Proof.Machine

/-! ## Requests (R587, R623, R624, R627) -/

/-- The commands a request can carry (R623, R624, R627), without their bodies. -/
inductive HostCmd where
  | sessionOpen | sessionClose | sessionPing
  | read (obj : Nat) | write (obj : Nat) | stage (obj : Nat)
  | commit | discard
  | caps | calWrite | calSeal | calFree | calInfo
  | thaw | masterReset | faultRead | noticeRead
  | arm | disarm | chanClear | headRead | headWrite | engineRetire
  | seqRun | seqStop | seqResume
  | bseqRun | bseqStop | bseqResume | vecWrite | laneWrite | captRead
  | listWrite
  | acqArm | acqStop | acqForce
  | sinkRead | sinkClear
  | fifoFlush | spoolRead | spoolAck | spoolDiscard
  | journalOpen | journalRead
  | arbRead | arbClear
  | lockTake | lockRenew | lockRelease | lockReclaim
  | hkRun | hkStop | hkConvert
  | aoutRun | aoutStop | waveWrite
  | timeLoad | syncCalibrate
  deriving DecidableEq, Repr

/-- A request: its command, envelope and body. -/
structure Req where
  cmd : HostCmd
  env : Envelope
  body : List Word
  deriving DecidableEq, Repr

/-! ## Configuration: staging buffers, tickets, waiting writes (R28-R51, R712) -/

/-- A commit group: object type, object number and group number 0-7. -/
structure GroupRef where
  obj : Obj
  inst : Nat
  group : Nat
  deriving DecidableEq, Repr

/-- One staged or written word: field number, word within the field, value. -/
structure FieldWord where
  field : Nat
  idx : Nat
  value : Word
  deriving DecidableEq, Repr

/-- A group's staging buffer and the session that owns it (R34, R35); also a ticket's snapshot of it (R43). -/
structure Staging where
  ref : GroupRef
  owner : Nat
  words : List FieldWord
  deriving DecidableEq, Repr

/-- A pending commit ticket (R42-R49). order is the order in which the firmware accepted the commit (R33); session is 0 once
the session that issued it has ended; leadEnd is when its lead work ends; released says that its release word, naming
boundary, has been written. -/
structure Ticket where
  num : Nat
  order : Nat
  session : Nat
  snapshot : List Staging
  timed : Bool
  leadEnd : Nat
  boundary : Nat
  released : Bool
  /-- Its time was named as a meridian (R501). -/
  meridian : Bool
  /-- The request of a commit without an apply time, which is answered when its boundary is known (R46). -/
  answer : Option Req
  deriving DecidableEq, Repr

/-- A group's hardware shadow copy with its commit flag: the ticket number and the staged words of that ticket. A field of
the group that the ticket did not stage keeps its applied value (R43, R712). -/
structure Shadow where
  ref : GroupRef
  ticket : Nat
  words : List FieldWord
  deriving DecidableEq, Repr

/-- An accepted live or class K write that waits for its boundary (R28-R33). -/
structure LiveWrite where
  boundary : Nat
  obj : Obj
  inst : Nat
  words : List FieldWord
  session : Nat
  deriving DecidableEq, Repr

/-- The commands that act on a set of channels, sequencers or units at a boundary. -/
inductive TimedKind where
  | arm | disarm
  | seqRun | seqStop | seqResume | bseqRun | bseqStop | bseqResume
  | acqArm | acqStop | acqForce
  deriving DecidableEq, Repr

/-- An accepted command that waits for its boundary: a timed one sits in the almanac (R604, R605), an untimed one acts at
the first boundary after it was accepted. -/
structure TimedReq where
  id : Nat
  session : Nat
  kind : TimedKind
  insts : List Nat
  flags : Word
  timed : Bool
  boundary : Nat
  /-- The port the command arrived on, which its ingress is charged to (R607). -/
  port : Port
  /-- Its time was named as a meridian (R501). -/
  meridian : Bool
  deriving DecidableEq, Repr

/-- The configuration machinery. -/
structure Commits where
  staging : List Staging
  tickets : List Ticket
  shadows : List Shadow
  liveWrites : List LiveWrite
  timed : List TimedReq
  /-- When all work admitted on the commit path so far has ended, device time (R47). -/
  pathBusy : Nat
  /-- The number of requests accepted so far, which orders tickets and commands (R33). -/
  accepted : Nat
  deriving DecidableEq, Repr

/-! ## Channels and the loop engines (R52-R221, R231-R239, R532-R543, R714-R717) -/

/-- One copy of a channel's loop state memory: compensator, notch and prediction state (R109, R126, R171, R532). Every word
is binary32. yr, yc and u are those of the last frame; w, w1, w2 the tracking values of the last three frames; q and lim the
delay compensation term and the active limit of the next frame (R111, R112, R124); pr and pc its predictions (R126); offs the
measure offsets, by range, with which its precomputed references are formed (R106, R202). -/
structure LoopCopy where
  r1 : Word
  r2 : Word
  r3 : Word
  c1 : Word
  c2 : Word
  c3 : Word
  n1 : Word
  n2 : Word
  m1 : Word
  m2 : Word
  yr : Word
  yc : Word
  u : Word
  w : Word
  w1 : Word
  w2 : Word
  q : Word
  lim : Word
  limHi : Bool
  pr : Word
  pc : Word
  offs : List (Nat × Word)
  deriving DecidableEq, Repr

/-- The state of one profile move: position, velocity, acceleration (R177). -/
structure Move where
  p : Word
  v : Word
  a : Word
  deriving DecidableEq, Repr

/-- A coefficient pair of a range: measure gain and offset, force gain and offset (R233, R235). -/
structure Pair where
  g : Word
  o : Word
  gf : Word
  fo : Word
  deriving DecidableEq, Repr

/-- The conditions of an evaluation (R232): load current, output voltage and, where the head has reported it, temperature. -/
structure Conditions where
  current : Word
  voltage : Word
  temp : Option Word
  deriving DecidableEq, Repr

/-- Evaluated pairs that wait for their boundary (R201, R209, R231): device time, pairs by range (16 × quantity + range,
quantity 0 voltage and 1 current) and whether the evaluation extrapolated (R236). -/
structure PairWait where
  due : Nat
  pairs : List (Nat × Pair)
  extrap : Bool
  deriving DecidableEq, Repr

/-- A range change in progress (R195): quantity (true: current), target, elapsed time of its first frame, and AR_CFG.UP as it
was then (R211). -/
structure RangeChange where
  current : Bool
  target : Nat
  since : Nat
  up : Nat
  deriving DecidableEq, Repr

/-- What the auto-ranging of one quantity keeps (R208, R215, R216): judged frames above UP in a row with their largest value
and whether one of them was at full scale, the judged values since the dwell began, and since when: the end of the latest range
change or the start of the arming ramp, none before both. -/
structure AutoRange where
  upRun : Nat
  upMax : Word
  full : Bool
  /-- The latest judged values below, with the elapsed time of each, oldest first. -/
  seen : List (Nat × Word)
  since : Option Nat
  deriving DecidableEq, Repr

/-- How far a channel's arming has come. -/
inductive Ramp where
  | none
  /-- Waits for the relay; the ramp starts at the first boundary after the report (R87). -/
  | relay
  /-- Starts at this device time (R87, SYNC_RAMP). -/
  | sync (t : Nat)
  deriving DecidableEq, Repr

/-- How far a DISARM has come (R90). -/
inductive Undoing where
  | none
  /-- The set-point moves to 0. -/
  | moving
  /-- The relay is commanded open since this elapsed time. -/
  | opening (since : Nat)
  deriving DecidableEq, Repr

/-- The outer loop of a channel beside its fields (R149-R157): sums of y, |V| and |I| over the good frames of the divider
period and their number, the inner set-point in effect in the last frame, and the hand-off in progress: from, to, the step of
the next frame and the number of steps; step 0 stands for none (R154). -/
structure Outer where
  sumY : Word
  sumV : Word
  sumI : Word
  good : Nat
  inner : Word
  fromSp : Word
  toSp : Word
  step : Nat
  span : Nat
  /-- r_o of the latest divider frame, and of the one before it where the latest is to be judged for following error (R184,
  R186). -/
  lastRo : Option Word
  feRo : Option Word
  /-- The first divider frame after a change into an outer mode sets the integrator (R156). -/
  adopt : Bool
  /-- The outer target in effect in the last frame, and whether that frame was a divider frame whose update is to come. -/
  ro : Word
  due : Bool
  lostSent : Bool
  deriving DecidableEq, Repr

/-- The repetitive controller of a channel beside its fields (R165-R169). -/
structure Repet where
  ph : Nat
  sumE : Word
  /-- No frame of the bin in progress kept it from being learned. -/
  clean : Bool
  /-- u of the last two completed bins, the latest first. -/
  u1 : Word
  u2 : Word
  /-- A bin that has completed: its number, E, and whether it may be learned. -/
  done : Option (Nat × Word × Bool)
  /-- The core cycles of the events delivered that ask for a restart at the channel's next frame (R169). -/
  resync : List Nat
  deriving DecidableEq, Repr

/-- Supervision of a channel beside its fields (R184-R191). -/
structure Supervise where
  feTimer : Nat
  /-- The following error of the frame that brought the timer to FE_TIME waits for its action. -/
  feDue : Option Word
  implausible : Nat
  /-- The phase and the residual of the frame that brought the count to COUNT wait for their action. -/
  plDue : Option (Nat × Word)
  phaseSince : Nat
  arrivedOnce : Bool
  deriving DecidableEq, Repr

/-- A channel beside its fields. -/
structure Chan where
  cur : LoopCopy
  other : LoopCopy
  /-- The copy was written in the present engine frame (R532). -/
  wrote : Bool
  /-- A frame has been computed since the arming took effect (R717). -/
  started : Bool
  /-- The first good sample sets both histories: the channel has left HELD (R538). -/
  rehist : Bool
  predRun : Nat
  /-- The corrected V and I last reported. -/
  lastV : Word
  lastI : Word
  /-- The corrected V of the last frame that was not predicted, and its elapsed time (R158). -/
  goodV : Word
  goodAt : Nat
  code : Sample
  /-- The range at whose full scale that code was converted (R132, R200). -/
  codeRange : Nat
  /-- An active fast block has left since the arming took effect (R708). -/
  sentActive : Bool
  /-- Delay record of the last frame, 1/16 ns (R122). -/
  delay : Option Nat
  /-- r of the next frame, of the last frame and of the frame before (R106, R184). -/
  ref : Word
  ref1 : Word
  ref2 : Word
  exitRun : Nat
  compFrames : Nat
  compNoticed : Bool
  /-- Consecutive frames beyond PROT_V_HI, PROT_V_LO, PROT_I, HEAD_TEMP_MAX and, in OPEN, a compliance limit (R73, R99). -/
  overRuns : List Nat
  /-- A trip by event waits for the first frame that begins at or after this core cycle (R334). -/
  eventTrip : Option Nat
  extrapNoticed : Bool
  ramp : Ramp
  relayBy : Nat
  undoing : Undoing
  /-- A DISARM that waits for the release from HELD (R569), with its IMMEDIATE flag. -/
  disarmHeld : Option Bool
  /-- The relay command, and the head's latest report (R461). -/
  relayCmd : Bool
  relay : Nat
  temp : Nat
  tempValid : Bool
  tempAt : Nat
  alert : Bool
  rxErr : Option Nat
  /-- The range parity last reported, FQ last sent and the frames for which it still makes upstream blocks lost (R456,
  R463). -/
  rp : Bool
  fq : Nat
  fqFrames : Nat
  /-- The lost fast block of the frame has counted as its link error (R483). -/
  erred : Bool
  /-- Block 1 of the last good upstream frame: SAFE, HOLDING, RP and FRAME among its fields (R461). -/
  upBlock : Block
  /-- V_ACT and I_ACT: the ranges the head last reported connected (R221, R461). -/
  connV : Nat
  connI : Nat
  /-- Protection ZERO holds the channel at 0 (R75). -/
  zero : Bool
  /-- The state a HELD channel returns to, and since when it is HELD. -/
  left : Nat
  heldSince : Nat
  change : Option RangeChange
  waitV : Option Nat
  waitI : Option Nat
  swap : Option Nat
  autoV : AutoRange
  autoI : AutoRange
  pairs : List (Nat × Pair)
  /-- The ranges whose pairs come from an evaluation that extrapolated (R236). -/
  extraps : List Nat
  pairWaits : List PairWait
  /-- The channel was armed with ARM_UNCALIBRATED (R83), and the target range, by key, whose pairs were not in effect when its set
  became FAULTED (R545): each makes STATUS.UNCAL read 1. -/
  uncalArm : Bool
  lacking : Option Nat
  sumI : BitVec 64
  sumV : BitVec 64
  goodFrames : Nat
  cond : Option Conditions
  /-- Protection limits as raw codes for HELD frames, by range: lowest and highest permitted code (R542). -/
  codes : List (Nat × Int × Int)
  /-- p and v of the target move are PROFILE.POSITION and VELOCITY; this is its a. -/
  acc : Word
  /-- The target of the last frame, and the one kept while an up-range of the forced quantity runs (R217). -/
  target : Word
  heldTarget : Option Word
  innerMove : Move
  limPos : Move
  limNeg : Move
  outer : Outer
  repet : Repet
  supv : Supervise
  deriving DecidableEq, Repr

/-- A calibration set (R222-R226, R544): its state (0 EMPTY to 3 FAULTED), its words, the highest word written, the CRC-32 of
each block of 256 words as it was sealed, and the blocks in which DRAM has inverted bits since. -/
structure CalSet where
  state : Nat
  words : List (Nat × Word)
  top : Nat
  checks : List Nat
  worn : List Nat
  deriving DecidableEq, Repr

/-! ## Sweeps, sequencers and vector memory (R240-R331, R718-R721) -/

/-- A sweep descriptor as it was checked at EXPAND (R718): the values the expansion, and every regeneration, uses. -/
structure Expanded where
  kind : Nat
  cfg : Word
  base : Nat
  n : Nat
  start : Word
  stop : Word
  step : Word
  level : Word
  timing : Word
  cmpHi : Word
  cmpLo : Word
  deriving DecidableEq, Repr

/-- A granule of a list source in DRAM (R252, R253): which of its sixteen entries have been written, their payloads, and the CRC-32
that protects them. -/
structure ListGranule where
  written : List Nat
  data : List (BitVec 128)
  check : Nat
  deriving DecidableEq, Repr

/-- A sweep descriptor beside its fields: what it was expanded from, whether an EXPAND has been accepted and not ended
(R718), and the granules of its list source whose storage is taken (R252, R253). -/
structure Sweep where
  from? : Option Expanded
  accepted : Bool
  sources : List (Nat × ListGranule)
  deriving DecidableEq, Repr

/-- A sequencer: of a channel, or of a bank. -/
inductive SeqRef where
  | chan (c : Nat)
  | bank (b : Nat)
  deriving DecidableEq, Repr

/-- The causes of an underrun (R292, R612). -/
inductive UrCause where
  | fetchLate | streamLate | corrupt | frozen
  deriving DecidableEq, Repr

/-- An underrun in progress (R291-R296): when it began, whether the spool was full then (R409), the entries abandoned, the PLAY
instruction and the segment abandoned, the PLAY of the FILL_LOOP body that REPEAT_RESIDENT plays now, and whether a fill segment has
just ended. -/
structure Underrun where
  since : Nat
  spoolFull : Bool
  count : Nat
  pc : Nat
  seg : Nat
  fill : Option Nat
  fillEnded : Bool
  deriving DecidableEq, Repr

/-- A vector issued whose results are not all in (R319, R322-R326): its number, issue boundary, timing set, the pins whose
results are to come with their states and strobes in steps, and the pins that failed or were clamped so far. -/
structure Issued where
  vec : Nat
  time : Nat
  tset : Nat
  waiting : List (Nat × Nat × Nat)
  failMask : Nat
  clamped : Bool
  deriving DecidableEq, Repr

/-- What a vector sets a pin to (R307, R320, R470): its state, its edges in steps, and VIH, VIL, VOH and VOL as they stood when it
was issued. -/
structure PinWord where
  state : Nat
  dOn : Nat
  dRet : Nat
  strobe : Nat
  levels : List Word
  deriving DecidableEq, Repr

/-- What one issue boundary gives the pins of a bank: the boundary, 300 ns before their vector start, and the pins it sets. -/
structure Placed where
  time : Nat
  pins : List (Nat × PinWord)
  deriving DecidableEq, Repr

/-- A line of a point cache or vector window: sixteen entries of a granule (R256, R257, R313). -/
structure CacheLine where
  key : Nat
  data : List (BitVec 128)
  deriving DecidableEq, Repr

/-- A sequencer beside its fields. -/
structure Seq where
  /-- The instruction at PC executes at the present boundary. -/
  exec : Bool
  /-- A segment is being played. -/
  playing : Bool
  /-- The last sample of the segment ended at the present boundary. -/
  atEnd : Bool
  /-- A SEQ.STOP with AT_END waits for the end of the segment. -/
  stopAtEnd : Bool
  /-- A BSEQ.STOP waits for the next issue boundary (R267, R317). -/
  stopNext : Bool
  /-- Loop counters 0-3; none is endless (R272). -/
  counters : List (Option Nat)
  /-- Latches of the last completed segment: EVT3-EVT0, CMPF, CMPP, COMPL as in STATE[27:21]. -/
  done : Nat
  /-- Resampler phase at a boundary, and that boundary (R280). -/
  phase : Nat
  phaseAt : Nat
  /-- Input samples, the current one first, 16 in all (R283). -/
  hist : List Word
  /-- Samples of the entry still to come, the current one included. -/
  left : Nat
  /-- Sums of the current input sample's good frames for compares (R284). -/
  sumV : BitVec 64
  sumI : BitVec 64
  good : Nat
  /-- The boundary at which a WAIT first evaluates its condition, and that at which a WAIT last released (R721). -/
  waitFrom : Nat
  released : Option Nat
  underrun : Option Underrun
  /-- STATE.RUN before the sequencer was frozen, and when (R301). -/
  frozenIn : Nat
  frozenAt : Nat
  /-- The next issue boundary of a bank sequencer, device time (R319), and its timing set in use (R329). -/
  next : Nat
  tset : Nat
  /-- A set chosen by TSET, and the issue boundary at which TSET was executed. -/
  tsetNext : Option (Nat × Nat)
  /-- The output value held while the sequencer does not play (R267, R268, R301, R302). -/
  held : Word
  /-- FORCE_LEVEL before a write at a boundary, and that boundary (R283). -/
  levelBefore : Option (Nat × Word)
  /-- The lines of the cache or window by number, granules requested, the 576-bit units of these that DRAM slots have carried, and
  granules known to be bad (R242, R255, R257, R312, R313). -/
  cache : List (Nat × CacheLine)
  wanted : List Nat
  units : List Nat
  corrupt : List Nat
  /-- Stream index of the first entry of the stream segment being played (R287). -/
  streamBase : Nat
  /-- Stream granules received and not yet played (R288). -/
  streamed : List Nat
  /-- Vectors whose results are not all in, oldest first. -/
  issued : List Issued
  /-- Final drive of each pin's last vector: 0 off, 1 VIL, 2 VIH (R307). -/
  drive : List (Nat × Nat)
  /-- What the latest issue boundaries give the pins, oldest first. -/
  placed : List Placed
  /-- Ingress charged to a port, bytes a second (R607), and the port. -/
  ingress : Nat
  port : Port
  deriving DecidableEq, Repr

/-- A bank's vector memory (R308-R310): copies A and B of the vector entries and of the lane entries, by entry number, each entry with
its CHECK; and the capture ring (R327), oldest entry first. -/
structure VecMem where
  vectorA : List (Nat × BitVec 144)
  vectorB : List (Nat × BitVec 144)
  laneA : List (Nat × BitVec 144)
  laneB : List (Nat × BitVec 144)
  capture : List (BitVec 144)
  deriving DecidableEq, Repr

/-! ## Event routing (R332-R359) -/

/-- An event on its way to a consumer (R335): the consumer identifier, the core cycle of its arrival and the route. -/
structure Delivery where
  consumer : Nat
  cycle : Nat
  route : Nat
  deriving DecidableEq, Repr

/-- What ROUTE.SINK_READ shows of a consumer (R345). -/
structure Sink where
  overrun : Bool
  coincident : Bool
  lastCount : Nat
  activations : Nat
  overruns : Nat
  /-- N_EVENT_OVERRUN was sent since the last clear (R346). -/
  noticed : Bool
  deriving DecidableEq, Repr

/-- The event router and the TRIG outputs. -/
structure Events where
  /-- Core cycle of a source's last firing that was not ignored (R340). -/
  lastFire : List (Nat × Nat)
  /-- Core cycle of a route's last firing that its window gate stopped, and BLOCKED before it (R341). -/
  blockedAt : List (Nat × Nat × Nat)
  deliveries : List Delivery
  sinks : List (Nat × Sink)
  /-- Driven level of a TRIG output in toggle mode, before INVERT, and the core cycles in which it changes from there (R356). -/
  trigOut : List (Nat × Bool)
  toggles : List (Nat × List Nat)
  /-- Pulses of a pin that have not ended: the first busy core cycle and the one after the last (R356). -/
  pulse : List (Nat × List (Nat × Nat))
  /-- Last busy core cycle of a consumer whose busy time has ended (R344). -/
  busyEnd : List (Nat × Nat)
  /-- Times, in device time, at which broadcast SYNC events fire: slot 0-7 and its target boundary (R357, R510). -/
  syncTarget : List (Nat × Nat)
  deriving DecidableEq, Repr

/-! ## Acquisition, timestamps and patterns (R360-R397) -/

/-- Why a unit was triggered (R376), in the order of R378 for equal times. -/
inductive TrigCause where
  | event | level | sequencer | software
  deriving DecidableEq, Repr

/-- A trigger that waits for its trigger frame (R376-R378); time in 1/128 ns. -/
structure Trigger where
  cause : TrigCause
  time : Nat
  arrivals : Nat
  tdcMiss : Bool
  noInterp : Bool
  late : Bool
  deriving DecidableEq, Repr

/-- A finished interval: sample instant of its first frame (1/128 ns), V, I and flags words of R382 and R384, its frames. -/
structure Interval where
  instant : Nat
  v : Word
  i : Word
  flags : Word
  frames : Nat
  deriving DecidableEq, Repr

/-- The interval in progress: sums in binary64 over its good frames (R374), and the values of its last frame. -/
structure OpenInterval where
  instant : Nat
  frames : Nat
  good : Nat
  /-- Good frames whose current takes part (R363). -/
  goodI : Nat
  sumV : BitVec 64
  sumI : BitVec 64
  lastV : Word
  lastI : Word
  flags : Nat
  deriving DecidableEq, Repr

/-- The measurement window of a record (R387): counts, sums in binary64, extremes, crossings with the times of the first and
the last in 1/128 ns, flag counts in the order of the COUNTS group, delay records. -/
structure Window where
  frames : Nat
  good : Nat
  /-- Good frames whose current takes part (R363). -/
  goodI : Nat
  sumV : BitVec 64
  sumI : BitVec 64
  sumVV : BitVec 64
  sumII : BitVec 64
  sumVI : BitVec 64
  minV : Option Word
  maxV : Option Word
  minI : Option Word
  maxI : Option Word
  crossings : Nat
  firstCross : Nat
  lastCross : Nat
  flagCounts : List Nat
  complEntries : Nat
  detStarts : Nat
  detFrames : Nat
  delayMin : Option Nat
  delayMax : Option Nat
  deriving DecidableEq, Repr

/-- A record in progress (R382-R385). offset is the number of its words written so far; whole says that its last
post-trigger interval has ended. -/
structure Record where
  recno : Nat
  trig : Option Trigger
  coincident : Bool
  arrivals : Nat
  firstInstant : Nat
  preN : Nat
  partFrames : Nat
  postN : Nat
  flags : Nat
  offset : Nat
  win : Window
  whole : Bool
  deriving DecidableEq, Repr

/-- Detection beside its fields (R389-R392): the run of detecting or releasing good frames and the sample instant of its
first frame, the peak of a run and of the detection in force, its start. -/
structure Detection where
  run : Nat
  runStart : Nat
  runPeak : Word
  inForce : Bool
  start : Nat
  peak : Word
  /-- DETECT or DETECT_END is still to fire; the end comes with the sample instant that ended the detection. -/
  toStart : Bool
  toEnd : Option Nat
  deriving DecidableEq, Repr

/-- An acquisition unit beside its fields. -/
structure Acq where
  ival : Option OpenInterval
  /-- The latest finished intervals, oldest first, at most 896 (R375). -/
  pre : List Interval
  primed : Bool
  xPrimed : Bool
  /-- V, I and sample instant of the frame before, if it was good (R380, R388). -/
  last : Option (Word × Word × Nat)
  /-- Sample instant of the last frame taken into an interval. -/
  taken : Option Nat
  /-- Sample instant of the last frame (R392). -/
  seen : Option Nat
  trigs : List Trigger
  rcd : Option Record
  recno : Nat
  holdLeft : Nat
  det : Detection
  /-- Elapsed times of the detection records of the last 1 ms (R392). -/
  detTimes : List Nat
  deriving DecidableEq, Repr

/-! ## Record FIFOs, spool and journal (R398-R441) -/

/-- The open packet of a unit (R400): what its header will carry, and its payload so far. -/
structure OpenPacket where
  ptype : Nat
  first : Bool
  provisional : Bool
  recno : Nat
  offset : Nat
  payload : List Word
  /-- Elapsed time at which it opened. -/
  since : Nat
  deriving DecidableEq, Repr

/-- A closed packet that waits for the ring: a unit's packet stands in one of its two buffers; a sequencer's gap marker
names no unit (R406, R409). -/
structure WaitingPacket where
  unit : Option Nat
  words : List Word
  deriving DecidableEq, Repr

/-- What a unit has dropped since no buffer was free (R407-R409). aside says that only detection records were lost so, each for want of
a buffer of its own beside an open packet: the unit's other words still find room. -/
structure Dropping where
  aside : Bool
  begins : Nat
  ends : Nat
  count : Nat
  recnoFirst : Nat
  spoolFull : Bool
  deriving DecidableEq, Repr

/-- The packet side of an acquisition unit. -/
structure UnitPackets where
  openPkt : Option OpenPacket
  dropping : Option Dropping
  deriving DecidableEq, Repr

/-- The ring of a FIFO: closed packets, oldest first. -/
structure Ring where
  packets : List (List Word)
  /-- N_RECORD_DROP was sent since ABOVE last cleared (R410). -/
  dropNoticed : Bool
  deriving DecidableEq, Repr

/-- A packet in the spool, the cursor after it (R617) and which consumers have taken it (R423). -/
structure SpoolPacket where
  words : List Word
  cursorEnd : Nat
  pushTaken : Bool
  pullTaken : Bool
  journalTaken : Bool
  deriving DecidableEq, Repr

/-- The spool, push egress and pull reads. -/
structure Spool where
  packets : List SpoolPacket
  /-- Bytes taken into the spool since power-up. -/
  cursor : Nat
  /-- The FIFO the writer looks at next (R411), and the FIFO whose oldest packet did not fit (R424). -/
  turn : Nat
  stopped : Option Nat
  /-- Cursor after the last packet a pull read delivered (R617), and that of the latest acknowledgement. -/
  delivered : Nat
  acknowledged : Nat
  /-- Egress credit in bytes × 10^9 (R426) and the elapsed time it was last brought up to date. -/
  credit : Nat
  creditAt : Nat
  /-- What the datagram being filled holds, the cursor after the last spool packet it covers, and the elapsed time at which
  its first packet was taken (R616). -/
  datagram : List (List Word)
  datagramEnd : Nat
  datagramAt : Nat
  /-- Bytes of spool space promised to bounded acquisition runs (R429), by unit. -/
  promised : List (Nat × Nat)
  /-- What R429 charges the admitted units, words per second as a fraction: its numerator and denominator. -/
  charged : List (Nat × Nat × Nat)
  deriving DecidableEq, Repr

/-- The journal record being filled (R436). -/
structure JOpen where
  jseq : Nat
  unit : Nat
  packets : List (List Word)
  cursorEnd : Nat
  openTime : Nat
  since : Nat
  deriving DecidableEq, Repr

/-- The journal port. -/
structure Journal where
  scanning : Bool
  records : List JRecord
  openRec : Option JOpen
  /-- Closed records being programmed, oldest first, with the cursor after the last spool packet each covers. -/
  programming : List (JRecord × Nat)
  /-- Where the next record is placed, in program units from address 0. -/
  nextUnit : Nat
  /-- Blocks erased and not yet written; blocks whose erase was started; blocks retired (R440). -/
  erased : List Nat
  erasing : List Nat
  bad : List Nat
  /-- A fall of PWRGOOD stopped taking packets (R437). -/
  closing : Bool
  deriving DecidableEq, Repr

/-- The record path. -/
structure Records where
  rings : List (Nat × Ring)
  units : List (Nat × UnitPackets)
  /-- Closed packets of each bank FIFO in the order they closed (R406). -/
  waiting : List (Nat × List WaitingPacket)
  spool : Spool
  journal : Journal
  /-- HOLDOFF pins on which an EN = 1 has been applied (R417). -/
  holdoffUsed : List Nat
  deriving DecidableEq, Repr

/-! ## Time, SYNC and PTP (R489-R514) -/

/-- Device time and the SYNC line beside their fields. load is a time that TIME.LOAD sets at the next boundary; step is a step
that a quiet device takes there, in 1/128 ns; slew is what is still to be slewed, in 1/16 ps; both are device time less its
source, phaseStep and phaseSlew the same of the frame phase (R495, R506). timeOpen and phaseOpen say that a needed correction of either
could not be made (R495, R507). refOk says that a frame has begun with REFCLK present (R491). -/
structure TimeSync where
  load : Option Nat
  step : Option Int
  slew : Int
  phaseStep : Option Int
  phaseSlew : Int
  timeOpen : Bool
  phaseOpen : Bool
  refOk : Bool
  /-- Elapsed time of the last SYNC_IN edge, and since when SYNC is lost. -/
  lastEdge : Option Nat
  lostAt : Option Nat
  /-- Frames in a row with |PHASE_ERR| ≤ 50 ps (R506). -/
  alignRun : Nat
  /-- Device time of the frame of the meridian marked last: of the origin's own MARK, or of the frame a follower received it for
  (R504, R507). -/
  marked : Nat
  hi : Option Nat
  /-- A calibration run: hop windows, device time of its first frame, windows ended (R511). -/
  calRun : Option (Nat × Nat × Nat)
  /-- A successor's turnarounds in its window: their sum in 1/128 ns and number, and the stamp of its last answer (R512). -/
  turnSum : Nat
  turns : Nat
  answerAt : Option Nat
  /-- Words for SYNC_OUT with the device time at which their START is launched (R503, R504). -/
  out : List (Nat × BitVec 48)
  /-- The symbol a follower with REPEAT relaunches, with the boundary at which it does (R505). -/
  relayed : Option (Nat × SyncSymbol)
  /-- The symbol launched on SYNC_OUT at the last boundary (R502). -/
  symbol : Option SyncSymbol
  /-- REFCLK is lost and the PLLs are in holdover (R496). -/
  holdover : Bool
  deriving DecidableEq, Repr

/-- The master an ordinary clock follows: its Announce's priority1 and clockClass, its port identity, and how its messages come. -/
structure PtpMaster where
  priority : Nat
  clockClass : Nat
  source : Nat
  carriage : PtpCarriage
  deriving DecidableEq, Repr

/-- A two-step Sync passed on, by its sender, domain and number, with its residence time (R498). -/
structure PtpHeld where
  source : Nat
  domain : Nat
  seq : Nat
  residence : Int
  deriving DecidableEq, Repr

/-- The PTP ordinary clock on port A (R497): sequence numbers of its Sync and Delay_Req messages; the latest times, in 1/128
ns: a master's Sync sent and, less the Sync's own correctionField, received, each with its number, the own Delay_Req sent with
its number; and the master followed. -/
structure Ptp where
  syncSeq : Nat
  reqSeq : Nat
  announceSeq : Nat
  t1 : Option (Nat × Int)
  t2 : Option (Nat × Int)
  t3 : Option (Nat × Int)
  master : Option PtpMaster
  meanDelay : Option Int
  /-- The two-step Syncs passed on whose Follow_Up has not been (R498). -/
  held : List PtpHeld
  deriving DecidableEq, Repr

/-! ## The DRAM arbiter (R515-R528) -/

/-- A DRAM request that waits: master, 576-bit unit, the slot in which it arrived (counted from power-up), whether it is a
regeneration, whether a slot of its class has passed it by, whether it has starved, whether it was counted as late (R549). -/
structure ArbReq where
  master : Nat
  unit : Nat
  since : Nat
  regen : Bool
  passed : Bool
  starved : Bool
  late : Bool
  deriving DecidableEq, Repr

/-- What ARB.READ shows of a master (R526), the slots of its grants in the last 64 table cycles (R522), and whether its first
starvation has been told (R524). -/
structure ArbMaster where
  grants : Nat
  waits : Nat
  longest : Nat
  starves : Nat
  starved : Bool
  usedMax : Nat
  recent : List Nat
  noticed : Bool
  deriving DecidableEq, Repr

/-- Quads moved to a class: how many, and the elapsed times of the last move and of the last starvation (R525). -/
structure Moved where
  count : Nat
  movedAt : Option Nat
  starvedAt : Nat
  deriving DecidableEq, Repr

/-- The arbiter beside its fields: the next slot to be decided, the requests that wait, oldest first, the masters, the slot in
which a swap was requested (R519), whether a table with other shares follows it (R528), quads moved by class, and the slots
granted in the last 1 ms. -/
structure Arb where
  slot : Nat
  queue : List ArbReq
  masters : List (Nat × ArbMaster)
  swapAt : Option Nat
  rebuild : Bool
  moved : List (Nat × Moved)
  granted : List Nat
  deriving DecidableEq, Repr

/-! ## Boot ROM and image load (R648-R661) -/

/-- How far the device has come since power-up: held in reset, the boot ROM serving, the firmware running, sending IDLE frames
since a fall of PWRGOOD (R565). -/
inductive Phase where
  | reset | bootRom | running | idle
  deriving DecidableEq, Repr

/-- Who an enumeration or load frame is answered to: out of a port, to an address, with the tag of the request (R577, R585). -/
structure Peer where
  port : Port
  mac : Nat
  vlan : Option Nat
  deriving DecidableEq, Repr

/-- The boot ROM: STATE of R578 is 0 idle, 1 loading, 2 running. loadId and imageLen are those of the load in progress; image
holds the pieces received by their offset; checking is whom a check's outcome is reported to, accepted that
the check has passed. major and
minor are those of the running image. -/
structure Boot where
  phase : Phase
  loadId : Option Nat
  imageLen : Nat
  image : List (Nat × List Byte)
  checking : Option Peer
  accepted : Bool
  major : Nat
  minor : Nat
  deriving DecidableEq, Repr

/-! ## Faults, frozen masters, locks (R529-R567, R710) -/

/-- An entry of the fault log (R567). -/
structure FaultEntry where
  cause : Nat
  lasting : Bool
  obj : Nat
  inst : Nat
  count : Nat
  time : Nat
  deriving DecidableEq, Repr

/-- A lock (R553-R556, R710): the locked object, its owner, and the end of the lease on the elapsed clock; leaseEnds is
none once it is ORPHANED. -/
structure Lock where
  obj : Obj
  inst : Nat
  owner : Nat
  leaseEnds : Option Nat
  deriving DecidableEq, Repr

/-- Faults and their containment. -/
structure Faults where
  /-- Times of the errors of one monitored source (R529), keyed by source × 65536 + number; link errors are source 16. -/
  errors : List (Nat × List Nat)
  log : List FaultEntry
  /-- Entries were lost before the next one read. -/
  logLost : Bool
  /-- Frozen masters with their violation codes (R550). -/
  frozen : List (Nat × Nat)
  locks : List (Nat × Lock)
  /-- DRAM regions (1 MiB) mapped onto the remap reserve, oldest first, and those being rebuilt (R546). -/
  remapped : List Nat
  rebuilding : List Nat
  /-- DRAM regions that stay in use although their fault is lasting, since the reserve is full (R547). -/
  unmapped : List Nat
  /-- Engines retired since power-up, in order (R535, R569). -/
  retired : List Nat
  /-- A firmware restart is in progress since this elapsed time (R558). -/
  restart : Option Nat
  /-- Since when no session has been open (R559), and whether HOST_ACT was performed since. -/
  hostIdle : Option Nat
  hostActed : Bool
  /-- N_OVERTEMP was sent and the die has not fallen below 95 °C since (R564). -/
  hot : Bool
  /-- FAULT_N is driven low (R566). -/
  faultN : Bool
  /-- Corrected-error counters of the islands: single-bit errors corrected in the crossing FIFOs into an island (R19). -/
  corrected : List (Nat × Nat)
  deriving DecidableEq, Repr

/-! ## Sessions, replies and notices (R587-R622) -/

/-- What leaves the device on Ethernet. Multi-byte fields are given as numbers; R11 and R587 fix their places. -/
inductive OutMsg where
  /-- An RMP message of the given KIND to a UDP port (R587), with its TAG (R588). -/
  | rmp (dst : Source) (udp kind session seq code ctl time : Nat) (body : List Word) (tag : Nat)
  /-- An enumeration frame (R576) of the device, or one passed on: source and destination address, VLAN tag, and the bytes after the
  EtherType. -/
  | enum (port : Port) (src dst : Nat) (vlan : Option Nat) (bytes : List Byte)
  /-- A frame forwarded by the internal switch (R571): source and destination address, EtherType, length, VLAN tag and
  the bytes after them. -/
  | forward (port : Port) (src dst etherType length : Nat) (vlan : Option Nat) (payload : List Byte)
  /-- A pause frame with its quanta (R574). -/
  | pause (port : Port) (quanta : Nat)
  /-- An ARP reply or a gratuitous ARP for an IPv4 address (R582, R583). -/
  | arp (port : Port) (dst : Nat) (addr : Nat) (gratuitous : Bool) (vlan : Option Nat)
  /-- A neighbour advertisement for an IPv6 address (R582, R583). -/
  | neighbour (port : Port) (dst : Nat) (addr : Nat) (solicited : Bool) (vlan : Option Nat)
  /-- An echo reply of ICMP or ICMPv6 (R583). -/
  | echo (dst : Source) (v6 : Bool) (id seq : Nat) (data : List Byte)
  /-- A PTP message of the ordinary clock, or one in transit, with its messageType and the frame that carries it (R497, R498). -/
  | ptp (port : Port) (transit : Bool) (type : Nat) (f : PtpFrame) (m : PtpMsg)
  deriving DecidableEq, Repr

/-- A frame on its way out: what it carries, its source address (R579, R580), and whether it is a datagram of the device that is sent with
a UDP checksum (R586). -/
structure Sent where
  src : Nat
  checksum : Bool
  msg : OutMsg
  deriving DecidableEq, Repr

/-- A request that arrived out of order and is held (R599), with the time of its arrival. -/
structure HeldReq where
  seq : Nat
  req : Req
  since : Nat
  deriving DecidableEq, Repr

/-- An open session (R595-R599, R609, R610). Buckets are kept in units of 10^-9 token. -/
structure Session where
  key : List Byte
  src : Source
  msgRate : Nat
  burst : Nat
  timeout : Nat
  maxReply : Nat
  noticePort : Nat
  egressPort : Nat
  noticeMask : Nat
  bucket : Nat
  bucketAt : Nat
  next : Nat
  held : List HeldReq
  /-- The replies of the last 64 requests, by SEQ. -/
  replies : List (Nat × OutMsg)
  /-- SEQ of requests whose work is still going on. -/
  executing : List Nat
  lastValid : Nat
  noticeBucket : Nat
  noticeAt : Nat
  noticeLost : Bool
  /-- The stream datagrams of the session seen so far (R619). -/
  streamSeq : Nat
  deriving DecidableEq, Repr

/-- A notice as the ring keeps it (R609, R611). -/
structure Notice where
  nseq : Nat
  code : Nat
  time : Nat
  body : List Word
  deriving DecidableEq, Repr

/-- The settings push egress keeps from the session that enabled it (R615). -/
structure EgressTo where
  session : Nat
  key : List Byte
  dst : Source
  udp : Nat
  deriving DecidableEq, Repr

/-- The host side of the device. -/
structure HostSide where
  sessions : List (Nat × Session)
  /-- The last NSEQ issued. -/
  nseq : Nat
  ring : List Notice
  /-- Everything sent so far and not waiting behind a pause, oldest first. -/
  tx : List Sent
  /-- Frames that wait for a paused port, oldest first, with their priority of R573. -/
  waiting : List (Port × Nat × Sent)
  egress : Option EgressTo
  egSeq : Nat
  deriving DecidableEq, Repr

/-! ## Network attachment and enumeration (R570-R586) -/

/-- An address the switch has learned (R572): where it was last seen and when, on the elapsed clock. -/
structure Learned where
  mac : Nat
  port : Port
  seen : Nat
  deriving DecidableEq, Repr

/-- The network side of the device beside its PORT and DEV fields. -/
structure Net where
  /-- Position on the chain (R577); 0 before any DISCOVER. -/
  position : Nat
  /-- CHAIN_KEY, once ASSIGN has given it (R580). -/
  chainKey : Option (List Byte)
  learned : List Learned
  /-- Elapsed times at which a received pause ends, by port number (R574). -/
  pauseEnds : List (Nat × Nat)
  /-- Ports towards which a pause frame with quanta 0xFFFF stands (R574). -/
  pausing : List Nat
  /-- Elapsed times of the echo replies of the last second (R583). -/
  echoes : List Nat
  /-- Port B is unblocked by the owner although RING_EN and OWNER are 1 (R561). -/
  unblocked : Bool
  deriving DecidableEq, Repr

/-! ## Head links (R442-R488) -/

/-- A request on the message lane that waits for its response (R466, R467): tag, WRITE or READ, address, the words written or
the number of words read, how often it was sent, when it was last sent (elapsed time), and the host request it answers with
its session. -/
structure HeadMsg where
  tag : Nat
  isWrite : Bool
  addr : Nat
  words : List Block
  count : Nat
  tries : Nat
  sentAt : Nat
  host : Option (Nat × Req)
  /-- It waits for a downstream frame to leave in. -/
  waits : Bool
  deriving DecidableEq, Repr

/-- A response that came in blocks 1-9 of a good upstream frame (R466, R467): WRITE_RSP or READ_RSP, TAG, STATUS and the data words. -/
structure HeadReply where
  isWrite : Bool
  tag : Nat
  status : Nat
  words : List Block
  deriving DecidableEq, Repr

/-- A N_HEAD_ALERT that waits for the FAULT registers it names (R447): its bank, and each channel with the tag of its READ and what the
READ brought. -/
structure AlertNotice where
  bank : Nat
  reads : List (Nat × Nat × Option Block)
  deriving DecidableEq, Repr

/-- A link beside its CHAN fields: the step of R473 that training has reached (0 TS1 sent, 1 TS2 sent, 2 round trip measured,
3 TS3 sent, 4 alignment checked), the elapsed time at which training or the 10 ms after a failed attempt began, ADV, whether
no attempt has been made since LINK_EN was set or HRST_N rose (R485), the next tag, the last downstream fast block, the
requests under way, and a descriptor that waits for ACCEPT_NEW (R478). -/
structure Link where
  step : Nat
  since : Nat
  retry : Bool
  adv : Nat
  first : Bool
  nextTag : Nat
  fast : Block
  msgs : List HeadMsg
  /-- Responses received to those requests and not yet acted on. -/
  inbox : List HeadReply
  /-- The words of the descriptor read so far (R473). -/
  descRead : List Block
  offered : List Block
  /-- Blocks 1-9 of the last downstream frame, and the level words it or an earlier frame carried last (R460, R470). -/
  blocks : List Block
  levels : List Block
  /-- VIH, VIL, VOH and VOL of the last vector whose words have left on the vector lane; empty before one has (R317, R331). -/
  pinLevels : List Word
  /-- The last downstream frame as it left: ten sync headers and scrambled payloads in slot order; and the last 58 payload bits sent,
  the latest in bit 57 (R450, R452). -/
  line : List (Nat × Block)
  tx : BitVec 58
  /-- Upstream block lock, and whether each of the latest blocks had a valid sync header, the newest first: at most 64, counted anew from
  a loss of lock (R451). -/
  locked : Bool
  heard : List Bool
  /-- APPLY of TS3 (R472). -/
  apply : Nat
  deriving DecidableEq, Repr

/-- The lines of a bank: HRST_N and the elapsed time of its last change, since when LCLK runs, and the elapsed time until which HALERT_N
is low. -/
structure BankLines where
  high : Bool
  changed : Nat
  lclkAt : Nat
  lowUntil : Nat
  deriving DecidableEq, Repr

/-! ## Housekeeping converter and auxiliary outputs (R663-R686) -/

/-- A housekeeping conversion in progress: input, origin (0 sequence, 1 host, 2 urgent), the settings captured at its start
(R665) and the device time it started. -/
structure HkConv where
  input : Nat
  origin : Nat
  gain : Nat
  order : Nat
  rate : Nat
  log : Bool
  started : Nat
  deriving DecidableEq, Repr

/-- The housekeeping converter beside its fields. -/
structure Hk where
  conv : Option HkConv
  /-- The slot that starts next, and the device time it becomes due (none: no slot is to come). -/
  slot : Nat
  due : Option Nat
  /-- The slot became due during another conversion and waits (R671). -/
  slotWaits : Bool
  /-- A host conversion that waits (R672). -/
  hostWaits : Option Nat
  /-- Activations on their way to the aux island: input, number of deliveries and core cycle of their arrival (R673). -/
  urgent : List (Nat × Nat × Nat)
  /-- Elapsed time at which the last conversion of an input completed (R158). -/
  doneAt : List (Nat × Nat)
  /-- Records of the open HK packet and the elapsed time of the first (R676). -/
  packet : List (List Word)
  packetAt : Nat
  deriving DecidableEq, Repr

/-- An auxiliary output beside its fields. -/
structure Aout where
  /-- The code the output drives (R677). -/
  code : Nat
  /-- Update instants (device time) at which a playback begins, stops act, or a written level is driven. -/
  startAt : Option Nat
  stopAt : List Nat
  levelAt : Option Nat
  /-- Update instants the present sample has been driven, and passes completed. -/
  ticks : Nat
  passes : Nat
  /-- The waveform memory word (four samples) whose read met a double-bit error (R683). -/
  badWord : Option Nat
  /-- The update instant at which the last playback ended (R686). -/
  endedAt : Option Nat
  /-- The update instant at which FAULT_ACT acts for a fall of FAULT_N that the output has not answered yet (R684, R686). -/
  faultAt : Option Nat
  deriving DecidableEq, Repr

/-! ## The whole machine -/

/-- The TH512 with the queue of commands that wait for it. -/
structure State where
  /-- Commands not yet taken, first in, first out. -/
  pending : List Instr
  /-- Device time, ns, of the last device frame boundary (R10). -/
  now : Nat
  /-- Time since power-up, ns; it never steps. -/
  clock : Nat
  /-- The model's own: how many free values have been drawn (DESIGN CHOICE, log entry 1). -/
  free : Nat
  /-- The words of all numbered fields that differ from their reset values. -/
  regs : List (Nat × Word)
  commits : Commits
  host : HostSide
  faults : Faults
  events : Events
  records : Records
  /-- Channels beside their fields, and the capability descriptors last accepted (R476-R478). -/
  chans : List (Nat × Chan)
  descs : List (Nat × List Block)
  /-- Calibration sets by SET_ID; one that is not listed is EMPTY. -/
  calSets : List (Nat × CalSet)
  /-- The point store: payloads of entries by index (R240); an unlisted entry holds 0. -/
  points : List (Nat × BitVec 144)
  sweeps : List (Nat × Sweep)
  /-- Granules being regenerated: point store granule and the sequencer that waits for it (R254). -/
  regen : List (Nat × SeqRef)
  seqs : List (Nat × Seq)
  bseqs : List (Nat × Seq)
  vecMems : List (Nat × VecMem)
  acqs : List (Nat × Acq)
  /-- Patterns whose present run has fired (R395). -/
  patternFired : List Nat
  /-- The state bits of channels at positions 6 and 7 as they stood at the last device frame boundary (R393). -/
  lateBits : List (Nat × Nat)
  /-- TRIG input edges that fired, latest last: pin, core cycle of firing, stamp in 1/128 ns (R376, R381). -/
  stamps : List (Nat × Nat × Nat)
  time : TimeSync
  ptp : Ptp
  arb : Arb
  boot : Boot
  net : Net
  links : List (Nat × Link)
  bankLines : List (Nat × BankLines)
  /-- Alerts told of once their FAULT registers are read (R447). -/
  alerts : List AlertNotice
  hk : Hk
  aouts : List (Nat × Aout)
  /-- Waveform memories: sample x of output k at key k × 65,536 + x (R683); an unlisted sample reads as 0 (DESIGN CHOICE, log entry 8). -/
  waves : List (Nat × BitVec 16)
  deriving DecidableEq, Repr

/-- Why the machine stops. -/
inductive Fault where
  /-- A command carries an operand that no host and no hardware can produce (WellFormed says which). Raised by the
  meanings of events; safe: the real device cannot be given such an event. -/
  | illFormed
  deriving DecidableEq, Repr

/-- Why the model does not answer a command. -/
inductive Refusal where
  /-- The model gives this command no meaning yet. Raised by exec's arms alone; safe. -/
  | notModelled (mnemonic : String)
  deriving DecidableEq, Repr

/-- The device at the moment its firmware starts: every field at its reset value, no session open, every link down
(R660; DESIGN CHOICE, log entry 2 says why this is the model's reset). -/
def State.reset : State where
  pending := []
  now := 0
  clock := 0
  free := 0
  regs := []
  commits := ⟨[], [], [], [], [], 0, 0⟩
  host := ⟨[], 0, [], [], [], none, 0⟩
  faults := ⟨[], [], false, [], [], [], [], [], [], none, some 0, false, false, false, []⟩
  events := ⟨[], [], [], [], [], [], [], [], []⟩
  records := ⟨[], [], [], ⟨[], 0, 0, none, 0, 0, 0, 0, [], 0, 0, [], []⟩, ⟨false, [], none, [], 0, [], [], [], false⟩, []⟩
  chans := []
  descs := []
  calSets := []
  points := []
  sweeps := []
  regen := []
  seqs := []
  bseqs := []
  vecMems := []
  acqs := []
  patternFired := []
  lateBits := []
  stamps := []
  time := ⟨none, none, 0, none, 0, false, false, false, none, none, 0, 0, none, none, 0, 0, none, [], none, none, false⟩
  ptp := ⟨0, 0, 0, none, none, none, none, none, []⟩
  arb := ⟨0, [], [], none, false, [], []⟩
  boot := ⟨.running, none, 0, [], none, false, 0, 0⟩
  net := ⟨0, none, [], [], [], [], false⟩
  links := []
  bankLines := []
  alerts := []
  hk := ⟨none, 0, none, false, none, [], [], [], 0⟩
  aouts := []
  waves := []

end Sys2Proof.Machine
end

