-- ==== Sys2Proof/Machine/Ops.lean ====
section
/-!
DEFINITION. The named operations over the machine's state: keyed lists in canonical form, the word file that holds every
numbered field, and time.
-/

namespace Sys2Proof.Machine

/-! ## Keyed lists: keys strictly rising, one entry per key -/

/-- The entry of key k, if the list has one. -/
def find (m : List (Nat × α)) (k : Nat) : Option α :=
  match m with
  | [] => none
  | (a, v) :: r => if a = k then some v else find r k

/-- Every entry changed by f, its key kept. -/
def mapValues (f : α → α) (m : List (Nat × α)) : List (Nat × α) := m.map fun e => (e.1, f e.2)

/-- The entry of key k, or d where there is none. -/
def findD (m : List (Nat × α)) (d : α) (k : Nat) : α := (find m k).getD d

/-- The list with key k bound to v. -/
def insertKey (m : List (Nat × α)) (k : Nat) (v : α) : List (Nat × α) :=
  match m with
  | [] => [(k, v)]
  | (a, w) :: r => if k < a then (k, v) :: (a, w) :: r else if a = k then (k, v) :: r else (a, w) :: insertKey r k v

/-- The list without key k. -/
def eraseKey (m : List (Nat × α)) (k : Nat) : List (Nat × α) :=
  match m with
  | [] => []
  | (a, v) :: r => if a = k then r else (a, v) :: eraseKey r k

/-- The list with key k bound to v, where d is what an unlisted key reads as: binding a key to d removes its entry. -/
def store [DecidableEq α] (m : List (Nat × α)) (d : α) (k : Nat) (v : α) : List (Nat × α) :=
  if v = d then eraseKey m k else insertKey m k v

/-- Whether the keys of a list rise strictly. -/
def sortedKeys : List (Nat × α) → Bool
  | [] => true
  | [_] => true
  | (a, _) :: (b, w) :: r => decide (a < b) && sortedKeys ((b, w) :: r)

/-! ## Object types and counts -/

/-- The code of an object type (R25). -/
def objCode : Obj → Nat
  | .dev => 0x01 | .port => 0x02
  | .chan => 0x10 | .octet => 0x11 | .bank => 0x12 | .engine => 0x13
  | .loop => 0x20 | .outer => 0x21 | .repet => 0x22 | .notch => 0x23 | .profile => 0x24
  | .seq => 0x30 | .bseq => 0x31 | .sweep => 0x32
  | .acq => 0x40 | .pattern => 0x41 | .trigpin => 0x42
  | .route => 0x50
  | .fifo => 0x60 | .spool => 0x61 | .journal => 0x62
  | .arb => 0x70 | .lock => 0x71
  | .hk => 0x80 | .aout => 0x81
  | .time => 0x90 | .sync => 0x91

/-- The object types in the order of their codes. -/
def allObjs : List Obj :=
  [.dev, .port, .chan, .octet, .bank, .engine, .loop, .outer, .repet, .notch, .profile, .seq, .bseq, .sweep,
   .acq, .pattern, .trigpin, .route, .fifo, .spool, .journal, .arb, .lock, .hk, .aout, .time, .sync]

/-- The object type with a code; none for a code that is not in R25. -/
def objOfCode (c : Nat) : Option Obj := allObjs.find? fun o => objCode o == c

/-- How many objects of a type the device has (R7, R635). -/
def objCount : Obj → Nat
  | .port => 2
  | .chan | .loop | .outer | .repet | .profile | .seq | .acq => 512
  | .octet | .notch => 64
  | .bank | .bseq | .aout => 8
  | .engine => 72
  | .sweep => 8192
  | .pattern | .trigpin => 16
  | .route | .lock => 1024
  | .fifo => 9
  | .dev | .spool | .journal | .arb | .hk | .time | .sync => 1

/-! ## The word file -/

/-- The key of word w of field f of object n. -/
def regKey (o : Obj) (n f w : Nat) : Nat := ((objCode o * 65536 + n) * 65536 + f) * 16 + w

/-- What an unlisted key of the word file reads as: the reset value of its word. -/
def regDefault (k : Nat) : Word :=
  match objOfCode (k / 2 ^ 36) with
  | some o => resetWord o (k / 2 ^ 20 % 65536) (k / 16 % 65536) (k % 16)
  | none => 0

/-- Whether a word file is in canonical form. -/
def regsWf (m : List (Nat × Word)) : Bool := sortedKeys m && m.all fun e => e.2 != regDefault e.1

/-- Word w of field f of object n. -/
def State.regAt (s : State) (o : Obj) (n f w : Nat) : Word := findD s.regs (regDefault (regKey o n f w)) (regKey o n f w)

/-- Word 0 of field f of object n. -/
def State.reg (s : State) (o : Obj) (n f : Nat) : Word := s.regAt o n f 0

/-- Bits [hi:lo] of word 0 of a field. -/
def State.rf (s : State) (o : Obj) (n f hi lo : Nat) : Nat := fld (s.reg o n f) hi lo

/-- Bit i of word 0 of a field. -/
def State.rb (s : State) (o : Obj) (n f i : Nat) : Bool := bitAt (s.reg o n f) i

/-- Words 0 to k - 1 of a field as one number (R11). -/
def State.wide (s : State) (o : Obj) (n f k : Nat) : Nat := ofWords ((upto k).map fun w => s.regAt o n f w)

/-- Write word w of field f of object n. -/
def State.setRegAt (s : State) (o : Obj) (n f w : Nat) (v : Word) : State :=
  { s with regs := store s.regs (regDefault (regKey o n f w)) (regKey o n f w) v }

/-- Write word 0 of a field. -/
def State.setReg (s : State) (o : Obj) (n f : Nat) (v : Word) : State := s.setRegAt o n f 0 v

/-- Write bits [hi:lo] of word 0 of a field. -/
def State.setRf (s : State) (o : Obj) (n f hi lo v : Nat) : State :=
  s.setReg o n f (putFld (s.reg o n f) hi lo v)

/-- Write bit i of word 0 of a field. -/
def State.setRb (s : State) (o : Obj) (n f i : Nat) (b : Bool) : State := s.setRf o n f i i b.toNat

/-- Write the words of a field, the first word first. -/
def State.setWords (s : State) (o : Obj) (n f : Nat) (l : List Word) : State :=
  (l.zipIdx).foldl (fun s p => s.setRegAt o n f p.2 p.1) s

/-- Write a number into a field of k words. -/
def State.setWide (s : State) (o : Obj) (n f k v : Nat) : State := s.setWords o n f (wordsOf k v)

/-- Count one up in a counter field; it stops at 0xFFFF_FFFF. -/
def State.count (s : State) (o : Obj) (n f : Nat) : State := s.setReg o n f (satInc (s.reg o n f))

/-- Count k up in a counter field; it stops at 0xFFFF_FFFF. -/
def State.countBy (s : State) (o : Obj) (n f k : Nat) : State :=
  s.setReg o n f (word (min (2 ^ 32 - 1) ((s.reg o n f).toNat + k)))

/-- Where the word file keeps a field: HK SEQ[16] to SEQ[21], whose numbers the map also gives to read-only fields, stand
apart (DESIGN CHOICE, log entry 9). -/
def storedField (o : Obj) (f : Nat) : Nat := if o = .hk && 0x20 ≤ f && f ≤ 0x25 then 0x8000 + f else f

/-- The objects of a type whose word w of field f differs from its reset value, in rising order. -/
def State.listed (s : State) (o : Obj) (f w : Nat) : List Nat :=
  s.regs.filterMap fun e =>
    if e.1 / 2 ^ 36 = objCode o && e.1 / 16 % 65536 = f && e.1 % 16 = w then some (e.1 / 2 ^ 20 % 65536) else none

/-! ## Numbering (R2, R3) and time -/

/-- The bank of a channel. -/
def bankOf (c : Nat) : Nat := c / 64

/-- The octet of a channel. -/
def octetOf (c : Nat) : Nat := c / 8

/-- The first device frame boundary after now (R28). -/
def State.nextBoundary (s : State) : Nat := nextMultiple 100 s.now

/-- The span of device time: 64 bits, to the frame boundary that would pass it (R10; DESIGN CHOICE, log entry 93). -/
def timeSpan : Nat := 18446744073709551700

/-- Device time at a boundary after the frame phase was stepped by an error: the nearest multiple of 100 ns. -/
def steppedTime (now : Nat) (err : Int) : Int := ((now : Int) * 128 - err + 6400) / 12800 * 100

/-- A quiet device steps its time or its frame phase at the next boundary (R495). -/
def State.steps (s : State) : Bool := s.time.step.isSome || s.time.phaseStep.isSome

/-- The error that step removes, in 1/128 ns. -/
def State.stepError (s : State) : Int := s.time.step.getD 0 + s.time.phaseStep.getD 0

/-- How far device time will jump at the next boundary: to a loaded time, or by a step (R493, R495). -/
def State.timeJump (s : State) : Int :=
  let b : Int := s.nextBoundary
  let v : Int := match s.time.load with
    | some v => v
    | none => b
  (if s.steps then steppedTime v.toNat s.stepError else v) - b

/-- The device time that a coming boundary will have once device time has jumped (R528). -/
def State.shown (s : State) (b : Nat) : Nat := ((b : Int) + s.timeJump).toNat

/-- The core cycle, counted from power-up, in which the present device frame began: 1.5 cycles to the nanosecond. -/
def State.frameCycle (s : State) : Nat := s.clock * 3 / 2

/-- The core cycle in which channel c's frame of the present device frame began: k × 12.5 ns later (R27). -/
def State.chanCycle (s : State) (c : Nat) : Nat := (s.clock * 8 + (c % 8) * 100) * 3 / 16

/-- Device time of a core cycle in units of 1/128 ns, rounded down (R489). -/
def State.fineTime (s : State) (cyc : Nat) : Nat := s.now * 128 + cyc * 256 / 3 - s.clock * 128

/-- Device time of a core cycle in whole ns. -/
def State.timeOfCycle (s : State) (cyc : Nat) : Nat := s.fineTime cyc / 128

/-- Device time at which channel c's frame of the present device frame began, in 1/128 ns. -/
def State.chanFine (s : State) (c : Nat) : Nat := s.now * 128 + (c % 8) * 1600

/-- The same in whole ns. -/
def State.chanTime (s : State) (c : Nat) : Nat := s.chanFine c / 128

/-- The next free value's number, and the state that has drawn it. -/
def State.draw (s : State) : Nat × State := (s.free, { s with free := s.free + 1 })

/-- What happens only while the firmware runs (R654, R565): nothing at any other time. -/
def State.whileRunning (s : State) (f : State → State) : State := if s.boot.phase = .running then f s else s

/-- Run an operation for each item of a list, in order. -/
def State.each (s : State) (l : List α) (f : State → α → State) : State := l.foldl f s

end Sys2Proof.Machine
end

