-- ==== Sys2Proof/Machine/Sha.lean ====
section
/-!
DEFINITION. The SHA-2 hashes the spec names, over lists of bytes: SHA-256 with HMAC-SHA-256 (R588, R589), and SHA-384 (R658).
The two differ in their word width, rotations, constants and first state alone, so one definition serves both. Words are
kept as numbers, so that Lean's kernel evaluates a tag quickly.
-/

namespace Sys2Proof.Machine

/-- What tells one SHA-2 hash from another: the bits of a word, the rotation amounts of its four mixing functions (the last
amount of the two schedule functions is a shift), its round constants, and the words it starts from. -/
structure Sha2 where
  bits : Nat
  mixA : List Nat
  mixE : List Nat
  old : List Nat × Nat
  new : List Nat × Nat
  rounds : List Nat
  start : List Nat
  deriving DecidableEq, Repr

/-- The exclusive or of the rotations of a word to the right by some amounts: of two copies of the word side by side, shifted
by each amount, the lower word. -/
def Sha2.mix (k : Sha2) (amounts : List Nat) (x : Nat) : Nat :=
  let twice := x * (2 ^ k.bits + 1)
  (amounts.foldl (fun r n => Nat.xor r (Nat.shiftRight twice n)) 0) % 2 ^ k.bits

/-- The work on one block: the last four values of each of the two running words, newest first, and the sixteen schedule
words to come. -/
structure ShaWork where
  slow : List Nat
  fast : List Nat
  window : List Nat
  deriving DecidableEq, Repr

/-- One round with its constant; the schedule word it uses leaves the window and the one that follows the window enters. -/
def Sha2.round (k : Sha2) (w : ShaWork) (constant : Nat) : ShaWork :=
  match w with
  | ⟨[a, a', a'', a3], [e, e', e'', e3], m :: m' :: later⟩ =>
    let carried := e3 + k.mix k.mixE e + Nat.xor e'' (Nat.land e (Nat.xor e' e'')) + constant + m
    let fresh := carried + k.mix k.mixA a + Nat.lor (Nat.land a a') (Nat.land a'' (Nat.lor a a'))
    let recent := later.getD 12 0
    let next := m + later.getD 7 0 + Nat.xor (k.mix k.old.1 m') (Nat.shiftRight m' k.old.2) +
      Nat.xor (k.mix k.new.1 recent) (Nat.shiftRight recent k.new.2)
    ⟨[fresh % 2 ^ k.bits, a, a', a''], [(a3 + carried) % 2 ^ k.bits, e, e', e''], m' :: (later ++ [next % 2 ^ k.bits])⟩
  | _ => w

/-- The hash words after one block of sixteen words. -/
def Sha2.absorb (k : Sha2) (h block : List Nat) : List Nat :=
  let w := k.rounds.foldl k.round ⟨h.take 4, h.drop 4, block⟩
  (h.zip (w.slow ++ w.fast)).map fun p => (p.1 + p.2) % 2 ^ k.bits

/-- The hash words after n blocks that stand at the front of a message. -/
def Sha2.absorbAll (k : Sha2) : Nat → List Byte → List Nat → List Nat
  | 0, _, h => h
  | n + 1, m, h =>
    let size := k.bits / 8
    let block := (upto 16).map fun i => ofBytes ((m.drop (i * size)).take size)
    k.absorbAll n (m.drop (16 * size)) (k.absorb h block)

/-- The hash of a message: the message, a closing bit, zeros and its length in bits, in two words, make whole blocks. -/
def Sha2.hash (k : Sha2) (m : List Byte) : List Byte :=
  let size := k.bits / 8
  let blocks := (m.length + 1 + 2 * size + 16 * size - 1) / (16 * size)
  let zeros := blocks * (16 * size) - (m.length + 1 + 2 * size)
  let whole := m ++ 0x80 :: (List.replicate zeros 0 ++ bytesOf (2 * size) (8 * m.length))
  (k.absorbAll blocks whole k.start).flatMap (bytesOf size)

/-- The round constants in 64-bit words, four to a number. A 32-bit hash takes the upper half of each of the first 64. -/
def shaTable : List Nat :=
  [0x428A2F98D728AE227137449123EF65CDB5C0FBCFEC4D3B2FE9B5DBA58189DBBC,
   0x3956C25BF348B53859F111F1B605D019923F82A4AF194F9BAB1C5ED5DA6D8118,
   0xD807AA98A303024212835B0145706FBE243185BE4EE4B28C550C7DC3D5FFB4E2,
   0x72BE5D74F27B896F80DEB1FE3B1696B19BDC06A725C71235C19BF174CF692694,
   0xE49B69C19EF14AD2EFBE4786384F25E30FC19DC68B8CD5B5240CA1CC77AC9C65] ++
  [0x2DE92C6F592B02754A7484AA6EA6E4835CB0A9DCBD41FBD476F988DA831153B5,
   0x983E5152EE66DFABA831C66D2DB43210B00327C898FB213FBF597FC7BEEF0EE4,
   0xC6E00BF33DA88FC2D5A79147930AA72506CA6351E003826F142929670A0E6E70,
   0x27B70A8546D22FFC2E1B21385C26C9264D2C6DFC5AC42AED53380D139D95B3DF,
   0x650A73548BAF63DE766A0ABB3C77B2A881C2C92E47EDAEE692722C851482353B] ++
  [0xA2BFE8A14CF10364A81A664BBC423001C24B8B70D0F89791C76C51A30654BE30,
   0xD192E819D6EF5218D69906245565A910F40E35855771202A106AA07032BBD1B8,
   0x19A4C116B8D2D0C81E376C085141AB532748774CDF8EEB9934B0BCB5E19B48A8,
   0x391C0CB3C5C95A634ED8AA4AE3418ACB5B9CCA4F7763E373682E6FF3D6B2B8A3,
   0x748F82EE5DEFB2FC78A5636F43172F6084C87814A1F0AB728CC702081A6439EC] ++
  [0x90BEFFFA23631E28A4506CEBDE82BDE9BEF9A3F7B2C67915C67178F2E372532B,
   0xCA273ECEEA26619CD186B8C721C0C207EADA7DD6CDE0EB1EF57D4F7FEE6ED178,
   0x06F067AA72176FBA0A637DC5A2C898A6113F9804BEF90DAE1B710B35131C471B,
   0x28DB77F523047D8432CAAB7B40C724933C9EBE0A15C9BEBC431D67C49C100D4C,
   0x4CC5D4BECB3E42B6597F299CFC657E2A5FCB6FAB3AD6FAEC6C44198C4A475817]

/-- The 80 round constants, first to last. -/
def shaConstants : List Nat :=
  shaTable.flatMap fun row => [192, 128, 64, 0].map fun n => (row >>> n) % 2 ^ 64

/-- SHA-256 as R588 uses it. -/
def sha2of256 : Sha2 :=
  { bits := 32, mixA := [2, 13, 22], mixE := [6, 11, 25], old := ([7, 18], 3), new := ([17, 19], 10),
    rounds := (shaConstants.take 64).map (· >>> 32),
    start := [0x6A09E667, 0xBB67AE85, 0x3C6EF372, 0xA54FF53A, 0x510E527F, 0x9B05688C, 0x1F83D9AB, 0x5BE0CD19] }

/-- SHA-384 as R658 uses it: eight 64-bit words, of which a hash keeps six. -/
def sha2of384 : Sha2 :=
  { bits := 64, mixA := [28, 34, 39], mixE := [14, 18, 41], old := ([1, 8], 7), new := ([19, 61], 6),
    rounds := shaConstants,
    start := [0xCBBB9D5DC1059ED8, 0x629A292A367CD507, 0x9159015A3070DD17, 0x152FECD8F70E5939,
      0x67332667FFC00B31, 0x8EB44A8768581511, 0xDB0C2E0D64F98FA7, 0x47B5481DBEFA4FA4] }

/-- SHA-256 of a message: 32 bytes. -/
def sha256 (m : List Byte) : List Byte := sha2of256.hash m

/-- SHA-384 of a message: 48 bytes. -/
def sha384 (m : List Byte) : List Byte := (sha2of384.hash m).take 48

/-- HMAC-SHA-256 of a message under a key of at most 64 bytes (the keys of R588 have 16 or 32): the key, filled up with
zeros, is masked once for an inner hash and once for an outer one. -/
def hmacSha256 (key m : List Byte) : List Byte :=
  let masked (b : Byte) := (upto 64).map fun i => key.getD i 0 ^^^ b
  sha256 (masked 0x5c ++ sha256 (masked 0x36 ++ m))

end Sys2Proof.Machine
end

