-- ==== Sys2Proof/Machine/Ethernet.lean ====
section
/-!
DEFINITION. What leaves on the two Ethernet ports: the four queues, pause, and the RMP envelope with its tag
(R570-R574, R587, R588).
-/

/-! ## Enumeration frames (R576) -/

namespace Sys2Proof

/-- Bytes n to n + k - 1 of an enumeration frame, as a number. -/
def EnumFrame.field (f : EnumFrame) (n k : Nat) : Nat := Machine.ofBytes ((f.bytes.drop n).take k)

/-- PROTO, TYPE, LENGTH, HOPS, POS and STATUS. -/
def EnumFrame.proto (f : EnumFrame) : Nat := f.field 0 1
def EnumFrame.type (f : EnumFrame) : Nat := f.field 1 1
def EnumFrame.length (f : EnumFrame) : Nat := f.field 2 2
def EnumFrame.hops (f : EnumFrame) : Nat := f.field 4 1
def EnumFrame.pos (f : EnumFrame) : Nat := f.field 5 1
def EnumFrame.status (f : EnumFrame) : Nat := f.field 6 2

/-- The LENGTH bytes after the header; what follows them fills the frame. -/
def EnumFrame.payload (f : EnumFrame) : List Byte := (f.bytes.drop 8).take f.length

/-- A frame with another hop count. -/
def EnumFrame.withHops (f : EnumFrame) (n : Nat) : EnumFrame := { f with bytes := f.bytes.set 4 (BitVec.ofNat 8 n) }

/-- Whom a frame is answered to. -/
def EnumFrame.peer (f : EnumFrame) : Machine.Peer := ⟨f.port, f.src, f.vlan⟩

end Sys2Proof

namespace Sys2Proof.Machine

/-- The bytes of an enumeration frame: PROTO, TYPE, LENGTH, HOPS, POS, STATUS and the payload (R576). -/
def enumBytes (type hops pos status : Nat) (payload : List Byte) : List Byte :=
  bytesOf 1 0xD5 ++ bytesOf 1 type ++ bytesOf 2 payload.length ++ bytesOf 1 hops ++ bytesOf 1 pos ++ bytesOf 2 status ++ payload

/-! ## Addresses (R579, R580) -/

/-- ASSIGN has succeeded. -/
def State.assigned (s : State) : Bool := s.net.chainKey.isSome

/-- The device's MAC address (R579, R580). -/
def State.ownMac (s : State) : Nat :=
  if s.assigned then s.wide .dev 0 0x180 2 % 2 ^ 48 else 0x0E0000000000 + s.net.position

/-! ## What leaves -/

/-- Whether an address is an IPv6 address: it needs more than 32 bits. -/
def isV6 (addr : Nat) : Bool := decide (2 ^ 32 ≤ addr)

/-- The number of a port: A is 0, B is 1 (R575). -/
def portNum : Port → Nat
  | .a => 0
  | .b => 1

/-- The other external port. -/
def otherPort : Port → Port
  | .a => .b
  | .b => .a

/-- Whether a port's transmissions are stopped by a received pause frame (R574). -/
def State.paused (s : State) (p : Port) : Bool := s.rb .port (portNum p) 0x20 27

/-- The MAC client data of a frame in transit in bytes; 0 for other frames. -/
def transitBytes : OutMsg → Nat
  | .forward _ _ _ _ n _ _ => n
  | .enum _ _ _ _ bytes => bytes.length
  | .ptp _ transit _ f _ => if transit then f.length else 0
  | _ => 0

/-- The address a frame is sent from: a frame in transit keeps its own (R571, R579, R580). -/
def OutMsg.sender (own : Nat) : OutMsg → Nat
  | .forward _ src _ _ _ _ _ => src
  | .enum _ src _ _ _ => src
  | .ptp _ _ _ f _ => f.src
  | _ => own

/-- Whether a message is a UDP datagram of the device, which is always sent with a checksum (R586). -/
def OutMsg.ownDatagram : OutMsg → Bool
  | .rmp .. => true
  | .ptp _ transit _ f _ => !transit && f.carriage != .ether
  | _ => false

/-- Bytes of frames in transit that wait in a port's transmit queue, forwarded event messages among them (R573). -/
def State.queueBytes (s : State) (p : Port) : Nat :=
  ((s.host.waiting.filter fun e => e.1 == p && (e.2.1 == 4 || e.2.1 == 1)).map fun e => transitBytes e.2.2.msg).sum

/-- Whether a frame's MAC client data exceeds MTU.BYTES (R570). -/
def State.tooLong (s : State) (bytes : Nat) : Bool := decide (s.rf .dev 0 0x183 15 0 < bytes)

/-- Hand a frame to a port: priority 1 PTP event messages, 2 pause frames, 3 replies, notices and acknowledgements,
4 forwarded frames and egress (R573). A paused port sends only pause frames (R574). -/
def State.sendFrame (s : State) (p : Port) (priority : Nat) (m : Sent) : State :=
  if s.paused p && priority != 2 then
    { s with host := { s.host with waiting := s.host.waiting ++ [(p, priority, m)] } }
  else
    let s := s.count .port (portNum p) 0x22
    { s with host := { s.host with tx := s.host.tx ++ [m] } }

/-- A message as the device sends it now. -/
def State.framed (s : State) (m : OutMsg) : Sent := ⟨m.sender s.ownMac, m.ownDatagram, m⟩

/-- Send a message from the device's present address (R579, R580). -/
def State.send (s : State) (p : Port) (priority : Nat) (m : OutMsg) : State := s.sendFrame p priority (s.framed m)

/-- Items of two lists, taken alternately. -/
def interleave : List α → List α → List α
  | [], l => l
  | a :: r, l => a :: (match l with
    | [] => r
    | b :: t => b :: interleave r t)

/-- Forwarded frames and the device's egress leave alternately (R573). -/
def alternating (l : List (Port × Nat × Sent)) : List (Port × Nat × Sent) :=
  let transit := fun (e : Port × Nat × Sent) => match e.2.2.msg with
    | .rmp .. => false
    | _ => true
  interleave (l.filter transit) (l.filter fun e => !transit e)

/-- The waiting frames of a port in the order in which they leave (R573). -/
def State.drainOrder (s : State) (p : Port) : List (Port × Nat × Sent) :=
  let mine := s.host.waiting.filter fun e => e.1 == p
  [1, 2, 3, 4].flatMap fun k => let l := mine.filter fun e => e.2.1 == k; if k = 4 then alternating l else l

/-- A port that resumes sends what waited, in strict priority (R573). -/
def State.drainPort (s : State) (p : Port) : State :=
  let l := s.drainOrder p
  let s := { s with host := { s.host with waiting := s.host.waiting.filter fun e => e.1 != p } }
  s.each l fun s e => s.sendFrame p e.2.1 e.2.2

/-! ## Frames received (R572, R575) -/

/-- The switch learns a source address, at most 1,024 of them (R572). -/
def State.learn (s : State) (p : Port) (mac : Nat) : State :=
  let others := s.net.learned.filter fun e => e.mac != mac
  if others.length < 1024 then { s with net := { s.net with learned := others ++ [⟨mac, p, s.clock⟩] } } else s

/-- Where an address is reached after a frame of mac came in on port p (R562). -/
def Source.heard (p : Port) (mac : Nat) (a : Source) : Source := if a.mac = mac then { a with port := p } else a

/-- A session after a frame of mac came in on port p. -/
def Session.heard (p : Port) (mac : Nat) (x : Session) : Session := { x with src := Source.heard p mac x.src }

/-- A frame from a host address came in on port p: what its sessions are sent, and their egress, leaves there (R562). -/
def State.heardFrom (s : State) (p : Port) (mac : Nat) : State :=
  { s with host := { s.host with
      sessions := mapValues (Session.heard p mac) s.host.sessions
      egress := s.host.egress.map fun e => { e with dst := Source.heard p mac e.dst } } }

/-- A good frame is received on a port, which therefore has block lock (DESIGN CHOICE, log entry 38). -/
def State.frameIn (s : State) (p : Port) (mac : Nat) : State :=
  (((s.setRb .port (portNum p) 0x20 31 true).count .port (portNum p) 0x21).learn p mac).heardFrom p mac

/-- Whether an address is a group address. -/
def groupMac (mac : Nat) : Bool := bitsOf mac 40 40 == 1

/-! ## Forwarding (R560, R571-R574) -/

/-- The switch forwards: from 5 ms after RESET_N rises (R653). -/
def State.switching (s : State) : Bool := s.boot.phase != .reset

/-- Pause frames follow the transmit queue that holds the frames port p received (R574). -/
def State.watchQueue (s : State) (p : Port) : State :=
  let fill := s.queueBytes (otherPort p)
  let k := portNum p
  if s.rb .port k 0 31 && decide (3 * 2 ^ 20 < fill) && !s.net.pausing.contains k then
    ({ s with net := { s.net with pausing := s.net.pausing ++ [k] } }).send p 2 (.pause p 0xFFFF)
  else if s.net.pausing.contains k && decide (fill < 2 ^ 20) then
    ({ s with net := { s.net with pausing := s.net.pausing.filter (· != k) } }).send p 2 (.pause p 0)
  else s

/-- Forwarding between port B and the rest of the chain is blocked (R560, R561). -/
def State.ringBlocked (s : State) : Bool := s.rb .dev 0 0x143 31 && s.rb .dev 0 0x143 30 && !s.net.unblocked

/-- Pass a frame received on port p out of the other port with a priority, unless the ring is blocked there or the queue is full
(R571-R574). -/
def State.passFrame (s : State) (p : Port) (priority : Nat) (m : OutMsg) : State :=
  if s.ringBlocked || !s.switching then s
  else if 4 * 2 ^ 20 < s.queueBytes (otherPort p) + transitBytes m then s.count .port (portNum p) 0x23
  else (s.send (otherPort p) priority m).watchQueue p

/-- A frame reaches the device itself: it is addressed to it, or to a group (R571, R579). -/
def State.reaches (s : State) (dst : Nat) : Bool := dst == s.ownMac || groupMac dst

/-- A good frame of a length is received by the switch: one longer than MTU.BYTES is dropped (R570). -/
def State.takeFrame (s : State) (p : Port) (mac length : Nat) (act : State → State) : State :=
  if !s.switching then s
  else
    let s := s.frameIn p mac
    if s.tooLong length then s.count .port (portNum p) 0x23 else act s

/-! ## RMP messages (R587, R588) -/

/-- A message as it leaves by a port. -/
def OutMsg.outOf (p : Port) : OutMsg → OutMsg
  | .rmp dst udp kind session seq code ctl time body tag => .rmp { dst with port := p } udp kind session seq code ctl time body tag
  | m => m

/-- Bytes of MAC client data of the frame that carries a datagram: the UDP payload, the UDP header and the IP header (R570). -/
def clientBytes (e : Envelope) : Nat := e.udpLength + if isV6 e.src.ip then 48 else 28

/-- The bytes of an RMP message before its tag (R587). -/
def rmpBytes (kind session seq code ctl time : Nat) (body : List Word) : List Byte :=
  bytesOf 2 0x52D0 ++ bytesOf 1 1 ++ bytesOf 1 kind ++ bytesOf 2 session ++ bytesOf 2 (40 + 4 * body.length) ++
  bytesOf 4 seq ++ bytesOf 2 code ++ bytesOf 2 ctl ++ bytesOf 8 time ++ wordBytes body

/-- TAG of a message: the first 16 bytes of HMAC-SHA-256 over the bytes before it (R588). -/
def rmpTag (key : List Byte) (kind session seq code ctl time : Nat) (body : List Word) : Nat :=
  ofBytes ((hmacSha256 key (rmpBytes kind session seq code ctl time body)).take 16)

/-- An RMP message of the device under a key. -/
def rmp (key : List Byte) (dst : Source) (udp kind session seq code ctl time : Nat) (body : List Word) : OutMsg :=
  .rmp dst udp kind session seq code ctl time body (rmpTag key kind session seq code ctl time body)

end Sys2Proof.Machine
end

