-- ==== Sys2Proof/Machine/Router.lean ====
section
/-!
DEFINITION. The event router up to the deliveries it makes: source and consumer identifiers, planes, re-arm, gates and
dividers (R332-R342, R350). What an arrival does is in Machine/Arrivals.lean.
-/

namespace Sys2Proof.Machine

/-- The class of a source or consumer identifier: bits [15:12]. -/
def idClass (i : Nat) : Nat := i / 4096 % 16

/-- The index of a source or consumer identifier: bits [11:0]. -/
def idIndex (i : Nat) : Nat := i % 4096

/-- The source identifier of a class and an index. -/
def mkId (cls idx : Nat) : Nat := cls * 4096 + idx

/-- Whether an identifier names a source (R332). -/
def isSource (i : Nat) : Bool :=
  let x := idIndex i
  match idClass i with
  | 0x1 => x < 16
  | 0x2 => x < 9
  | 0x3 => x < 4096
  | 0x4 => x < 64
  | 0x5 => x % 8 < 7
  | 0x6 => x % 8 < 4
  | 0x7 => x < 16
  | 0x8 => x < 256
  | 0x9 => x < 36 && x % 4 < 3
  | 0xA => x = 0
  | 0xC => x < 16
  | _ => false

/-- Whether a source has a level (R332). -/
def hasLevel (i : Nat) : Bool :=
  let x := idIndex i
  match idClass i with
  | 0x1 => x < 16
  | 0x5 => x % 8 = 0
  | 0x6 => x % 8 = 2
  | 0x7 => x < 16
  | 0x9 => x < 36 && x % 4 = 0
  | 0xC => x < 16 && x % 2 = 0
  | _ => false

/-- Whether an identifier names a consumer input (R333). -/
def isConsumer (i : Nat) : Bool :=
  let x := idIndex i
  match idClass i with
  | 0x1 => x < 16
  | 0x2 => 1 ≤ x && x < 9
  | 0x3 => x < 2048
  | 0x4 => x < 32
  | 0x5 => x < 512
  | 0x6 => x < 512
  | 0x8 => x < 256
  | 0xA => x < 32
  | 0xC => x < 16
  | 0xD => x < 512
  | _ => false

/-- The plane a source belongs to: a bank, or none for the device plane. -/
def sourcePlane (i : Nat) : Option Nat :=
  let x := idIndex i
  match idClass i with
  | 0x3 | 0x5 | 0x6 => some (x / 8 / 64)
  | 0x4 => some (x / 8)
  | _ => none

/-- The plane a consumer belongs to. -/
def consumerPlane (i : Nat) : Option Nat :=
  let x := idIndex i
  match idClass i with
  | 0x3 => some (x / 4 / 64)
  | 0x4 => some (x / 4)
  | 0x5 | 0x6 | 0xD => some (x / 64)
  | _ => none

/-- Core cycles from a source's firing to the delivery at a consumer (R335). -/
def hopCycles (src dst : Nat) : Nat :=
  match sourcePlane src, consumerPlane dst with
  | none, none => 2
  | some a, some b => if a = b then 2 else 4
  | _, _ => 3

/-- An output pin drives a pulse in core cycle cyc (R356). -/
def State.pulsing (s : State) (k cyc : Nat) : Bool :=
  (findD s.events.pulse [] k).any fun p => decide (p.1 ≤ cyc) && decide (cyc < p.2)

/-- What output pin k drives in toggle mode in core cycle cyc: its level, changed by every toggle whose cycle has come (R356). -/
def State.toggled (s : State) (k cyc : Nat) : Bool :=
  findD s.events.trigOut false k !=
    (((findD s.events.toggles [] k).filter fun t => decide (t ≤ cyc)).length % 2 == 1)

/-- The level of a pin in core cycle cyc, after INVERT: what an output drives, by its mode, and what an input was last found to be
(R353, R356). -/
def State.pinLevel (s : State) (k cyc : Nat) : Bool :=
  if !s.rb .trigpin k 0 31 then s.rb .trigpin k 0x20 31
  else if s.rf .trigpin k 0 27 26 = 1 then s.toggled k cyc
  else s.pulsing k cyc

/-- The level in core cycle cyc of a source that has one (R332). -/
def State.level (s : State) (i cyc : Nat) : Bool :=
  let x := idIndex i
  match idClass i with
  | 0x1 => s.pinLevel x cyc
  | 0x5 => s.rb .chan (x / 8) 0x21 12
  | 0x6 => s.rb .acq (x / 8) 0x20 27
  | 0x7 => s.rf .pattern x 0 15 0 ≤ s.rf .pattern x 0x80 15 0 && s.rb .pattern x 0x80 31
  | 0x9 => s.rb .fifo (x / 4) 0x20 31
  | 0xC => s.rb .aout (x / 2) 0x20 31
  | _ => false

/-! ## Routes -/

/-- The enabled routes, in rising order: EN resets to 0, so each has a word of its own. -/
def State.enabledRoutes (s : State) : List Nat :=
  (s.listed .route 0 0).filter fun r => s.rb .route r 0 31

/-- The source of a route. -/
def State.routeSrc (s : State) (r : Nat) : Nat := s.rf .route r 1 15 0

/-- The consumer of a route. -/
def State.routeDst (s : State) (r : Nat) : Nat := s.rf .route r 3 15 0

/-- The gate mode of a route. -/
def State.gateMode (s : State) (r : Nat) : Nat := s.rf .route r 0 30 28

/-- A firing that passed the gate of route r in core cycle cyc goes through the divider (R342). -/
def State.divide (s : State) (r cyc : Nat) : State :=
  let n := s.rf .route r 4 15 0
  let count := s.rf .route r 0x20 15 0 + 1
  if n ≤ count then
    let dst := s.routeDst r
    let s := (s.setRf .route r 0x20 15 0 0).count .route r 0x21
    { s with events := { s.events with
        deliveries := s.events.deliveries ++ [⟨dst, cyc + hopCycles (s.routeSrc r) dst, r⟩] } }
  else s.setRf .route r 0x20 15 0 count

/-- Whether the gate of route r passes a firing in core cycle cyc (R341). -/
def State.gatePasses (s : State) (r cyc : Nat) : Bool :=
  let g := s.rf .route r 2 31 16
  match s.gateMode r with
  | 0 => true
  | 1 => s.level g cyc
  | 2 => !s.level g cyc
  | _ => match find s.events.lastFire g with
    | some t => t ≤ cyc && cyc ≤ t + s.rf .route r 2 15 0
    | none => false

/-- One route meets a firing of its source that was not ignored. A route stopped by a window gate remembers the cycle, so
that a gate source firing later in the same cycle still opens it (R341, R359). -/
def State.passRoute (s : State) (cyc r : Nat) : State :=
  if s.gatePasses r cyc then s.divide r cyc
  else
    let t := s.count .route r 0x22
    if s.gateMode r = 3 then
      { t with events := { t.events with blockedAt := insertKey t.events.blockedAt r (cyc, (s.reg .route r 0x22).toNat) } }
    else t

/-- A gate source that fires in the cycle in which route r was stopped by its window opens that route after all. -/
def State.reopenRoute (s : State) (cyc r : Nat) : State :=
  match find s.events.blockedAt r with
  | some (t, before) =>
    if t = cyc then
      let s := { s with events := { s.events with blockedAt := eraseKey s.events.blockedAt r } }
      (s.setReg .route r 0x22 (word before)).divide r cyc
    else s
  | none => s

/-- Whether a firing of source i in core cycle cyc falls within its re-arm interval (R340); REARM is one value per source
(R339). -/
def State.rearming (s : State) (i cyc : Nat) : Bool :=
  match (s.enabledRoutes.filter fun r => s.routeSrc r == i).head?, find s.events.lastFire i with
  | some r, some t => cyc < t + s.rf .route r 0 15 0
  | _, _ => false

/-- Source i fires in core cycle cyc (R340-R342). -/
def State.fire (s : State) (i cyc : Nat) : State :=
  let mine := s.enabledRoutes.filter fun r => s.routeSrc r == i
  if s.rearming i cyc then s.each mine fun s r => s.count .route r 0x23
  else
    let s := { s with events := { s.events with lastFire := insertKey s.events.lastFire i cyc } }
    let s := s.each mine fun s r => s.passRoute cyc r
    s.each (s.enabledRoutes.filter fun r => s.gateMode r == 3 && s.rf .route r 2 31 16 == i)
      fun s r => s.reopenRoute cyc r

/-- The busy time of a consumer ends in core cycle cyc: it is free from the next (R344). -/
def State.busyEnds (s : State) (i cyc : Nat) : State :=
  { s with events := { s.events with busyEnd := insertKey s.events.busyEnd i cyc } }

/-- Core cycle cyc lies within a busy time of a consumer whose end is known: its last busy cycle at the latest (R344). -/
def State.lastBusy (s : State) (i cyc : Nat) : Bool :=
  match find s.events.busyEnd i with
  | some t => decide (cyc ≤ t)
  | none => false

/-! ## What ROUTE.SINK_READ shows -/

/-- A consumer nothing has reached. -/
def Sink.fresh : Sink := ⟨false, false, 0, 0, 0, false⟩

/-- The consumer's record. -/
def State.sink (s : State) (i : Nat) : Sink := findD s.events.sinks Sink.fresh i

/-- Replace a consumer's record. -/
def State.setSink (s : State) (i : Nat) (k : Sink) : State :=
  { s with events := { s.events with sinks := store s.events.sinks Sink.fresh i k } }

end Sys2Proof.Machine
end

