-- ==== Sys2Proof/Machine/Rings.lean ====
section
/-!
DEFINITION. Record packets and the rings of the FIFOs, with their watermarks (R398-R402, R409, R410, R415).
-/

namespace Sys2Proof.Machine

/-- An eight-word packet header (R399) with its payload; PSEQ and CHECK are filled in later. -/
def mkPacket (ptype : Nat) (first last provisional : Bool) (fifo obj inst recno offset time : Nat)
    (payload : List Word) : List Word :=
  let len := 8 + payload.length
  [word (len * 2 ^ 20 + ptype * 2 ^ 16 + first.toNat * 2 ^ 15 + last.toNat * 2 ^ 14 + provisional.toNat * 2 ^ 13 +
     fifo * 2 ^ 8),
   word (obj * 2 ^ 24 + inst), 0, word recno, word offset] ++ wordsOf 2 time ++ [0] ++ payload

/-- LENGTH of a packet. -/
def pktLength (p : List Word) : Nat := fld (wget p 0) 31 20

/-- PTYPE of a packet. -/
def pktType (p : List Word) : Nat := fld (wget p 0) 19 16

/-- PSEQ of a packet. -/
def pktSeq (p : List Word) : Nat := (wget p 2).toNat

/-- FIFO words a packet occupies: a packet of odd LENGTH fills up its last 64-bit word (R401). -/
def pktRoom (p : List Word) : Nat := (p.length + 1) / 2 * 2

/-- The payload of a gap marker (R409). -/
def gapPayload (cause : Nat) (spoolFull : Bool) (begins ends count recno pseq : Nat) : List Word :=
  [word (cause * 2 ^ 28 + spoolFull.toNat * 2 ^ 27)] ++ wordsOf 2 begins ++ wordsOf 2 ends ++
    [word count, word recno, word pseq]

/-- A ring nothing has been written into. -/
def Ring.fresh : Ring := ⟨[], false⟩

/-- The ring of FIFO f. -/
def State.ring (s : State) (f : Nat) : Ring := findD s.records.rings Ring.fresh f

/-- Replace the ring of FIFO f. -/
def State.setRing (s : State) (f : Nat) (r : Ring) : State :=
  { s with records := { s.records with rings := store s.records.rings Ring.fresh f r } }

/-- Words a ring can hold (R398). -/
def ringSize (f : Nat) : Nat := if f = 8 then 262144 else 229376

/-- Words a ring's packets occupy. -/
def ringFill (r : Ring) : Nat := (r.packets.map pktRoom).sum

/-- FILL and PEAK follow the ring, and the ABOVE state follows FILL (R415, R418): its sources fire in core cycle cyc. -/
def State.watchFill (s : State) (f cyc : Nat) : State :=
  let fill := ringFill (s.ring f)
  let s := s.setReg .fifo f 0x21 (word fill)
  let s := if (s.reg .fifo f 0x22).toNat < fill then s.setReg .fifo f 0x22 (word fill) else s
  let above := s.rb .fifo f 0x20 31
  if !above && s.rf .fifo f 1 31 16 * 256 ≤ fill then
    (s.setRb .fifo f 0x20 31 true).fire (mkId 9 (4 * f)) cyc
  else if above && fill ≤ s.rf .fifo f 1 15 0 * 256 then
    ((s.setRb .fifo f 0x20 31 false).setRing f { s.ring f with dropNoticed := false }).fire (mkId 9 (4 * f + 1)) cyc
  else s

/-- Whether the ring of FIFO f has room for a packet. -/
def State.ringFits (s : State) (f : Nat) (p : List Word) : Bool :=
  decide (ringFill (s.ring f) + pktRoom p ≤ ringSize f)

/-- Copy a closed packet into the ring of FIFO f, giving it the next PSEQ (R402, R406); a gap marker fires source
4f + 2 (R410). -/
def State.pushRing (s : State) (f : Nat) (p : List Word) (cyc : Nat) : State :=
  let pseq := s.reg .fifo f 0x27
  let r := s.ring f
  let s := (s.setRing f { r with packets := r.packets ++ [p.set 2 pseq] }).setReg .fifo f 0x27 (pseq + 1)
  let s := if pktType p = 3 then (s.count .fifo f 0x24).fire (mkId 9 (4 * f + 2)) cyc else s
  s.watchFill f cyc

end Sys2Proof.Machine
end

