-- ==== Sys2Proof/Machine/Notices.lean ====
section
/-!
DEFINITION. Sessions as the rest of the device sees them, notices (R609-R612), fault counting and the fault log (R529,
R567).
-/

namespace Sys2Proof.Machine

/-- Whether a master is frozen (R550). -/
def State.isFrozen (s : State) (master : Nat) : Bool := (find s.faults.frozen master).isSome

/-- The master identifier of a session (R24). -/
def sessionMaster (n : Nat) : Nat := 0x1000 + n

/-- The open session of a number. -/
def State.session (s : State) (n : Nat) : Option Session := find s.host.sessions n

/-- Replace an open session. -/
def State.setSession (s : State) (n : Nat) (x : Session) : State :=
  { s with host := { s.host with sessions := insertKey s.host.sessions n x } }

/-- The class of a notice (R612): the code's high byte less one. -/
def noticeClass (code : Nat) : Nat := code / 256 - 1

/-- The tokens a bucket holds after time has passed: rate tokens per second up to cap, in 10^-9 token. -/
def refill (level since now rate cap : Nat) : Nat := min (cap * 10 ^ 9) (level + rate * (now - since))

/-- Send a notice or a lantern to one session, within 4,000 a second and bursts of 256 (R610). -/
def State.noticeTo (s : State) (n : Nat) (x : Session) (seq code time : Nat) (body : List Word) : State :=
  let level := refill x.noticeBucket x.noticeAt s.clock 4000 256
  if level < 10 ^ 9 then
    s.setSession n { x with noticeBucket := level, noticeAt := s.clock, noticeLost := true }
  else
    let s := s.setSession n
      { x with noticeBucket := level - 10 ^ 9, noticeAt := s.clock, noticeLost := false }
    s.send x.src.port 3
      (rmp x.key x.src x.noticePort 3 n seq code (if x.noticeLost then 0x8000 else 0) time body)

/-- Every open, unfrozen session whose mask takes the class (R609). -/
def State.noticeAll (s : State) (seq code time : Nat) (body : List Word) : State :=
  s.each s.host.sessions fun s e =>
    match s.session e.1 with
    | some x =>
      if !s.isFrozen (sessionMaster e.1) && bitsOf x.noticeMask (noticeClass code) (noticeClass code) == 1 then
        s.noticeTo e.1 x seq code time body
      else s
    | none => s

/-- The body of a notice (R609). -/
def noticeBody (code obj inst : Nat) (params : List Nat) : List Word :=
  [word (obj * 2 ^ 24 + params.length * 2 ^ 16 + noticeClass code * 2 ^ 8), word (inst * 2 ^ 16)] ++ params.map word

/-- The payload of a notice in FIFO 8 and in DEV.NOTICE_READ (R611). -/
def noticePayload (n : Notice) : List Word :=
  [word (n.code * 2 ^ 16), word n.nseq] ++ wordsOf 2 n.time ++ n.body

/-- Copy a notice into FIFO 8 while SPOOL.CFG.FIFO_EN drains it (R611); the packet names the object the notice names. A
copy that finds the ring full is lost and its words are counted (DESIGN CHOICE, log entry 14). -/
def State.noticeToFifo (s : State) (n : Notice) (obj inst : Nat) : State :=
  if s.rb .spool 0 0 24 then
    let p := mkPacket 4 false false false 8 obj inst 0 0 s.now (noticePayload n)
    if s.ringFits 8 p then s.pushRing 8 p s.frameCycle else s.countBy .fifo 8 0x23 (noticePayload n).length
  else s

/-- Send a notice: NSEQ, the ring of the latest 1,024, every session that takes its class, and FIFO 8 (R609-R611). -/
def State.notifyAt (s : State) (time code : Nat) (o : Obj) (inst : Nat) (params : List Nat) : State :=
  let nseq := (s.host.nseq + 1) % 2 ^ 32
  let n : Notice := ⟨nseq, code, time, noticeBody code (objCode o) inst params⟩
  let ring := s.host.ring ++ [n]
  let s := { s with host := { s.host with nseq := nseq, ring := ring.drop (ring.length - 1024) } }
  (s.noticeAll nseq code time n.body).noticeToFifo n (objCode o) inst

/-- Send a notice of a happening in the present device frame. -/
def State.notify (s : State) (code : Nat) (o : Obj) (inst : Nat) (params : List Nat) : State :=
  s.notifyAt s.now code o inst params

/-! ## The fault log and FAULT_STATUS -/

/-- Enter a fault into the log of the latest 256 (R567). -/
def State.logFault (s : State) (cause : Nat) (lasting : Bool) (obj inst count : Nat) : State :=
  let l := s.faults.log ++ [⟨cause, lasting, obj, inst, count, s.now⟩]
  if 256 < l.length then
    { s with faults := { s.faults with log := l.drop 1, logLost := true } }
  else { s with faults := { s.faults with log := l } }

/-- The monitored sources of R529: the fault counters k = 0 to 8, and link errors as 16. -/
inductive FaultSource where
  | engineSelfchk | engineLate | stateEcc | sramSec | sramDed | crossingDed | dramCheck | arbGrant | fwWdog | link
  deriving DecidableEq, Repr

/-- The number k of a source. -/
def FaultSource.k : FaultSource → Nat
  | .engineSelfchk => 0 | .engineLate => 1 | .stateEcc => 2 | .sramSec => 3 | .sramDed => 4 | .crossingDed => 5
  | .dramCheck => 6 | .arbGrant => 7 | .fwWdog => 8 | .link => 16

/-- The cause code of a source's errors (R568). -/
def FaultSource.cause : FaultSource → Nat
  | .engineSelfchk => 0x0201 | .engineLate => 0x0202 | .stateEcc => 0x0301 | .sramSec => 0x0302 | .sramDed => 0x0303
  | .crossingDed => 0x0304 | .dramCheck => 0x0305 | .arbGrant => 0x0308 | .fwWdog => 0x0601 | .link => 0x0102

/-- What a source's object numbers name, for the fault log and N_FAULT: an object type, or none for a master or a region,
which are named under DEV (DESIGN CHOICE, log entry 15). -/
def FaultSource.obj : FaultSource → Option Obj
  | .engineSelfchk | .engineLate => some .engine
  | .stateEcc | .link => some .chan
  | .arbGrant => none
  | _ => some .dev

/-- The object type code a fault entry carries: 0 for a master (R567). -/
def objCodeOpt : Option Obj → Nat
  | some o => objCode o
  | none => 0

/-- THRESH and WINDOW (ms) of a source (R529, R486). -/
def State.faultLimits (s : State) (f : FaultSource) (n : Nat) : Nat × Nat :=
  match f with
  | .link => (s.rf .chan n 0x51 31 16, s.rf .chan n 0x51 15 0)
  | _ => (s.rf .dev 0 (0x100 + f.k) 31 16, s.rf .dev 0 (0x100 + f.k) 15 0)

/-- Count an error that has its transient action only (R529, R547). -/
def State.countTransient (s : State) (f : FaultSource) (n : Nat) : State :=
  (s.count .dev 0 (0x120 + f.k)).logFault f.cause false (objCodeOpt f.obj) n 1

/-- Count one error of a source (R529): it is logged and counted, and the answer says whether it was lasting, in which case
N_FAULT was sent and the count restarts. -/
def State.countFault (s : State) (f : FaultSource) (n : Nat) : Bool × State :=
  let (thresh, window) := s.faultLimits f n
  let key := f.k * 65536 + n
  let times := (findD s.faults.errors [] key).filter (fun t => s.clock < t + window * 10 ^ 6) ++ [s.clock]
  let lasting := decide (thresh ≤ times.length)
  let s := if f = .link then s else s.count .dev 0 (0x120 + f.k)
  let s := { s with faults := { s.faults with
    errors := store s.faults.errors [] key (if lasting then [] else times) } }
  let s := s.logFault f.cause lasting (objCodeOpt f.obj) n times.length
  (lasting, if lasting then s.notify 0x0501 (f.obj.getD .dev) n [f.cause, times.length] else s)

/-- Enter a fault that is lasting at once and send N_FAULT (R485, R568). -/
def State.faultNow (s : State) (cause : Nat) (o : Obj) (n : Nat) : State :=
  (s.logFault cause true (objCode o) n 1).notify 0x0501 o n [cause, 1]

end Sys2Proof.Machine
end

