-- ==== Sys2Proof/Machine/AuxAnalog.lean ====
section
/-!
DEFINITION. The aux analog island: housekeeping conversions and auxiliary outputs (R663-R686), and FAULT_N, whose fall the
outputs answer (R566, R684).
-/

namespace Sys2Proof.Machine

/-! ## Auxiliary outputs -/

/-- An output at reset: it drives 0 and waits for nothing (R684). -/
def Aout.fresh : Aout := ⟨0, none, [], none, 0, 0, none, none, none⟩

/-- Output k beside its fields. -/
def State.aout (s : State) (k : Nat) : Aout := findD s.aouts Aout.fresh k

/-- Replace output k's part beside its fields. -/
def State.setAout (s : State) (k : Nat) (a : Aout) : State := { s with aouts := store s.aouts Aout.fresh k a }

/-- Whether a playback of output k runs. -/
def State.aoutPlaying (s : State) (k : Nat) : Bool := s.rb .aout k 0x20 31

/-- MODE of output k: 0 static, 1 one-shot, 2 loop (R678). -/
def State.aoutMode (s : State) (k : Nat) : Nat := s.rf .aout k 0 30 29

/-- The first update instant (a multiple of 1 µs) at least 200 ns after device time t (R679-R681). -/
def updateInstant (t : Nat) : Nat := (t + 200 + 999) / 1000 * 1000

/-- Sample x of waveform memory k. -/
def State.wave (s : State) (k x : Nat) : Nat := (findD s.waves 0 (k * 65536 + x)).toNat

/-- Write sample x of waveform memory k. -/
def State.setWave (s : State) (k x : Nat) (v : BitVec 16) : State :=
  { s with waves := store s.waves 0 (k * 65536 + x) v }

/-- Request playback of output k from device time t on (R680). -/
def State.requestStart (s : State) (k t : Nat) : State :=
  s.setAout k { s.aout k with startAt := some (updateInstant t) }

/-- Request the end of playback of output k from device time t on (R681). -/
def State.requestStop (s : State) (k t : Nat) : State :=
  s.setAout k { s.aout k with stopAt := (s.aout k).stopAt ++ [updateInstant t] }

/-- A start activation reaches output k (R680): a playing output, or one whose playback is already to begin, is busy. -/
def State.aoutStartBusy (s : State) (k : Nat) : Bool := s.aoutPlaying k || (s.aout k).startAt.isSome

/-- AOUT.RUN takes effect for output k at boundary t: nothing in static mode; FAULT_HELD clears (R680, R685). -/
def State.aoutRun (s : State) (k t : Nat) : State :=
  if s.aoutMode k = 0 then s else (s.setRb .aout k 0x20 30 false).requestStart k t

/-- SRAM regions of the aux island's waveform memories are numbered from 64 on (DESIGN CHOICE, log entry 15). -/
def waveRegion (k : Nat) : Nat := 64 + k

/-- The counting of an SRAM error (R529): the lasting action sets FAULT_STATUS.MEMORY; raise is what sets a bit. -/
def State.countSram (s : State) (raise : State → State) (f : FaultSource) (region : Nat) : State :=
  let (lasting, s) := s.countFault f region
  if lasting then raise s else s

/-- Playback of output k ends at update instant t: it keeps its sample, LEVEL.CODE takes it, and source 2k + 1 fires (R681, R682). -/
def State.endPlayback (s : State) (k t cyc : Nat) : State :=
  let a := s.aout k
  let s := (s.setRb .aout k 0x20 31 false).setReg .aout k 4 (word a.code)
  let s := s.setAout k { a with
    stopAt := a.stopAt.filter (fun stop => decide (t < stop)), levelAt := none, ticks := 0, passes := 0, badWord := none,
    endedAt := some t }
  (s.busyEnds (mkId 0xC (2 * k)) cyc).fire (mkId 0xC (2 * k + 1)) cyc

/-- A fall of FAULT_N reaches output k (R684): where FAULT_ACT is hold or safe, it acts at the next update instant, since the
output changes only there (R677, R686). -/
def State.aoutFaultAct (s : State) (k : Nat) : State :=
  if s.rf .aout k 0 28 27 = 0 then s
  else s.setAout k { s.aout k with faultAt := some ((s.now + 999) / 1000 * 1000) }

/-- FAULT_ACT of output k acts (R684): hold stops at the present sample, safe drives SAFE.CODE. -/
def State.faultActs (s : State) (k cyc : Nat) : State :=
  let act := s.rf .aout k 0 28 27
  let s := s.setAout k { s.aout k with faultAt := none }
  if act = 0 then s
  else
    let playing := s.aoutPlaying k
    let s := (s.setRb .aout k 0x20 31 false).setRb .aout k 0x20 30 true
    let a := s.aout k
    let s := s.setAout k
      { a with code := if act = 2 then s.rf .aout k 3 15 0 else a.code,
               levelAt := none, ticks := 0, passes := 0, badWord := none }
    if playing then (s.busyEnds (mkId 0xC (2 * k)) cyc).fire (mkId 0xC (2 * k + 1)) cyc else s

/-- Whether a fall of FAULT_N acts on output k at update instant t or before it. -/
def State.faultDue (s : State) (k t : Nat) : Bool :=
  match (s.aout k).faultAt with
  | some due => decide (due ≤ t)
  | none => false

/-! ## FAULT_N -/

/-- Whether FAULT_N is to be low while the firmware runs (R566). -/
def State.faultNLow (s : State) : Bool :=
  bitsOf (s.reg .dev 0 0x140).toNat 31 21 &&& bitsOf (s.reg .dev 0 0x141).toNat 31 21 != 0 || s.faults.restart.isSome

/-- FAULT_N follows what decides it; at a fall every output acts by FAULT_ACT, once (R566, R684, R685). -/
def State.updateFaultN (s : State) : State :=
  let low := s.faultNLow
  let fell := low && !s.faults.faultN
  let s := { s with faults := { s.faults with faultN := low } }
  if fell then s.each (upto 8) State.aoutFaultAct else s

/-- Set bit i of FAULT_STATUS (R530). -/
def State.raiseFault (s : State) (i : Nat) : State := (s.setRb .dev 0 0x140 i true).updateFaultN

/-- Count an SRAM error of a region; a lasting one sets FAULT_STATUS.MEMORY (R529). -/
def State.sramError (s : State) (f : FaultSource) (region : Nat) : State :=
  s.countSram (fun s => s.raiseFault 30) f region

/-! ## Playback -/

/-! ## The pins (R650, R677, R684) -/

/-- The reference in use: 2.5 V, or VREF_EXT with CFG.REF = 1. -/
def State.vref (s : State) : Word := if s.rb .hk 0 0 31 then s.reg .hk 0 1 else 0x40200000

/-- What AOUT[k] drives, in V: VREF × GAIN × code / 65,536. -/
def State.aoutVolts (s : State) (k : Nat) : Num :=
  (val s.vref).mul (numOf ((if s.rb .aout k 0 31 then 2 else 1) * (s.aout k).code) (-16))

/-- VREF_OUT is driven from the internal reference; else it is of high impedance. -/
def State.vrefOut (s : State) : Bool := s.boot.phase == .running && s.rb .hk 0 0 30

/-- The sample output k is to drive at index x, given how the read of its word went (R683). -/
def State.driveSample (s : State) (k x : Nat) (r : MemRead) : State :=
  let s := s.setRf .aout k 0x20 15 0 x
  let a := s.aout k
  let w := x / 4
  match r with
  | .ok | .crossed =>
    if a.badWord = some w then s else s.setAout k { a with code := s.wave k x, badWord := none }
  | .corrected => (s.setAout k { a with code := s.wave k x, badWord := none }).sramError .sramSec (waveRegion k)
  | .double =>
    let s := (s.setAout k { a with badWord := some w }).count .aout k 0x22
    s.sramError .sramDed (waveRegion k)

/-- AOUT_PLAYBACK_START of output k at update instant t: the first sample is driven and source 2k fires (R680, R682);
a stop that acts at this instant or before it finds nothing playing, and a fall of FAULT_N acts after the start (R686). -/
def State.playbackStart (s : State) (k t cyc : Nat) (r : MemRead) : State :=
  let a := s.aout k
  match a.startAt with
  | none => s
  | some due =>
    if t % 1000 ≠ 0 || t < due || s.aoutPlaying k then s
    else if s.aoutMode k = 0 then s.setAout k { a with startAt := none }
    else
      let s := (s.setRb .aout k 0x20 31 true).setReg .aout k 0x21 0
      let s := s.setAout k { a with startAt := none, stopAt := a.stopAt.filter (fun stop => decide (t < stop)),
                                    levelAt := none, ticks := 0, passes := 0, badWord := none }
      let s := s.driveSample k (s.rf .aout k 1 31 16) r
      let s := s.fire (mkId 0xC (2 * k)) cyc
      if s.faultDue k t then s.faultActs k cyc else s

/-- Whether the sample output k drives is the last of its pass, and has been driven for DIV instants less one. -/
def State.passEnds (s : State) (k : Nat) : Bool :=
  s.rf .aout k 0x20 15 0 == s.rf .aout k 1 31 16 + s.rf .aout k 1 15 0 && (s.aout k).ticks == s.rf .aout k 0 15 0

/-- Whether the pass output k plays is its last (R680). -/
def State.lastPass (s : State) (k : Nat) : Bool :=
  let count := s.rf .aout k 2 31 16
  s.aoutMode k == 1 || (count != 0 && (s.aout k).passes + 1 == count)

/-- AOUT_PLAYBACK_END of output k at update instant t: its last pass has ended, or a stop acts (R681). -/
def State.playbackEnd (s : State) (k t cyc : Nat) : State :=
  let a := s.aout k
  let stopped := a.stopAt.any fun due => decide (due ≤ t)
  if !s.aoutPlaying k || t % 1000 ≠ 0 then s
  else if s.passEnds k && s.lastPass k then (s.count .aout k 0x21).endPlayback k t cyc
  else if stopped then s.endPlayback k t cyc
  else s

/-- AOUT_UPDATE_INSTANT of output k at device time t: a playing output counts an instant or advances to its next sample
or pass; an idle one drives a level that has become due (R677, R679, R680). A fall of FAULT_N acts first, at the sample the
output then drives (R684). -/
def State.aoutInstant (s : State) (k t : Nat) (x : WaveRead) : State :=
  let r := x.read
  let a := s.aout k
  if t % 1000 ≠ 0 then s
  else if s.faultDue k t then s.faultActs k x.cyc
  else if s.aoutPlaying k then
    if a.ticks < s.rf .aout k 0 15 0 then s.setAout k { a with ticks := a.ticks + 1 }
    else if s.passEnds k then
      if s.lastPass k then s
      else
        let s := (s.setAout k { a with ticks := 0, passes := a.passes + 1 }).count .aout k 0x21
        s.driveSample k (s.rf .aout k 1 31 16) r
    else (s.setAout k { a with ticks := 0 }).driveSample k (s.rf .aout k 0x20 15 0 + 1) r
  else
    match a.levelAt with
    | some due =>
      if due ≤ t then s.setAout k { a with code := s.rf .aout k 4 15 0, levelAt := none } else s
    | none => s

/-- A LEVEL write of output k takes effect at boundary t: FAULT_HELD clears; an idle output drives it at its update instant,
a playing one keeps playing; one whose playback ends at this instant keeps its last sample, and the write is overwritten (R679, R685,
R686). -/
def State.aoutLevelApplied (s : State) (k t : Nat) : State :=
  let s := s.setRb .aout k 0x20 30 false
  if s.aoutPlaying k then s
  else if (s.aout k).endedAt = some t then s.setReg .aout k 4 (word (s.aout k).code)
  else s.setAout k { s.aout k with levelAt := some (updateInstant t) }

/-! ## Housekeeping conversions -/

/-- Whether n names an input: an odd input of a differential pair does not (R663). -/
def State.hkInput (s : State) (n : Nat) : Bool :=
  decide (n < 32) && !(n % 2 == 1 && s.rb .hk 0 (0x60 + n - 1) 31)

/-- Output rate of a RATE code in tenths of a sample per second (R666). -/
def hkRate (code : Nat) : Nat :=
  [25, 50, 100, 250, 500, 600, 1000, 5000, 10000, 50000, 156250, 312500].getD code 312500

/-- T_c of a conversion in ns: ORDER / RATE + 4 µs (R665). -/
def hkTime (c : HkConv) : Nat := c.order * 10 ^ 10 / hkRate c.rate + 4000

/-- Start a conversion of input n at device time t (R665). -/
def State.hkStart (s : State) (n origin t : Nat) : State :=
  let w := s.reg .hk 0 (0x60 + n)
  let c : HkConv := ⟨n, origin, 2 ^ fld w 30 28, fld w 27 25, fld w 24 21, bitAt w 20, t⟩
  let s := { s with hk := { s.hk with conv := some c } }
  ((s.setRb .hk 0 0x20 30 true).setRf .hk 0 0x20 29 25 n).setRf .hk 0 0x20 24 23 origin

/-- INPUT of sequence slot i (R668). -/
def State.hkSlotInput (s : State) (i : Nat) : Nat := s.rf .hk 0 (storedField .hk (0x10 + i)) 31 27

/-- Start a waiting host conversion, or a waiting slot, at device time t: the host conversion goes first (R671, R672). -/
def State.hkNext (s : State) (t : Nat) : State :=
  match s.hk.hostWaits with
  | some n =>
    (({ s with hk := { s.hk with hostWaits := none } }).setRb .hk 0 0x20 22 false).hkStart n 1 t
  | none =>
    if s.hk.slotWaits then
      ({ s with hk := { s.hk with slotWaits := false, due := none } }).hkStart (s.hkSlotInput s.hk.slot) 0 t
    else s

/-- VALUE of a conversion: SCALE × (x / 2^23) × VREF / GAIN + OFFSET, each operation in binary32 (R664). -/
def State.hkValue (s : State) (c : HkConv) (x : Sample) : Word :=
  let p := toF32 ((val (s.reg .hk 0 (0x80 + c.input))).mul (codeNum x))
  let p := toF32 ((val p).mul (val s.vref))
  let p := fdiv p (ofInt c.gain)
  toF32 ((val p).add (val (s.reg .hk 0 (0xA0 + c.input))))

/-- The open HK packet closes into FIFO 8 (R676); one that finds the ring full is lost and counted (DESIGN CHOICE, log entry 14). -/
def State.hkClosePacket (s : State) (cyc : Nat) : State :=
  if s.hk.packet.isEmpty then s
  else
    let words := s.hk.packet.flatten
    let p := mkPacket 5 true true false 8 0x80 0 0 0 s.now words
    let s := { s with hk := { s.hk with packet := [] } }
    if s.ringFits 8 p then s.pushRing 8 p cyc else s.countBy .fifo 8 0x23 words.length

/-- Write one HK record into the open packet (R676). -/
def State.hkRecord (s : State) (c : HkConv) (ovr : Bool) (stamp : Nat) (v : Word) (x : Sample) (cyc : Nat) : State :=
  let r := [word (3 * 2 ^ 28 + c.input * 2 ^ 23 + ovr.toNat * 2 ^ 22 + c.origin * 2 ^ 20)] ++ wordsOf 2 stamp ++
    [v, word x.toNat]
  let since := if s.hk.packet.isEmpty then s.clock else s.hk.packetAt
  let s := { s with hk := { s.hk with packet := s.hk.packet ++ [r], packetAt := since } }
  if 16 ≤ s.hk.packet.length then s.hkClosePacket cyc else s

/-- HK_PACKET_TIMEOUT: 1 ms has passed since the first record of the open packet (R676). -/
def State.hkPacketTimeout (s : State) (cyc : Nat) : State :=
  if s.hk.packetAt + 10 ^ 6 ≤ s.clock then s.hkClosePacket cyc else s

/-- A sequence conversion has completed at device time t: the next slot becomes due GAP µs later, or the sequence ends
(R670). -/
def State.hkAdvance (s : State) (t : Nat) : State :=
  let last := decide (s.rf .hk 0 2 31 26 ≤ s.hk.slot)
  if last && !s.rb .hk 0 2 25 then
    ({ s with hk := { s.hk with due := none } }).setRb .hk 0 0x20 31 false
  else
    { s with hk := { s.hk with slot := if last then 0 else s.hk.slot + 1, due := some (t + s.rf .hk 0 2 15 0 * 1000) } }

/-- The fields a completed conversion updates (R675): VALUE, STAMP, OVR, CONVS and, for a host conversion, HOST_RESULT. -/
def State.hkPublish (s : State) (c : HkConv) (x : Sample) (stamp : Nat) : State :=
  let ovr := x == 0x7FFFFF || x == 0x800000
  let v := s.hkValue c x
  let s := (s.setReg .hk 0 (0x100 + c.input) v).setWide .hk 0 (0x120 + c.input) 2 stamp
  let s := (s.setRb .hk 0 0x25 c.input ovr).count .hk 0 0x21
  if c.origin = 1 then
    s.setWords .hk 0 0x24
      ([word (2 ^ 31 + c.input * 2 ^ 26 + ovr.toNat * 2 ^ 25), v] ++ wordsOf 2 stamp)
  else s

/-- HK_CONVERSION_DONE: the result arrives in the aux island at device time t, 1 µs or more after its window ended, and in
the core island in core cycle cyc (R664, R665, R675). -/
def State.hkDone (s : State) (x : Sample) (t cyc : Nat) : State :=
  match s.hk.conv with
  | none => s
  | some c =>
    if t < c.started + hkTime c then s
    else
      let stamp := c.started + hkTime c - 1000
      let s := { s with hk := { s.hk with conv := none, doneAt := insertKey s.hk.doneAt c.input s.clock } }
      let s := ((s.setRb .hk 0 0x20 30 false).hkPublish c x stamp).busyEnds (mkId 0xA 0) cyc
      let s := s.fire (mkId 0xA 0) cyc
      let s := if c.log then s.hkRecord c (x == 0x7FFFFF || x == 0x800000) stamp (s.hkValue c x) x cyc else s
      let s := if c.origin = 0 && s.rb .hk 0 0x20 31 then s.hkAdvance t else s
      s.hkNext t

/-- HK_SLOT_DUE at device time t: the slot starts, or waits for the conversion in progress and slips (R670, R671). -/
def State.hkSlotDue (s : State) (t : Nat) : State :=
  match s.hk.due with
  | none => s
  | some due =>
    if t < due || !s.rb .hk 0 0x20 31 || s.hk.slotWaits then s
    else if s.hk.conv.isSome then
      ({ s with hk := { s.hk with slotWaits := true } }).count .hk 0 0x23
    else ({ s with hk := { s.hk with due := none } }).hkStart (s.hkSlotInput s.hk.slot) 0 t

/-- HK.STOP: the sequence ends and its conversion in progress is abandoned (R674). -/
def State.hkStopSeq (s : State) : State :=
  let s := ({ s with hk := { s.hk with due := none, slotWaits := false } }).setRb .hk 0 0x20 31 false
  match s.hk.conv with
  | some c =>
    if c.origin = 0 then
      (({ s with hk := { s.hk with conv := none } }).setRb .hk 0 0x20 30 false).hkNext s.now
    else s
  | none => s

/-- HK_URGENT_ACTIVATION: the oldest activation on its way to input n reaches the aux island at device time t. It starts an
urgent conversion, or met a busy consumer and is dropped (R344, R346, R673): the converter is busy in the core island until the cycle in
which a result arrives. -/
def State.hkUrgent (s : State) (n t : Nat) : State :=
  match s.hk.urgent.find? (fun e => e.1 == n) with
  | none => s
  | some e =>
    let i := mkId 0xA n
    let s := { s with hk := { s.hk with urgent := s.hk.urgent.erase e } }
    let k := s.sink i
    if s.hk.conv.isSome || (find s.events.busyEnd (mkId 0xA 0)).any (fun done => decide (e.2.2 ≤ done)) then
      let s := (s.setSink i { k with overrun := true, overruns := min (2 ^ 32 - 1) (k.overruns + e.2.1),
                                     noticed := true }).count .hk 0 0x22
      if k.noticed then s else s.notifyAt (s.timeOfCycle e.2.2) 0x0303 .dev 0 [i]
    else
      let s := s.setSink i { k with coincident := decide (2 ≤ e.2.1), lastCount := e.2.1,
                                    activations := min (2 ^ 32 - 1) (k.activations + 1) }
      s.hkStart n 2 t

end Sys2Proof.Machine
end

