-- ==== Sys2Proof/Machine/Memory.lean ====
section
/-!
DEFINITION. Check failures of DRAM data and the remap of failing regions (R22, R529, R546, R547). Regions of 1 MiB are
numbered from 0 in the order of the table of R22, the remap reserve before the spool (DESIGN CHOICE, log entry 15).
-/

namespace Sys2Proof.Machine

/-- The region that holds a point store granule: 288 bytes each. -/
def pointRegion (g : Nat) : Nat := g * 288 / 2 ^ 20

/-- The region that holds granule g of the list-source store. -/
def listRegion (g : Nat) : Nat := 288 + 1 + g * 288 / 2 ^ 20

/-- The region that holds an entry of a bank's vector memory: 18 bytes each, copy A first. -/
def vectorRegion (b e : Nat) : Nat := 768 + 64 * b + e * 18 / 2 ^ 20

/-- The region that holds a 256-word block of the k-th calibration set. -/
def calRegion (k block : Nat) : Nat := 1280 + (k * 65536 + block * 1024) / 2 ^ 20

/-- The region that holds a byte of the spool. -/
def spoolRegion (byte : Nat) : Nat := 2048 + byte / 2 ^ 20

/-- The lasting action of DRAM_CHECK: the region is mapped onto a free row of the reserve and rebuilt there; with no row
left it stays in use (R546, R547). -/
def State.remap (s : State) (region : Nat) : State :=
  if s.faults.remapped.length < 256 then
    let s := { s with faults := { s.faults with
      remapped := s.faults.remapped ++ [region], rebuilding := s.faults.rebuilding ++ [region] } }
    (s.notify 0x0504 .dev 0 [region]).raiseFault 30
  else
    let s := { s with faults := { s.faults with unmapped := (s.faults.unmapped ++ [region]).eraseDups } }
    ((s.logFault 0x0306 true (objCode .dev) 0 1).notify 0x0505 .dev 0 [region]).raiseFault 30

/-- Data of a region failed its check (R529); in a region that the full reserve left in use an error is transient whatever their number
(R547). -/
def State.dramCheck (s : State) (region : Nat) : State :=
  if s.faults.unmapped.contains region then s.countTransient .dramCheck region
  else
    let (lasting, s) := s.countFault .dramCheck region
    if lasting then s.remap region else s

/-- The named bits of an item inverted, of n bits an item, item i holding bits n i to n i + n - 1. -/
def invertIn {n : Nat} (bits : List Nat) (i : Nat) (e : BitVec n) : BitVec n :=
  bits.foldl (fun e k => if k / n = i then e ^^^ BitVec.ofNat n (2 ^ (k % n)) else e) e

end Sys2Proof.Machine
end

