-- ==== Sys2Proof/Machine/RecordPath.lean ====
section
/-!
DEFINITION. From a unit's packet buffers to the rings, the spool, push egress and the journal (R398-R441, R615, R616).
-/

namespace Sys2Proof.Machine

/-! ## Packet buffers of the units -/

/-- A unit that has written nothing. -/
def UnitPackets.fresh : UnitPackets := ⟨none, none⟩

/-- The packet side of unit u. -/
def State.unitPkts (s : State) (u : Nat) : UnitPackets := findD s.records.units UnitPackets.fresh u

/-- Replace the packet side of unit u. -/
def State.setUnitPkts (s : State) (u : Nat) (p : UnitPackets) : State :=
  { s with records := { s.records with units := store s.records.units UnitPackets.fresh u p } }

/-- The closed packets that wait for the ring of FIFO f, in the order they closed. -/
def State.waitingPkts (s : State) (f : Nat) : List WaitingPacket := findD s.records.waiting [] f

/-- Replace the closed packets that wait for the ring of FIFO f. -/
def State.setWaitingPkts (s : State) (f : Nat) (l : List WaitingPacket) : State :=
  { s with records := { s.records with waiting := store s.records.waiting [] f l } }

/-- How many of unit u's two buffers hold closed packets. -/
def State.closedCount (s : State) (u : Nat) : Nat :=
  ((s.waitingPkts (bankOf u)).filter fun w => w.unit == some u).length

/-- Put a closed packet behind those that closed before it. -/
def State.closePkt (s : State) (f : Nat) (unit : Option Nat) (words : List Word) : State :=
  s.setWaitingPkts f (s.waitingPkts f ++ [⟨unit, words⟩])

/-- PKT_WORDS of FIFO f. -/
def State.pktWords (s : State) (f : Nat) : Nat := s.rf .fifo f 0 31 24

/-- Close unit u's open packet, marking it as its record's last or not; an empty one is left open (R403, R404, R414). -/
def State.closeOpen (s : State) (u : Nat) (last : Bool) : State :=
  let p := s.unitPkts u
  match p.openPkt with
  | none => s
  | some o =>
    if o.payload.isEmpty then s
    else
      let s := s.setUnitPkts u { p with openPkt := none }
      s.closePkt (bankOf u) (some u)
        (mkPacket o.ptype o.first last (o.provisional || (o.first && !last)) (bankOf u) 0x40 u o.recno o.offset s.now
          o.payload)

/-- Whether a unit drops every word it produces: it lost words while both its buffers held closed packets, and none is free yet (R407). -/
def UnitPackets.drops (p : UnitPackets) : Bool :=
  match p.dropping with
  | some d => !d.aside
  | none => false

/-- STATUS of FIFO f counts the units that are dropping (R418). -/
def State.countDropping (s : State) (f : Nat) : State :=
  let n := (s.records.units.filter fun e => bankOf e.1 == f && e.2.drops).length
  (s.setRf .fifo f 0x20 6 0 n).setRb .fifo f 0x20 30 (decide (0 < n))

/-- Unit u drops n words of record recno at device time t: every word while both buffers hold closed packets, or a detection record
alone, beside an open packet (R407, R410; DESIGN CHOICE, log entry 19). -/
def State.dropWords (s : State) (u recno n t : Nat) (aside : Bool := false) : State :=
  let f := bankOf u
  let p := s.unitPkts u
  let s := s.countBy .fifo f 0x23 n
  match p.dropping with
  | some d =>
    let d := { d with aside := d.aside && aside, ends := t, count := d.count + n }
    (s.setUnitPkts u { p with dropping := some d }).countDropping f
  | none =>
    let s := s.setUnitPkts u { p with dropping := some ⟨aside, t, t, n, recno, s.rb .spool 0 0x20 30⟩ }
    let s := s.countDropping f
    if (s.ring f).dropNoticed then s
    else (s.setRing f { s.ring f with dropNoticed := true }).notify 0x0302 .fifo f [u]

/-- Unit u writes an entry or a measurement group: words of record recno that begin at the given offset. It closes the open
packet first if the entry would take it beyond PKT_WORDS, and drops the words while no buffer is free (R403, R407). A packet that
reaches PKT_WORDS closes, unless these words are the record's last: the record's end then closes it (R441). -/
def State.unitWrite (s : State) (u recno offset t : Nat) (ws : List Word) (last : Bool := false) : State :=
  if (s.unitPkts u).drops then s.dropWords u recno ws.length t
  else
    let limit := s.pktWords (bankOf u)
    let s := match (s.unitPkts u).openPkt with
      | some o => if limit < o.payload.length + ws.length then s.closeOpen u false else s
      | none => s
    match (s.unitPkts u).openPkt with
    | some o =>
      let o := { o with payload := o.payload ++ ws }
      let s := s.setUnitPkts u { s.unitPkts u with openPkt := some o }
      if limit ≤ o.payload.length && !last then s.closeOpen u false else s
    | none =>
      if 2 ≤ s.closedCount u then s.dropWords u recno ws.length t
      else
        let o : OpenPacket := ⟨1, decide (offset = 0), false, recno, offset, ws, s.clock⟩
        let s := s.setUnitPkts u { s.unitPkts u with openPkt := some o }
        if limit ≤ ws.length && !last then s.closeOpen u false else s

/-- A record of unit u ends: header is its final header of nine words. A first packet still open takes it in place and
closes with LAST; otherwise a FINAL_HEADER packet follows (R404, R441). -/
def State.unitEndRecord (s : State) (u recno t : Nat) (header : List Word) : State :=
  match (s.unitPkts u).openPkt with
  | some o =>
    if o.first && o.recno == recno && o.ptype == 1 then
      let o := { o with payload := header ++ o.payload.drop header.length }
      (s.setUnitPkts u { s.unitPkts u with openPkt := some o }).closeOpen u true
    else
      let s := s.closeOpen u false
      if 2 ≤ s.closedCount u then s.dropWords u recno header.length t
      else s.closePkt (bankOf u) (some u)
        (mkPacket 2 false true false (bankOf u) 0x40 u recno 0 s.now header)
  | none =>
    if (s.unitPkts u).drops || 2 ≤ s.closedCount u then s.dropWords u recno header.length t
    else s.closePkt (bankOf u) (some u)
      (mkPacket 2 false true false (bankOf u) 0x40 u recno 0 s.now header)

/-- A detection record of eight words: one packet with FIRST and LAST, in a buffer of its own beside an open packet. With none free for
it beside the open packet it is lost alone (R403, R405, R407; DESIGN CHOICE, log entry 19). -/
def State.unitDetection (s : State) (u recno t : Nat) (ws : List Word) : State :=
  let p := s.unitPkts u
  if p.drops || 2 ≤ s.closedCount u then s.dropWords u recno ws.length t
  else if p.openPkt.isSome && s.closedCount u = 1 then s.dropWords u recno ws.length t true
  else s.closePkt (bankOf u) (some u) (mkPacket 1 true true false (bankOf u) 0x40 u recno 0 s.now ws)

/-- A gap marker of a sequencer enters its bank's FIFO after the packets closed before it; spoolFull is whether the spool was full when
the underrun began (R409, R296). -/
def State.underrunGap (s : State) (obj inst f : Nat) (spoolFull : Bool) (begins ends count : Nat) : State :=
  s.closePkt f none
    (mkPacket 3 false false false f obj inst 0 0 s.now (gapPayload 2 spoolFull begins ends count 0 0))

/-- Whether record recno of unit u has its last word written and only its end is left (R441): its last interval is whole, and no
measurement group follows. -/
def State.recordWhole (s : State) (u recno : Nat) : Bool :=
  match (find s.acqs u).bind fun x => x.rcd with
  | some r => r.whole && r.recno == recno && s.rf .acq u 0 20 16 == 0
  | none => false

/-- A flush closes the open packet of unit u, if it has payload; at the last word of its record, the record's end closes it (R403,
R414, R441). -/
def State.flushOpen (s : State) (u : Nat) : State :=
  match (s.unitPkts u).openPkt with
  | some o => if s.recordWhole u o.recno then s else s.closeOpen u false
  | none => s

/-- FIFO.FLUSH of FIFO f: the open packet of every unit that is not dropping closes if it has payload (R414). -/
def State.flushFifo (s : State) (f : Nat) : State :=
  s.each (s.records.units.filterMap fun e => if bankOf e.1 = f && !e.2.drops then some e.1 else none) State.flushOpen

/-- FLUSH_TIME passing for unit u (R403). -/
def State.flushTime (s : State) (u : Nat) : State :=
  match (s.unitPkts u).openPkt with
  | some o => if o.since + s.rf .fifo (bankOf u) 0 15 0 * 100000 ≤ s.clock then s.flushOpen u else s
  | none => s

/-- A buffer of unit u has become free: after a drop the unit first writes its gap marker into it, then resumes (R408). -/
def State.resumeUnit (s : State) (u : Nat) : State :=
  let p := s.unitPkts u
  match p.dropping with
  | none => s
  | some d =>
    let f := bankOf u
    let s := (s.setUnitPkts u { p with dropping := none }).countDropping f
    s.closePkt f (some u)
      (mkPacket 3 false false false f 0x40 u 0 0 s.now (gapPayload 1 d.spoolFull d.begins d.ends d.count d.recnoFirst 0))

/-- SRAM regions of the record FIFOs are numbered from 32 on (DESIGN CHOICE, log entry 15). -/
def fifoRegion (f : Nat) : Nat := 32 + f

/-- The ECC gap marker that takes the place of a lost packet (R409, R413; DESIGN CHOICE, log entry 17 for BEGIN and END). -/
def eccGap (f : Nat) (spoolFull : Bool) (lost : List Word) (pseq : Nat) : List Word :=
  let t := dword lost 5
  (mkPacket 3 false false false f 0x60 f 0 0 t
    (gapPayload 3 spoolFull t t (lost.length - 8) (wget lost 3).toNat pseq)).set 2 (word pseq)

/-- PACKET_TO_RING of FIFO f in core cycle cyc: the packet that closed first is copied whole while the ring has room; the
read of its buffer may meet an ECC error (R406, R408, R413). -/
def State.packetToRing (s : State) (f cyc : Nat) (r : MemRead) : State :=
  match s.waitingPkts f with
  | [] => s
  | w :: rest =>
    if !s.ringFits f w.words then s
    else
      let s := s.setWaitingPkts f rest
      let s := match r with
        | .ok | .crossed => s.pushRing f w.words cyc
        | .corrected => ((s.count .fifo f 0x25).sramError .sramSec (fifoRegion f)).pushRing f w.words cyc
        | .double =>
          let s := (s.count .fifo f 0x26).sramError .sramDed (fifoRegion f)
          s.pushRing f (eccGap f (s.rb .spool 0 0x20 30) w.words (s.reg .fifo f 0x27).toNat) cyc
      match w.unit with
      | some u => s.resumeUnit u
      | none => s

/-! ## HOLDOFF (R417) -/

/-- Whether a source that HOLDOFF[k] selects is above its watermark. -/
def State.holdoffActive (s : State) (k : Nat) : Bool :=
  let w := s.reg .spool 0 (3 + k)
  (bitAt w 29 && s.rb .spool 0 0x20 31) ||
    (upto 9).any fun f => bitAt w (20 + f) && s.rb .fifo f 0x20 31

/-- The level HOLDOFF[k] drives: low until an EN = 1 has been applied; then active while EN is 1 and a selected source is
above, under the pin's polarity. -/
def State.holdoffPin (s : State) (k : Nat) : Bool :=
  if !s.records.holdoffUsed.contains k then false
  else
    let active := s.rb .spool 0 (3 + k) 31 && s.holdoffActive k
    if s.rb .spool 0 (3 + k) 30 then !active else active

/-! ## The spool -/

/-- Whether push egress, pull egress and the journal are enabled consumers (R423). -/
def State.pushOn (s : State) : Bool := s.rb .spool 0 8 31 && !s.rb .spool 0 0 15

/-- Pull egress is enabled. -/
def State.pullOn (s : State) : Bool := s.rb .spool 0 8 31 && s.rb .spool 0 0 15

/-- Logging to the journal is enabled. -/
def State.logOn (s : State) : Bool := s.rb .journal 0 8 31

/-- Bytes a packet takes in the spool. -/
def pktBytes (p : List Word) : Nat := 4 * p.length

/-- DEPTH, PEAK, OLDEST and the ABOVE state follow the spool (R416, R420). -/
def State.watchSpool (s : State) : State :=
  let depth := (s.records.spool.packets.map fun p => pktBytes p.words).sum
  let s := s.setWide .spool 0 0x21 2 depth
  let s := if s.wide .spool 0 0x22 2 < depth then s.setWide .spool 0 0x22 2 depth else s
  let s := s.setWide .spool 0 0x23 2
    (match s.records.spool.packets with
      | p :: _ => dword p.words 5
      | [] => 0)
  if s.rf .spool 0 2 31 16 * 2 ^ 20 ≤ depth then s.setRb .spool 0 0x20 31 true
  else if depth ≤ s.rf .spool 0 2 15 0 * 2 ^ 20 then s.setRb .spool 0 0x20 31 false
  else s

/-- Whether a packet has been taken by a consumer and by every consumer enabled now (R423). -/
def State.allTaken (s : State) (p : SpoolPacket) : Bool :=
  (p.pushTaken || p.pullTaken || p.journalTaken) && (!s.pushOn || p.pushTaken) && (!s.pullOn || p.pullTaken) &&
    (!s.logOn || p.journalTaken)

/-- Packets that a consumer, and every consumer enabled now, has taken leave the spool (R423). -/
def State.sweepSpool (s : State) : State :=
  let sp := s.records.spool
  ({ s with records := { s.records with spool := { sp with packets := sp.packets.filter fun p => !s.allTaken p } } }
    ).watchSpool

/-- Mark spool packets that end at or before a cursor as taken by one consumer. -/
def State.takeUpTo (s : State) (cursor : Nat) (mark : SpoolPacket → SpoolPacket) : State :=
  let sp := s.records.spool
  let packets := sp.packets.map fun (p : SpoolPacket) => if p.cursorEnd ≤ cursor then mark p else p
  ({ s with records := { s.records with spool := { sp with packets := packets } } }).sweepSpool

/-- The FIFO the spool writer serves next: that whose oldest packet did not fit, else the first in turn, which FIFO_EN enables and whose
ring holds a packet (R411, R424). -/
def State.nextFifo (s : State) : Option Nat :=
  (s.records.spool.stopped.toList ++ (upto 9).map fun i => (s.records.spool.turn + i) % 9).find? fun f =>
    s.rb .spool 0 0 (16 + f) && !(s.ring f).packets.isEmpty

/-- Bytes the spool can hold (R420). -/
def State.spoolSize (s : State) : Nat := s.rf .spool 0 0 31 25 * 64 * 2 ^ 20

/-- Whether a packet fits in the spool. -/
def State.spoolFits (s : State) (p : List Word) : Bool :=
  decide (s.wide .spool 0 0x21 2 + pktBytes p ≤ s.spoolSize)

/-- A packet with CHECK filled in: the CRC-32 of all its words with word 7 taken as 0 (R422). -/
def withCheck (p : List Word) : List Word := p.set 7 (word (crc32 (wordBytes (p.set 7 0))))

/-- Store a packet in the spool (R422). -/
def State.spoolStore (s : State) (p : List Word) : State :=
  let sp := s.records.spool
  let cursor := sp.cursor + pktBytes p
  let stored : SpoolPacket := ⟨withCheck p, cursor, false, false, false⟩
  ({ s with records := { s.records with spool := { sp with packets := sp.packets ++ [stored], cursor := cursor } } }
    ).watchSpool

/-- SPOOL_WRITE in core cycle cyc: the writer takes the next packet, or sets FULL if it does not fit; the read of its ring
words may meet an ECC error, and a word may be lost on the way to DRAM (R411, R413, R422, R424, R548; DEDUCED, log entry 126). -/
def State.spoolWrite (s : State) (cyc : Nat) (r : MemRead) : State :=
  if s.rb .spool 0 0x20 30 then s
  else
    match s.nextFifo with
    | none => s
    | some f =>
      match (s.ring f).packets with
      | [] => s
      | p :: rest =>
        let sp := s.records.spool
        if !s.spoolFits p then
          { s with records := { s.records with spool := { sp with stopped := some f } } }.setRb .spool 0 0x20 30 true
        else
          let s := { s with records := { s.records with spool := { sp with turn := (f + 1) % 9, stopped := none } } }
          let s := (s.setRing f { s.ring f with packets := rest }).watchFill f cyc
          match r with
          | .ok => s.spoolStore p
          | .corrected => ((s.count .fifo f 0x25).sramError .sramSec (fifoRegion f)).spoolStore p
          | .double =>
            let s := ((s.count .fifo f 0x26).count .fifo f 0x24).sramError .sramDed (fifoRegion f)
            s.spoolStore (eccGap f (s.rb .spool 0 0x20 30) p (pktSeq p))
          | .crossed =>
            let (lasting, s) := ((s.count .fifo f 0x26).count .fifo f 0x24).countFault .crossingDed 16
            let s : State := if lasting then s.raiseFault 29 else s
            s.spoolStore (eccGap f (s.rb .spool 0 0x20 30) p (pktSeq p))

/-- SPOOL_RESUME: the writer goes on when the packet it stopped at fits (R424). -/
def State.spoolResume (s : State) : State :=
  if !s.rb .spool 0 0x20 30 then s
  else
    match s.nextFifo with
    | none => s.setRb .spool 0 0x20 30 false
    | some f =>
      match (s.ring f).packets with
      | [] => s.setRb .spool 0 0x20 30 false
      | p :: _ => if s.spoolFits p then s.setRb .spool 0 0x20 30 false else s

/-- SPOOL.DISCARD: the spool and every ring are emptied; PSEQ goes on after the last packet discarded (R428). -/
def State.spoolDiscard (s : State) : State :=
  let sp := s.records.spool
  let s := { s with records := { s.records with spool := { sp with
    packets := [], stopped := none, datagram := [], delivered := sp.cursor, acknowledged := sp.cursor } } }
  let s := s.each (upto 9) fun s f => (s.setRing f { s.ring f with packets := [] }).watchFill f s.frameCycle
  s.watchSpool.setRb .spool 0 0x20 30 false

/-! ## Reading the spool: checks, push egress (R425-R427, R615, R616) -/

/-- The 64 KiB piece of the spool in which a packet starts (R422). -/
def SpoolPacket.piece (p : SpoolPacket) : Nat := (p.cursorEnd - pktBytes p.words) / 65536

/-- DRAM has inverted bits of the packet that ends at a cursor. -/
def State.spoolDecay (s : State) (cursorEnd : Nat) (bits : List Nat) : State :=
  let sp := s.records.spool
  let decayed (p : SpoolPacket) : SpoolPacket :=
    if p.cursorEnd = cursorEnd then { p with words := p.words.zipIdx.map fun e => invertIn bits e.2 e.1 } else p
  if bits.isEmpty then s
  else { s with records := { s.records with spool := { sp with packets := sp.packets.map decayed } } }

/-- How the check of a packet read from the spool goes (R425): it holds; it fails and the next packet's start lies LENGTH words
on; it fails and that start lies elsewhere. -/
inductive SpoolCheck where
  | good | corrupt | skip
  deriving DecidableEq, Repr

/-- What a reader of the spool takes in one read: the cursor at which it begins, the words it delivers, how the check went, the
words it skipped, and the cursor after all it covers. -/
structure SpoolRead where
  start : Nat
  words : List Word
  check : SpoolCheck
  skipped : Nat
  covered : Nat
  deriving DecidableEq, Repr

/-- The check of a packet: its CHECK is the CRC-32 of the LENGTH words from its start, and a failed check looks at where the next
packet starts (R422, R425; DEDUCED, log entry 114). -/
def SpoolPacket.check (p : SpoolPacket) (rest : List SpoolPacket) : SpoolCheck :=
  let got := (p.words ++ rest.flatMap SpoolPacket.words).take (pktLength p.words)
  if got.length == pktLength p.words && 8 < got.length && withCheck got == got then .good
  else if pktLength p.words = p.words.length then .corrupt
  else .skip

/-- Read the packet p, the packets after it being rest. A failed check either marks the packet CORRUPT or skips to the next
recorded start with a gap marker in place (R425; the marker's header: log entry 17). -/
def SpoolPacket.read (p : SpoolPacket) (spoolFull : Bool) (rest : List SpoolPacket) : SpoolRead :=
  let start := p.cursorEnd - pktBytes p.words
  match p.check rest with
  | .good => ⟨start, p.words, .good, 0, p.cursorEnd⟩
  | .corrupt => ⟨start, p.words.set 0 (putBit (wget p.words 0) 12 true), .corrupt, 0, p.cursorEnd⟩
  | .skip =>
    let lost := p :: rest.takeWhile (fun q => q.piece == p.piece)
    let newest := lost.getLast?.getD p
    let n := (lost.map fun q => q.words.length).sum
    let ends := dword newest.words 5
    let g := (mkPacket 3 false false false 0 0x61 0 0 0 ends
      (gapPayload 4 spoolFull (dword p.words 5) ends n 0 (pktSeq p.words))).set 2 (word (pktSeq p.words))
    ⟨start, withCheck g, .skip, n, newest.cursorEnd⟩

/-- The reads that take all packets of a list, in order; the number bounds their count. -/
def readPackets (spoolFull : Bool) : Nat → List SpoolPacket → List SpoolRead
  | 0, _ => []
  | _, [] => []
  | n + 1, p :: rest =>
    let r := p.read spoolFull rest
    r :: readPackets spoolFull n (rest.filter fun q => decide (r.covered < q.cursorEnd))

/-- The counters of R425 after a read: a failed check counts against the packet's DRAM region too (R529). -/
def State.countRead (s : State) (r : SpoolRead) : State :=
  let s : State := if r.check = .good then s
    else s.dramCheck (spoolRegion (r.start % max 1 s.spoolSize))
  match r.check with
  | .good => s
  | .corrupt => s.count .spool 0 0x24
  | .skip => s.countBy .spool 0 0x25 r.skipped

/-- Bytes of packets a datagram can hold: MTU.BYTES less the IP and UDP headers and 40 bytes (R616). -/
def State.datagramRoom (s : State) (v6 : Bool) : Nat := s.rf .dev 0 0x183 15 0 - (if v6 then 48 else 28) - 40

/-- Egress credit at the present time, in bytes × 10^9: RATE × 10^6 bytes a second up to BURST KiB (R426). -/
def State.egressCredit (s : State) : Nat :=
  min (s.rf .spool 0 1 19 10 * 1024 * 10 ^ 9)
    (s.records.spool.credit + s.rf .spool 0 1 31 20 * 10 ^ 6 * (s.clock - s.records.spool.creditAt))

/-- Send the datagram being filled, if the pace and a pause allow it (R426, R615, R616). -/
def State.sendDatagram (s : State) : State :=
  let sp := s.records.spool
  let bytes := (sp.datagram.map pktBytes).sum
  match s.host.egress with
  | none => s
  | some e =>
    if sp.datagram.isEmpty || s.paused e.dst.port || s.egressCredit < bytes * 10 ^ 9 then s
    else
      let s := { s with records := { s.records with spool := { sp with
        datagram := [], credit := s.egressCredit - bytes * 10 ^ 9, creditAt := s.clock } } }
      let s := { s with host := { s.host with egSeq := (s.host.egSeq + 1) % 2 ^ 32 } }
      let s := s.send e.dst.port 4
        (rmp e.key e.dst e.udp 5 e.session ((s.host.egSeq + 2 ^ 32 - 1) % 2 ^ 32) sp.datagram.length 0 s.now
          sp.datagram.flatten)
      s.takeUpTo sp.datagramEnd fun p => { p with pushTaken := true }

/-- Fill the datagram from the spool, one packet for each list of bits DRAM has inverted in it; the answer says whether a packet
was met that does not fit (R616). -/
def State.fillDatagram : State → List (List Nat) → Bool × State
  | s, [] => (false, s)
  | s, bits :: more =>
    let left (s : State) := s.records.spool.packets.filter fun p =>
      decide (s.records.spool.datagramEnd < p.cursorEnd) && !p.pushTaken
    match left s with
    | [] => (false, s)
    | p :: _ =>
      let s := s.spoolDecay p.cursorEnd bits
      match left s with
      | [] => (false, s)
      | p :: rest =>
        let r := p.read (s.rb .spool 0 0x20 30) rest
        let sp := s.records.spool
        let v6 := match s.host.egress with
          | some e => isV6 e.dst.ip
          | none => false
        if s.datagramRoom v6 < (sp.datagram.map pktBytes).sum + pktBytes r.words && !sp.datagram.isEmpty then (true, s)
        else
          let s := s.countRead r
          let since := if sp.datagram.isEmpty then s.clock else sp.datagramAt
          State.fillDatagram
            { s with records := { s.records with spool := { s.records.spool with
                datagram := sp.datagram ++ [r.words], datagramEnd := r.covered, datagramAt := since } } } more

/-- EGRESS_DATAGRAM: packets are taken into the datagram; when the next does not fit, it is sent (R616). -/
def State.egressDatagram (s : State) (inverted : List (List Nat)) : State :=
  if !s.pushOn || s.host.egress.isNone then s
  else
    let (full, s) := s.fillDatagram inverted
    if full then s.sendDatagram else s

/-- EGRESS_FLUSH_TIMEOUT: a datagram is sent 10 µs after its first packet was taken (R616). -/
def State.egressFlush (s : State) : State :=
  if !s.records.spool.datagram.isEmpty && decide (s.records.spool.datagramAt + 10000 ≤ s.clock) then s.sendDatagram
  else s

/-! ## The journal (R430-R440) -/

/-- Bytes of one program unit. -/
def State.jUnitBytes (s : State) : Nat := 2 ^ s.rf .journal 0 1 31 28

/-- Program units of one erase block. -/
def State.jBlockUnits (s : State) : Nat := 2 ^ s.rf .journal 0 1 27 24

/-- Program units of the whole journal. -/
def State.jTotalUnits (s : State) : Nat := (s.reg .journal 0 2).toNat * s.jBlockUnits

/-- The erase block of a program unit, wrapping from the last block to block 0 (R433). -/
def State.jBlock (s : State) (unit : Nat) : Nat :=
  if s.jTotalUnits = 0 then 0 else unit % s.jTotalUnits / s.jBlockUnits

/-- Data units of a record that holds the given packets: header of 32 bytes, then the packets (R433). -/
def State.jUnits (s : State) (packets : List (List Word)) : Nat :=
  ceilDiv (32 + (packets.map pktBytes).sum) s.jUnitBytes

/-- The blocks a record of n units from the given unit touches, its commit unit among them. -/
def State.jBlocks (s : State) (unit n : Nat) : List Nat := ((upto n).map fun i => s.jBlock (unit + i)).eraseDups

/-- The header of a journal record (R433). -/
def jHeader (jseq units bytes openTime : Nat) : List Word :=
  [0x4A520001] ++ wordsOf 2 jseq ++ [word (units * 2 ^ 24), word bytes] ++ wordsOf 2 openTime ++ [0]

/-- DATA_CRC of a record: over all bytes of its data units, erased bytes reading 0xFF (R434; DESIGN CHOICE, log entry 18). -/
def State.jDataCrc (s : State) (jseq units openTime : Nat) (packets : List (List Word)) : Nat :=
  let bytes := (packets.map pktBytes).sum
  let data := wordBytes (jHeader jseq units bytes openTime ++ packets.flatten)
  crc32 (data ++ List.replicate (units * s.jUnitBytes - data.length) 0xFF)

/-- The words with which the commit unit of a record begins (R434). -/
def jCommitUnit (r : JRecord) : List Word :=
  [0x5AC33CA5] ++ wordsOf 2 r.jseq ++ [word r.dataCrc] ++ wordsOf 2 r.closeTime

/-- The valid records: those whose commit unit was programmed (R435). -/
def State.jValid (s : State) : List JRecord := s.records.journal.records.filter fun r => r.committed

/-- FIRST_JSEQ, NEXT_JSEQ, USED, TORN and RECORD_OPEN follow the records (R431). -/
def State.watchJournal (s : State) (next : Nat) : State :=
  let valid := s.jValid
  let first := match valid with
    | r :: _ => r.jseq
    | [] => next
  let blocks := (valid.flatMap fun r => s.jBlocks r.unit (r.units + 1)).eraseDups
  let torn := (s.records.journal.records.filter fun r => !r.committed).length
  let s := (s.setWide .journal 0 0x21 2 first).setWide .journal 0 0x22 2 next
  let s := (s.setReg .journal 0 0x23 (word blocks.length)).setReg .journal 0 0x24 (word torn)
  s.setRb .journal 0 0x20 29 s.records.journal.openRec.isSome

/-- The next JSEQ. -/
def State.jNext (s : State) : Nat := s.wide .journal 0 0x22 2

/-- Replace the journal port's part beside its fields. -/
def State.setJournal (s : State) (j : Journal) : State := { s with records := { s.records with journal := j } }

/-- JOURNAL.OPEN is accepted: the device is switched to 8D and the scan starts (R430, R438). -/
def State.journalOpen (s : State) : State :=
  (s.setRb .journal 0 0x20 31 false).setJournal { s.records.journal with scanning := true }

/-- The packets that stand back to back in words, by their LENGTH; the number bounds their count (R433). -/
def splitPackets : Nat → List Word → List (List Word)
  | 0, _ => []
  | n + 1, l =>
    let k := pktLength l
    if l.isEmpty || k < 9 || l.length < k then [] else l.take k :: splitPackets n (l.drop k)

/-- The record that an image on the device holds, valid only if its header carries MAGIC and FORMAT, its commit unit lies at unit
UNITS with COMMIT and the same JSEQ, and DATA_CRC matches (R433-R435). -/
def State.jRecord (s : State) (x : JImage) : JRecord :=
  let units := fld (wget x.data 3) 31 24
  let crc := crc32 (wordBytes x.data)
  ⟨dword x.data 1, x.unit, units, splitPackets x.data.length ((x.data.drop 8).take ((wget x.data 4).toNat / 4)),
    dword x.data 5, dword x.commit 4, crc, x.commit,
    wget x.data 0 == 0x4A520001 && x.data.length * 4 == units * s.jUnitBytes && wget x.commit 0 == 0x5AC33CA5 &&
      dword x.commit 1 == dword x.data 1 && (wget x.commit 3).toNat == crc⟩

/-- Put a record among records in the order of their numbers. -/
def placeRecord (r : JRecord) : List JRecord → List JRecord
  | [] => [r]
  | x :: l => if r.jseq < x.jseq then r :: x :: l else x :: placeRecord r l

/-- JOURNAL_SCAN_DONE with what stands on the device: the next record goes to the first erase block after the newest valid one
(R438). -/
def State.journalScanDone (s : State) (found : List JImage) : State :=
  if !s.records.journal.scanning then s
  else
    let records := (found.map s.jRecord).foldl (fun l r => placeRecord r l) []
    let newest := (records.filter fun r => r.committed).getLast?
    let next := match newest with
      | some r => r.jseq + 1
      | none => 0
    let unit := match newest with
      | some r => (s.jBlock (r.unit + r.units) + 1) * s.jBlockUnits
      | none => 0
    let unit := if s.jTotalUnits = 0 then 0 else unit % s.jTotalUnits
    let s := s.setJournal { s.records.journal with
      scanning := false, records := records, openRec := none, programming := [], nextUnit := unit, erased := [],
      erasing := [] }
    ((s.setRb .journal 0 0x20 31 true).setRb .journal 0 0x20 30 false).watchJournal next

/-- The open record closes: its data units are programmed, then its commit unit (R434, R436). -/
def State.journalClose (s : State) : State :=
  let j := s.records.journal
  match j.openRec with
  | none => s
  | some o =>
    let units := s.jUnits o.packets
    let r : JRecord := ⟨o.jseq, o.unit, units, o.packets, o.openTime, s.now,
      s.jDataCrc o.jseq units o.openTime o.packets, [], false⟩
    let s := s.setJournal { j with openRec := none, programming := j.programming ++ [(r, o.cursorEnd)],
                                   nextUnit := o.unit + units + 1 }
    s.setRb .journal 0 0x20 29 false

/-- A full journal stops: the open record closes, FULL is set, N_JOURNAL_FULL is sent (R439, R568). -/
def State.journalFull (s : State) : State :=
  let s := s.journalClose.setRb .journal 0 0x20 30 true
  let s := (s.raiseFault 24).logFault 0x0702 true (objCode .journal) 0 1
  s.notify 0x0304 .journal 0 [s.jNext / 2 ^ 32, s.jNext % 2 ^ 32]

/-- Start the erase of a block: valid records with a unit in it become torn (R438, R439). -/
def State.journalErase (s : State) (b : Nat) : State :=
  let j := s.records.journal
  let records := j.records.map fun r =>
    if (s.jBlocks r.unit (r.units + 1)).contains b then { r with committed := false } else r
  (s.setJournal { j with erasing := j.erasing ++ [b], records := records }).watchJournal s.jNext

/-- The first good block from block b on. -/
def State.jGoodBlock (s : State) (b : Nat) : Nat :=
  let size := (s.reg .journal 0 2).toNat
  (((upto (min size 4096)).map fun i => (b + i) % size).find? fun x => !s.records.journal.bad.contains x).getD b

/-- Where a record of n units is placed from a unit on: there, or at the first good block after each retired block its units would
lie in (R440). -/
def State.jPlace (s : State) (unit n : Nat) : Nat :=
  s.records.journal.bad.foldl (fun u _ =>
    match (s.jBlocks u n).find? fun b => s.records.journal.bad.contains b with
    | some b => s.jGoodBlock b * s.jBlockUnits
    | none => u) unit

/-- Whether the record being placed would reach the block that holds FIRST_JSEQ (R439). -/
def State.jReachesFirst (s : State) (blocks : List Nat) : Bool :=
  match s.jValid with
  | r :: _ => blocks.contains (s.jBlock r.unit)
  | [] => false

/-- Whether a record placed at a unit instead of another, past the retired blocks between, passes the block that holds FIRST_JSEQ (R439,
R440). -/
def State.jPassesFirst (s : State) (unit place : Nat) : Bool :=
  let total := max 1 s.jTotalUnits
  s.jReachesFirst ((s.jBlocks unit ((place + total - unit % total) % total)).filter s.records.journal.bad.contains)

/-- Whether a record that is still being programmed has a unit in block b. -/
def State.jBusy (s : State) (b : Nat) : Bool :=
  s.records.journal.programming.any fun e => (s.jBlocks e.1.unit (e.1.units + 1)).contains b

/-- The blocks that a record of n units placed at a unit enters afresh: all, but the block in which a record before it ends (R433). -/
def State.jFresh (s : State) (unit n : Nat) : List Nat :=
  let skip := if unit % s.jBlockUnits = 0 then 0 else min n (s.jBlockUnits - unit % s.jBlockUnits)
  s.jBlocks (unit + skip) (n - skip)

/-- The first unit of the block after that of a unit. -/
def State.jNextBlock (s : State) (unit : Nat) : Nat := (unit / s.jBlockUnits + 1) * s.jBlockUnits

/-- Where a record of n units goes that would stand at a unit: there, or in the next block if it would come round to the block in which
it begins, past retired blocks (R440; DESIGN CHOICE, log entry 127). -/
def State.jSettle (s : State) (unit n : Nat) : Nat :=
  let unit := if s.jTotalUnits < unit % s.jBlockUnits + n then s.jNextBlock unit else unit
  s.jPlace unit n

/-- A record needs block b erased: the erase is started, unless it runs or the block is retired; or the journal is full (R438-R440). -/
def State.journalNeeds (s : State) (b : Nat) : State :=
  if s.records.journal.bad.contains b || s.records.journal.erasing.contains b || s.records.journal.erased.contains b then s
  else if s.jReachesFirst [b] && !s.rb .journal 0 0 24 then
    if s.rb .journal 0 0x20 30 then s else s.journalFull
  else s.journalErase b

/-- Take a packet into the open record, or open a record with it (R436). -/
def State.journalAdd (s : State) (words : List Word) (cursorEnd : Nat) : State :=
  let j := s.records.journal
  match j.openRec with
  | some o =>
    s.setJournal { j with openRec := some { o with packets := o.packets ++ [words], cursorEnd := cursorEnd } }
  | none =>
    let pendingSeq := j.programming.length
    let s := s.setJournal { j with
      openRec := some ⟨s.jNext + pendingSeq, j.nextUnit, [words], cursorEnd, s.now, s.clock⟩ }
    s.setRb .journal 0 0x20 29 true

/-- The spool packets the journal has not yet taken into a record. -/
def State.jLeft (s : State) : List SpoolPacket :=
  let j := s.records.journal
  let inRecords := match j.openRec, j.programming.getLast? with
    | some o, _ => o.cursorEnd
    | none, some (_, c) => c
    | none, none => 0
  s.records.spool.packets.filter fun p => !p.journalTaken && decide (inRecords < p.cursorEnd)

/-- JOURNAL_TAKE: the port takes the next spool packet, checking it; it closes the open record first if the packet does not
fit within MAX_UNITS, starts the erase of a block it needs, waits for a record that still is being programmed there, or stops on a full
journal (R425, R436, R439). -/
def State.journalTake (s : State) (inverted : List Nat) : State :=
  let j := s.records.journal
  if !s.logOn || !s.rb .journal 0 0x20 31 || s.rb .journal 0 0x20 30 || j.closing then s
  else
    let s : State := match s.jLeft with
      | [] => s
      | p :: _ => s.spoolDecay p.cursorEnd inverted
    match s.jLeft with
    | [] => s
    | p :: rest =>
      let r := p.read (s.rb .spool 0 0x20 30) rest
      let words := r.words
      let maxUnits := min (s.rf .journal 0 3 31 24) (s.jTotalUnits - 1)
      let s := match j.openRec with
        | some o => if maxUnits < s.jUnits (o.packets ++ [words]) then s.journalClose else s
        | none => s
      let j := s.records.journal
      let (unit, packets) := match j.openRec with
        | some o => (o.unit, o.packets ++ [words])
        | none => (j.nextUnit, [words])
      let units := s.jUnits packets + 1
      let place := s.jSettle unit units
      if s.jTotalUnits < units || (place != unit && s.jPassesFirst unit place && !s.rb .journal 0 0 24) then s.journalFull
      else if place != unit then
        let j := { j with erased := j.erased.filter fun b =>
          unit % s.jBlockUnits = 0 || b != s.jBlock unit || s.jBusy b }
        match j.openRec with
        | some o => s.setJournal { j with openRec := some { o with unit := place } }
        | none => s.setJournal { j with nextUnit := place }
      else if (s.jFresh unit units).any s.jBusy then s
      else
        match (s.jBlocks unit units).find? fun b => !j.erased.contains b with
        | some b => s.journalNeeds b
        | none => (s.countRead r).journalAdd words r.covered

/-- JOURNAL_ERASE_DONE of block b: records may be programmed into it, or a failed erase retires it (R438-R440). -/
def State.journalEraseDone (s : State) (b : Nat) : State :=
  let j := s.records.journal
  if j.erasing.contains b then
    s.setJournal { j with erasing := j.erasing.filter (· != b), erased := j.erased ++ [b] }
  else s

/-- The commit unit of the oldest closed record is programmed: the record is valid, its packets are taken, and of the erased blocks those
it has filled leave the list (R423, R434, R435). -/
def State.journalCommits (s : State) : State :=
  let j := s.records.journal
  match j.programming with
  | [] => s
  | (r, cursor) :: rest =>
    let blocks := s.jBlocks r.unit (r.units + 1)
    let stillUsed := match j.openRec with
      | some o => s.jBlocks o.unit (s.jUnits o.packets + 1)
      | none => []
    let stillUsed := stillUsed ++ rest.flatMap fun e => s.jBlocks e.1.unit (e.1.units + 1)
    let tail := if j.nextUnit % s.jBlockUnits = 0 then [] else s.jBlocks j.nextUnit 1
    let s := s.setJournal { j with
      programming := rest, records := j.records ++ [{ r with committed := true }],
      erased := j.erased.filter fun b => !blocks.contains b || stillUsed.contains b || tail.contains b }
    (s.watchJournal (r.jseq + 1)).takeUpTo cursor fun p => { p with journalTaken := true }

/-- JOURNAL_PROGRAM_DONE: of the oldest closed record, every data unit has reported success, and its commit unit is formed and
programmed; or that commit unit has, and the record is committed (R434; DEDUCED, log entry 128). -/
def State.journalProgramDone (s : State) : State :=
  let j := s.records.journal
  match j.programming with
  | [] => s
  | (r, cursor) :: rest =>
    if !(s.jBlocks r.unit (r.units + 1)).all j.erased.contains then s
    else if r.commit.isEmpty then
      s.setJournal { j with programming := ({ r with commit := jCommitUnit r }, cursor) :: rest }
    else s.journalCommits

/-- Place the records not yet programmed one after the other from a unit on (R433, R440). -/
def State.jReplace (s : State) : Nat → List (JRecord × Nat) → List (JRecord × Nat) × Nat
  | unit, [] => ([], unit)
  | unit, (r, c) :: l =>
    let at' := s.jSettle unit (r.units + 1)
    let (l, next) := s.jReplace (at' + r.units + 1) l
    (({ r with unit := at', commit := [] }, c) :: l, next)

/-- JOURNAL_PROGRAM_FAIL of block b: the block is retired, N_JOURNAL_FAULT names it, and a record being written there is abandoned
and written again from its first packet in the next good block; the records after it follow it there. Their new blocks are erased, and a
block they have left, which no other record is being written to, needs a new erase before it is written again (R438, R440). -/
def State.journalProgramFail (s : State) (b : Nat) : State :=
  let j := s.records.journal
  if j.bad.contains b then s
  else
    let hits (unit units : Nat) : Bool := (s.jBlocks unit (units + 1)).contains b
    let s := s.setJournal { j with
      bad := j.bad ++ [b], erased := j.erased.filter (· != b), erasing := j.erasing.filter (· != b) }
    let j := s.records.journal
    let kept := j.programming.takeWhile fun e => !hits e.1.unit e.1.units
    let moved := j.programming.drop kept.length
    let first := s.jGoodBlock (b + 1) * s.jBlockUnits
    let (moved, next) := s.jReplace first moved
    let follows := !moved.isEmpty || (match j.openRec with
      | some o => hits o.unit (s.jUnits o.packets)
      | none => hits j.nextUnit 0)
    let start := if moved.isEmpty then first else next
    let openAt (o : JOpen) : JOpen := if follows then { o with unit := s.jSettle start (s.jUnits o.packets + 1) } else o
    let usedBy (l : List (JRecord × Nat)) : List Nat := l.flatMap fun e => s.jBlocks e.1.unit (e.1.units + 1)
    let openBlocks (s : State) : List Nat := match s.records.journal.openRec with
      | some o => s.jBlocks o.unit (s.jUnits o.packets + 1)
      | none => []
    let left := if follows then usedBy (j.programming.drop kept.length) ++ openBlocks s ++ s.jBlocks j.nextUnit 1 else []
    let s := s.setJournal { j with
      openRec := j.openRec.map openAt, programming := kept ++ moved,
      nextUnit := if follows then start else j.nextUnit,
      erased := j.erased.filter fun x => !left.contains x || (usedBy kept).contains x }
    let full := follows && s.jPassesFirst ((b + 1) * s.jBlockUnits) first && !s.rb .journal 0 0 24
    let s := if full && !s.rb .journal 0 0x20 30 then s.journalFull
      else s.each (usedBy moved ++ openBlocks s).eraseDups State.journalNeeds
    let s := (s.count .journal 0 0x25).raiseFault 24
    (s.logFault 0x0701 true (objCode .journal) 0 1).notify 0x0305 .journal 0 [b]

/-- JOURNAL_MAX_AGE: a record open for MAX_AGE closes (R436). -/
def State.journalMaxAge (s : State) : State :=
  match s.records.journal.openRec with
  | some o => if o.since + s.rf .journal 0 3 15 0 * 10 ^ 6 ≤ s.clock then s.journalClose else s
  | none => s

end Sys2Proof.Machine
end

