-- ==== Sys2Proof/Machine/Channel.lean ====
section
/-!
DEFINITION. Channels: modes, ranges and the head's descriptor, states, trips, the safe state (R52-R81, R99, R100, R194,
R210-R213, R476).
-/

namespace Sys2Proof.Machine

/-! ## The part of a channel beside its fields -/

/-- Loop state memory that starts from 0 (R717). -/
def LoopCopy.fresh : LoopCopy := ⟨0, 0, 0, 0, 0, 0, 0, 0, 0, 0, 0, 0, 0, 0, 0, 0, 0, 0, true, 0, 0, []⟩

/-- Auto-ranging that has judged nothing. -/
def AutoRange.fresh : AutoRange := ⟨0, 0, false, [], none⟩

/-- A move at rest at 0. -/
def Move.rest : Move := ⟨0, 0, 0⟩

/-- An outer loop that has seen nothing. -/
def Outer.fresh : Outer := ⟨0, 0, 0, 0, 0, 0, 0, 0, 0, none, none, false, 0, false, false⟩

/-- A repetitive controller at the start of its period. -/
def Repet.fresh : Repet := ⟨0, 0, true, 0, 0, none, []⟩

/-- Supervision that has judged nothing. -/
def Supervise.fresh : Supervise := ⟨0, none, 0, none, 0, false⟩

/-- A channel from power-up. -/
def Chan.fresh : Chan where
  cur := .fresh
  other := .fresh
  wrote := false
  started := false
  rehist := false
  predRun := 0
  lastV := 0
  lastI := 0
  goodV := 0
  goodAt := 0
  code := 0
  codeRange := 0
  sentActive := false
  delay := none
  ref := 0
  ref1 := 0
  ref2 := 0
  exitRun := 0
  compFrames := 0
  compNoticed := false
  overRuns := [0, 0, 0, 0, 0]
  eventTrip := none
  extrapNoticed := false
  ramp := .none
  relayBy := 0
  undoing := .none
  disarmHeld := none
  relayCmd := false
  relay := 0
  temp := 0
  tempValid := false
  tempAt := 0
  alert := false
  rxErr := none
  rp := false
  fq := 2
  fqFrames := 0
  erred := false
  upBlock := 0
  connV := 0
  connI := 0
  zero := false
  left := 0
  heldSince := 0
  change := none
  waitV := none
  waitI := none
  swap := none
  autoV := .fresh
  autoI := .fresh
  pairs := []
  extraps := []
  pairWaits := []
  uncalArm := false
  lacking := none
  sumI := 0
  sumV := 0
  goodFrames := 0
  cond := none
  codes := []
  acc := 0
  target := 0
  heldTarget := none
  innerMove := .rest
  limPos := .rest
  limNeg := .rest
  outer := .fresh
  repet := .fresh
  supv := .fresh

/-- Channel c beside its fields. -/
def State.chan (s : State) (c : Nat) : Chan := findD s.chans Chan.fresh c

/-- Replace channel c's part beside its fields. -/
def State.setChan (s : State) (c : Nat) (x : Chan) : State := { s with chans := store s.chans Chan.fresh c x }

/-! ## Modes (R52-R58) -/

/-- FORCE_MODE of channel c: 0 NONE, 1 FV, 2 FI, 3 CP, 4 CR, 5 THERMAL, 6 OPEN, 7 MONITOR, 8 VECTOR. -/
def State.mode (s : State) (c : Nat) : Nat := s.rf .chan c 0 27 24

/-- INNER names the current (R58). -/
def State.innerCurrent (s : State) (c : Nat) : Bool := s.rf .chan c 0 23 22 == 1

/-- SENSE. -/
def State.sense (s : State) (c : Nat) : Bool := s.rb .chan c 0 21

/-- The set-point comes from the channel sequencer. -/
def State.srcSeq (s : State) (c : Nat) : Bool := s.rf .chan c 0 20 19 == 1

/-- REPET_EN, NOTCH_EN, PROFILE_EN, SUPV_EN and POLARITY. -/
def State.repetEn (s : State) (c : Nat) : Bool := s.rb .chan c 0 18
/-- NOTCH_EN. -/
def State.notchEn (s : State) (c : Nat) : Bool := s.rb .chan c 0 17
/-- PROFILE_EN. -/
def State.profileEn (s : State) (c : Nat) : Bool := s.rb .chan c 0 16
/-- SUPV_EN. -/
def State.supvEn (s : State) (c : Nat) : Bool := s.rb .chan c 0 15
/-- POLARITY. -/
def State.polarity (s : State) (c : Nat) : Bool := s.rb .chan c 0 14

/-- The closed-loop modes FV, FI, CP, CR and THERMAL. -/
def closedLoop (mode : Nat) : Bool := 1 ≤ mode && mode ≤ 5

/-- The forced quantity of a mode (R52): none, or whether it is the current. -/
def forcedIn (mode : Nat) (innerCurrent : Bool) : Option Bool :=
  match mode with
  | 1 | 8 => some false
  | 2 => some true
  | 3 | 4 | 5 | 6 => some innerCurrent
  | _ => none

/-- The forced quantity of channel c. -/
def State.forced (s : State) (c : Nat) : Option Bool := forcedIn (s.mode c) (s.innerCurrent c)

/-- The forced quantity is the current. -/
def State.forcesCurrent (s : State) (c : Nat) : Bool := s.forced c == some true

/-- Whether an outer loop sets the inner set-point (R53). -/
def outerIn (mode : Nat) (sense : Bool) : Bool := (3 ≤ mode && mode ≤ 5) || (mode = 1 && sense)

/-- Whether channel c's outer loop runs. -/
def State.outerOn (s : State) (c : Nat) : Bool := outerIn (s.mode c) (s.sense c)

/-- FQ of the downstream frames (R460): 0 voltage, 1 current, 2 none, 3 vector. -/
def State.fqOf (s : State) (c : Nat) : Nat :=
  if s.mode c = 8 then 3
  else match s.forced c with
    | some false => 0
    | some true => 1
    | none => 2

/-- INERT (R99, R100): the enabled features that have no meaning in the applied mode. Compliance, acquisition and calibration
are always enabled. -/
def State.inert (s : State) (c : Nat) : Nat :=
  let auto := s.rb .chan c 1 7 || s.rb .chan c 1 6
  let bits (sense repet notch profile src auto comp sup : Bool) : Nat :=
    sense.toNat * 2 ^ 9 + repet.toNat * 2 ^ 8 + notch.toNat * 2 ^ 7 + profile.toNat * 2 ^ 6 + src.toNat * 2 ^ 5 +
      auto.toNat * 2 ^ 4 + comp.toNat * 2 ^ 3 + sup.toNat * 2
  match s.mode c with
  | 6 => bits false (s.repetEn c) (s.notchEn c) false false false false false
  | 7 => bits false (s.repetEn c) (s.notchEn c) (s.profileEn c) false false true false
  | 8 => bits (s.sense c) (s.repetEn c) (s.notchEn c) (s.profileEn c) false auto false (s.supvEn c)
  | _ => 0

/-! ## The capability descriptor (R66, R67, R476) -/

/-- The descriptor last accepted for channel c. -/
def State.desc (s : State) (c : Nat) : Option (List Block) := find s.descs c

/-- Bits [hi:lo] of word i of a descriptor. -/
def descBits (d : List Block) (i hi lo : Nat) : Nat := bitsOf (d.getD i 0).toNat hi lo

/-- Bits of the descriptor of channel c; 0 where none was accepted. -/
def State.descField (s : State) (c i hi lo : Nat) : Nat :=
  match s.desc c with
  | some d => descBits d i hi lo
  | none => 0

/-- The first descriptor word of a range entry: VR[n] from word 8, IR[n] from word 40 (R476). -/
def rangeWord (current : Bool) (n : Nat) : Nat := (if current then 40 else 8) + 2 * n

/-- FULL_SCALE of a range (R66). -/
def State.fullScale (s : State) (c : Nat) (current : Bool) (n : Nat) : Word :=
  word (s.descField c (rangeWord current n) 63 32)

/-- COMP_MAX of a range. -/
def State.compMax (s : State) (c : Nat) (current : Bool) (n : Nat) : Word :=
  word (s.descField c (rangeWord current n) 31 0)

/-- OVERLAP of a range in 0.1 µs. -/
def State.overlap (s : State) (c : Nat) (current : Bool) (n : Nat) : Nat :=
  s.descField c (rangeWord current n + 1) 63 48

/-- CAP of a range. -/
def State.rangeCap (s : State) (c : Nat) (current : Bool) (n : Nat) : Nat :=
  s.descField c (rangeWord current n + 1) 31 30

/-- The number of ranges of a quantity a descriptor declares. -/
def descRanges (d : List Block) (current : Bool) : Nat :=
  (if current then descBits d 3 59 56 else descBits d 3 63 60) + 1

/-- The number of ranges of a quantity of channel c's head; 0 where no descriptor was accepted. -/
def State.rangeCount (s : State) (c : Nat) (current : Bool) : Nat :=
  match s.desc c with
  | some d => descRanges d current
  | none => 0

/-- The head reports its temperature (R476). -/
def State.tempReport (s : State) (c : Nat) : Bool := s.descField c 3 55 55 == 1

/-- LINK_STATUS.STATE (R487): 0 DISABLED, 1 RESET, 2 TRAINING, 3 DESCRIPTOR, 4 TRAINED, 5 WAIT, 6 CHANGED. -/
def State.linkState (s : State) (c : Nat) : Nat := s.rf .chan c 0x52 31 28

/-- The link of channel c is trained. -/
def State.trained (s : State) (c : Nat) : Bool := s.linkState c == 4

/-! ## States (R76, R77) -/

/-- CHAN.STATE. -/
def State.chState (s : State) (c : Nat) : Nat := s.rf .chan c 0x20 3 0

/-- Write CHAN.STATE. -/
def State.setChState (s : State) (c v : Nat) : State := s.setRf .chan c 0x20 3 0 v

/-- The states of CHAN.STATE. -/
def chLinkDown : Nat := 0
/-- UNCONFIGURED. -/
def chUnconfigured : Nat := 1
/-- READY. -/
def chReady : Nat := 2
/-- ARMING. -/
def chArming : Nat := 3
/-- ARMED. -/
def chArmed : Nat := 4
/-- DISARMING. -/
def chDisarming : Nat := 5
/-- HELD. -/
def chHeld : Nat := 6
/-- TRIPPED. -/
def chTripped : Nat := 7

/-- ARMING, ARMED or DISARMING: the engine computes frames. -/
def State.active (s : State) (c : Nat) : Bool := s.chState c == 3 || s.chState c == 4 || s.chState c == 5

/-- ARMING, ARMED, DISARMING or HELD. -/
def State.busyChan (s : State) (c : Nat) : Bool := s.active c || s.chState c == 6

/-! ## Ranges (R59, R194, R210-R213) -/

/-- The range of a quantity that group 0 selects. -/
def State.selRange (s : State) (c : Nat) (current : Bool) : Nat :=
  if current then s.rf .chan c 1 27 24 else s.rf .chan c 1 31 28

/-- AUTO_V or AUTO_I. -/
def State.autoOn (s : State) (c : Nat) (current : Bool) : Bool := s.rb .chan c 1 (if current then 6 else 7)

/-- The auto-ranging span of a quantity: lowest and highest range. -/
def State.autoSpan (s : State) (c : Nat) (current : Bool) : Nat × Nat :=
  if current then (s.rf .chan c 1 15 12, s.rf .chan c 1 11 8) else (s.rf .chan c 1 23 20, s.rf .chan c 1 19 16)

/-- The range the head last reported active. -/
def State.activeRange (s : State) (c : Nat) (current : Bool) : Nat :=
  if current then s.rf .chan c 0x21 27 24 else s.rf .chan c 0x21 31 28

/-- The range of a quantity that the head last reported connected (R221, R461). -/
def State.connected (s : State) (c : Nat) (current : Bool) : Nat := if current then (s.chan c).connI else (s.chan c).connV

/-- Write the active range. -/
def State.setActive (s : State) (c : Nat) (current : Bool) (r : Nat) : State :=
  if current then s.setRf .chan c 0x21 27 24 r else s.setRf .chan c 0x21 31 28 r

/-- Write the range requested. -/
def State.setTarget (s : State) (c : Nat) (current : Bool) (r : Nat) : State :=
  if current then s.setRf .chan c 0x21 19 16 r else s.setRf .chan c 0x21 23 20 r

/-- The range requested from the head. -/
def State.targetRange (s : State) (c : Nat) (current : Bool) : Nat :=
  if current then s.rf .chan c 0x21 19 16 else s.rf .chan c 0x21 23 20

/-- STATUS.RANGING. -/
def State.ranging (s : State) (c : Nat) : Bool := s.rb .chan c 0x21 15

/-- STATUS.IN_COMPLIANCE. -/
def State.inCompliance (s : State) (c : Nat) : Bool := s.rb .chan c 0x21 12

/-- up / 1024 × FULL_SCALE of a range, exactly. -/
def State.upBoundAt (s : State) (c : Nat) (current : Bool) (r up : Nat) : Num :=
  (numOf up (-10)).mul (val (s.fullScale c current r))

/-- AR_CFG.UP of the bank of channel c. -/
def State.arUp (s : State) (c : Nat) : Nat := s.rf .bank (bankOf c) 0x30 31 22

/-- UP / 1024 × FULL_SCALE of a range, exactly (R210). -/
def State.upBound (s : State) (c : Nat) (current : Bool) (r : Nat) : Num := s.upBoundAt c current r (s.arUp c)

/-- DOWN / 1024 × FULL_SCALE of a range, exactly. -/
def State.downBound (s : State) (c : Nat) (current : Bool) (r : Nat) : Num :=
  (numOf (s.rf .bank (bankOf c) 0x30 21 12) (-10)).mul (val (s.fullScale c current r))

/-- max(|COMP_POS|, |COMP_NEG|). -/
def State.compReach (s : State) (c : Nat) : Word := fmax (fabs (s.reg .chan c 2)) (fabs (s.reg .chan c 3))

/-- a ≤ b of exact values. -/
def Num.le (a b : Num) : Bool := a.lt b || a.eqv b

/-- The ranges lo to hi. -/
def rangesOf (span : Nat × Nat) : List Nat := (upto 16).filter fun r => span.1 ≤ r && r ≤ span.2

/-- The compliance floor (R213). -/
def State.compFloor (s : State) (c : Nat) (current : Bool) : Nat :=
  let span := s.autoSpan c current
  ((rangesOf span).find? fun r => (val (s.compReach c)).le (s.upBound c current r)).getD span.2

/-- Whether a quantity is the compliance quantity: the complement of the forced one (R52). -/
def State.isCompQty (s : State) (c : Nat) (current : Bool) : Bool := s.forced c == some (!current)

/-- The eligible ranges of an auto-ranged quantity, lowest first (R212). -/
def State.eligible (s : State) (c : Nat) (current : Bool) : List Nat :=
  (rangesOf (s.autoSpan c current)).filter fun r =>
    if s.forced c == some current then
      s.rangeCap c current r == 3 && fle (s.compReach c) (s.compMax c current r)
    else if s.isCompQty c current then decide (s.compFloor c current ≤ r)
    else true

/-- Whether auto-ranging of a quantity acts in the mode (R99 notes i and l): not of the forced quantity in OPEN, not in
VECTOR. -/
def State.autoActs (s : State) (c : Nat) (current : Bool) : Bool :=
  s.autoOn c current && s.mode c != 8 && !(s.mode c == 6 && s.forced c == some current)

/-- The ranges of a quantity that RANGE and its enabled auto-ranging span can reach (R82, R131). -/
def State.reachable (s : State) (c : Nat) (current : Bool) : List Nat :=
  (s.selRange c current :: if s.autoOn c current then rangesOf (s.autoSpan c current) else []).eraseDups

/-- The full scale that bounds set-points of the forced quantity: that of the selected range, or of the highest eligible one
where it is auto-ranged (R64, R220). -/
def State.forceSpan (s : State) (c : Nat) (current : Bool) : Word :=
  if s.autoOn c current then s.fullScale c current ((s.eligible c current).getLastD (s.selRange c current))
  else s.fullScale c current (s.selRange c current)

/-- The span R64 and R220 set on set-points of channel c: none in NONE, MONITOR and VECTOR, and none against a full scale
while no descriptor has been accepted (R716). Above 0 there is no bound in CP, CR and THERMAL. -/
def State.spSpan (s : State) (c : Nat) : Option (Word × Option Word) :=
  match s.mode c with
  | 1 | 2 | 6 =>
    if (s.desc c).isNone then none
    else
      let full := s.forceSpan c (s.forcesCurrent c)
      some (full ^^^ 0x80000000, some full)
  | 3 | 4 | 5 => some (0, none)
  | _ => none

/-- Whether a set-point keeps R55, R64 and R220. -/
def State.spOk (s : State) (c : Nat) (v : Word) : Bool :=
  match s.spSpan c with
  | some (lo, some hi) => fle lo v && fle v hi
  | some (lo, none) => fle lo v && !(s.mode c == 4 && feq v 0)
  | none => true

/-- The span of R64 and R220 against the ranges in force (R270): the active forced range on a channel that is ARMING, ARMED,
DISARMING or HELD (DEDUCED, log entry 48). -/
def State.clampSpan (s : State) (c : Nat) : Option (Word × Option Word) :=
  let q := s.forcesCurrent c
  match s.spSpan c with
  | some (lo, some hi) =>
    if s.busyChan c && !s.autoOn c q then
      let full := s.fullScale c q (s.activeRange c q)
      some (full ^^^ 0x80000000, some full)
    else some (lo, some hi)
  | x => x

/-- A source value clamped to the limits of R64, and whether it was (R270). -/
def State.spClamp (s : State) (c : Nat) (v : Word) : Word × Bool :=
  match s.clampSpan c with
  | some (lo, some hi) => if flt v lo then (lo, true) else if flt hi v then (hi, true) else (v, false)
  | some (lo, none) => if flt v lo then (lo, true) else (v, false)
  | none => (v, false)

/-- ENGINE[o], or the spare of its bank, serves octet o (R711): the engine's number, if any does. -/
def State.engineOf (s : State) (o : Nat) : Option Nat :=
  if s.rf .engine o 0 3 0 = 0 then some o
  else
    let spare := 64 + o / 8
    if s.rf .engine spare 0 3 0 = 2 && s.rf .engine spare 0 15 8 = o then some spare else none

/-- The source identifier of event e of channel c (R332). -/
def chanSource (c e : Nat) : Nat := mkId 5 (8 * c + e)

/-- Event e of channel c fires at the start of the channel's frame. -/
def State.fireChan (s : State) (c e : Nat) : State := s.fire (chanSource c e) (s.chanCycle c)

/-! ## Actions of supervision (R185, R191-R193) -/

/-- STATUS.PHASE: 0 none, 1 start-up, 2 test, 3 recovery. -/
def State.phase (s : State) (c : Nat) : Nat := s.rf .profile c 0x20 7 6

/-- x_CTL of a phase. -/
def State.phaseCtl (s : State) (c phase : Nat) : Word :=
  s.reg .profile c (if phase = 1 then 0x17 else if phase = 3 then 0x1D else 0x1A)

/-- The following-error action is counted and its timer restarts. -/
def State.followActs (s : State) (c : Nat) : State :=
  ((s.count .profile c 0x24).setRb .profile c 0x20 3 false).setChan c
    { s.chan c with supv := { (s.chan c).supv with feTimer := 0, feDue := none } }

/-- The plausibility action is counted and its count restarts. -/
def State.plausActs (s : State) (c : Nat) : State :=
  (s.count .profile c 0x25).setChan c { s.chan c with supv := { (s.chan c).supv with implausible := 0, plDue := none } }

/-- FE_ACTION is a trip. -/
def State.followTrips (s : State) (c : Nat) : Bool := s.rf .profile c 0x10 15 14 == 1

/-- ACTION of a phase: 0 off, 1 notice, 2 trip. -/
def State.plausAction (s : State) (c phase : Nat) : Nat := fld (s.phaseCtl c phase) 15 14

/-- N_FOLLOW. -/
def State.noticeFollow (s : State) (c : Nat) (fe : Word) : State := s.notify 0x0106 .chan c [fe.toNat]

/-- N_IMPLAUSIBLE. -/
def State.noticePlaus (s : State) (c : Nat) (d : Nat × Word) : State := s.notify 0x0107 .chan c [d.1, d.2.toNat]

/-- Supervision that acts in the frame of another trip only counts; its notice actions are sent (R193). -/
def State.absorbSupervision (s : State) (c : Nat) : State :=
  let x := (s.chan c).supv
  let s : State := match x.feDue with
    | some fe => let s := s.followActs c; if s.followTrips c then s else s.noticeFollow c fe
    | none => s
  match x.plDue with
  | some d => let s := s.plausActs c; if s.plausAction c d.1 = 1 then s.noticePlaus c d else s
  | none => s

/-! ## Ranges in use and EXTRAP (R233, R236) -/

/-- The key of a range among pairs: 16 × quantity + range. -/
def rangeKey (current : Bool) (n : Nat) : Nat := current.toNat * 16 + n

/-- The ranges in use: the active ones and the target of a change in progress (R233). -/
def State.rangesInUse (s : State) (c : Nat) : List (Bool × Nat) :=
  [(false, s.activeRange c false), (true, s.activeRange c true)] ++
    match (s.chan c).change with
    | some k => if k.target = s.activeRange c k.current then [] else [(k.current, k.target)]
    | none => []

/-- The keys of the ranges in use. -/
def State.keysInUse (s : State) (c : Nat) : List Nat := (s.rangesInUse c).map fun q => rangeKey q.1 q.2

/-- STATUS.EXTRAP of channel c: pairs in effect of a range in use come from an evaluation that extrapolated (R236). Of a range
that is in use no longer nothing is kept. -/
def State.showExtrap (s : State) (c : Nat) : State :=
  let left := (s.chan c).extraps.filter (s.keysInUse c).contains
  (s.setChan c { s.chan c with extraps := left }).setRb .chan c 0x21 14 (!left.isEmpty)

/-! ## Ends of a run -/

/-- A range change is abandoned (R209): the targets fall back to the active ranges, and no swap is to come. -/
def State.abandonChange (s : State) (c : Nat) : State :=
  let s := ((s.setTarget c false (s.activeRange c false)).setTarget c true (s.activeRange c true)).setRb .chan c 0x21 15 false
  let s := s.setRb .loop c 0x40 11 false
  (s.setChan c { s.chan c with change := none, waitV := none, waitI := none, swap := none, heldTarget := none }).showExtrap c

/-- What every way out of a running state leaves behind: no arming or disarming in progress, the relay commanded open, no
compliance (R70), supervision in no phase, no compliance limit moving and no hand-off (R147, R183), the pairs in effect as they
are (R715). The bits of LOOP.STATUS that speak of the last
frame keep those of the last active frame (DESIGN CHOICE, log entry 98). -/
def State.stopRun (s : State) (c : Nat) : State :=
  let s := ((s.abandonChange c).setRf .profile c 0x20 7 6 0).setRb .chan c 0x21 12 false
  let s := (s.setRb .profile c 0x20 4 false).setRb .outer c 0x20 4 false
  let s := s.setChan c { s.chan c with
    ramp := .none, undoing := .none, disarmHeld := none, relayCmd := false, zero := false, started := false,
    predRun := 0, overRuns := [0, 0, 0, 0, 0], eventTrip := none, exitRun := 0, compFrames := 0, pairWaits := [],
    supv := { (s.chan c).supv with feDue := none, plDue := none, implausible := 0 },
    outer := { (s.chan c).outer with due := false }, repet := { (s.chan c).repet with done := none } }
  s.setRb .loop c 0x40 10 false

/-- The limit a trip names in N_PROTECT (R612). -/
inductive Limit where
  | vHi | vLo | current | headTemp | crossTime | range | thermSrc | follow | plaus | underrun | event | alert | engine
  | state | thermal
  deriving DecidableEq, Repr

/-- P0 of N_PROTECT. -/
def Limit.code : Limit → Nat
  | .vHi => 0x01 | .vLo => 0x02 | .current => 0x03 | .headTemp => 0x04 | .crossTime => 0x05 | .range => 0x06
  | .thermSrc => 0x07 | .follow => 0x08 | .plaus => 0x09 | .underrun => 0x0A | .event => 0x0B | .alert => 0x0C
  | .engine => 0x0D | .state => 0x0E | .thermal => 0x0F

/-- A trip is counted and told (R73, R612): TRIP_COUNT, STATUS.TRIPPED, N_PROTECT with a value and a cause code where there
is one, source trip. -/
def State.countTrip (s : State) (c : Nat) (l : Limit) (value : Word) (cause : Nat) : State :=
  let s := (s.count .chan c 0x24).setRb .chan c 0x21 11 true
  (s.notify 0x0101 .chan c [l.code, value.toNat, cause]).fireChan c 2

/-- The channel is commanded safe and enters TRIPPED (R74); supervision due in the same frame is counted (R193). -/
def State.tripSafe (s : State) (c : Nat) (l : Limit) (value : Word := 0) (cause : Nat := 0) : State :=
  if s.busyChan c then (((s.absorbSupervision c).countTrip c l value cause).stopRun c).setChState c chTripped else s

/-- A channel trips as if a protection limit had been exceeded (R73) and acts by PROT_ACTION: SAFE (R74), or ZERO, under
which it stays in its state with its set-point moving to 0 (R75). -/
def State.trip (s : State) (c : Nat) (l : Limit) (value : Word := 0) : State :=
  if !s.active c then s
  else if s.rf .chan c 7 15 14 = 1 then
    let s := (s.absorbSupervision c).countTrip c l value 0
    s.setChan c { s.chan c with zero := true, overRuns := [0, 0, 0, 0, 0], compFrames := 0, eventTrip := none }
  else s.tripSafe c l value

end Sys2Proof.Machine
end

