-- ==== Sys2Proof/Config.lean ====
section
/-!
DEFINITION. What an implementation of the TH512 fixes, and the values the manual leaves open. None of these has a body, so
nothing proved about the model rests on a value of one of them (DESIGN CHOICE, log entry 1).
-/

namespace Sys2Proof.Config

/-- The n-th free word drawn where the manual states no value of a result. -/
opaque freeWord : Nat → BitVec 32

/-- The n-th free choice among several the manual allows: a number to be reduced modulo their count. -/
opaque choice : Nat → Nat

/-- The n-th device nonce of SESSION.OPEN (R589, R595). -/
opaque deviceNonce : Nat → BitVec 128

/-- The firmware task that serves a command, by its code (R551, R627). -/
opaque servingTask : Nat → Nat

/-- SERIAL, DIE_ID and STEPPING, fused into each device (R578, R635). -/
opaque serial : BitVec 32

/-- DIE_ID (R578). -/
opaque dieId : BitVec 64

/-- The port identity of the device's PTP ordinary clock (R497; log entry 135). -/
opaque ptpIdentity : BitVec 80

/-- STEPPING, two ASCII bytes (R578, R635). -/
opaque stepping : BitVec 16

/-- The taps of the POLY filter: the weight of input sample k - t in phase set p, for p = 0 to 32 and t = 0 to 15; set 32 is set 0 of
the next sample (R283). The manual gives the filter's passband and stopband and not its taps. -/
opaque polyTap : Nat → Nat → Word

/-- The four public keys the boot ROM holds, as points of P-384 (R659). -/
opaque publicKey : Nat → Nat × Nat

/-- The fused revocation bit of each key (R659). -/
opaque keyRevoked : Nat → Bool

/-- The fused minimum security version (R659). -/
opaque minSecurity : Nat

end Sys2Proof.Config
end

