-- ==== Sys2Proof/Machine/Protocol.lean ====
section
/-!
DEFINITION. The Roris mailbox protocol around every command: errors and refusal bodies, sessions, buckets, order,
retransmission and replies (R587-R602, R632), and how sessions end and masters are frozen (R550, R598).
-/

namespace Sys2Proof.Machine

/-! ## Errors, refusals and answers -/

/-- The errors of R632. -/
inductive Err where
  | format | seq | retry | noCommand | tooBig | reserved
  | noObject | noField | cls | readOnly | limit | busy
  | stagedByOther | nothingStaged | commitFull
  | tooLate | notAdmitted
  | badMode | modeArmed | noRange | budget | noCoef | notReady | noCal
  | calFull | calCrc | calFormat
  | overlap | noCache | prefetch | program | notResident | listFull
  | routeCycle | routeTarget
  | timeSource
  | headTimeout | headRefused
  | frozen | notFrozen | locked | lockFull | notOrphaned
  | sessionFull | noRecord
  deriving DecidableEq, Repr

/-- The code of an error (R632). -/
def Err.code : Err → Nat
  | .format => 0x01 | .seq => 0x02 | .retry => 0x03 | .noCommand => 0x04 | .tooBig => 0x05 | .reserved => 0x06
  | .noObject => 0x10 | .noField => 0x11 | .cls => 0x12 | .readOnly => 0x13 | .limit => 0x14 | .busy => 0x15
  | .stagedByOther => 0x20 | .nothingStaged => 0x21 | .commitFull => 0x22
  | .tooLate => 0x30 | .notAdmitted => 0x31
  | .badMode => 0x40 | .modeArmed => 0x41 | .noRange => 0x42 | .budget => 0x43 | .noCoef => 0x44 | .notReady => 0x45
  | .noCal => 0x46
  | .calFull => 0x50 | .calCrc => 0x51 | .calFormat => 0x52
  | .overlap => 0x60 | .noCache => 0x61 | .prefetch => 0x62 | .program => 0x63 | .notResident => 0x64 | .listFull => 0x65
  | .routeCycle => 0x70 | .routeTarget => 0x71
  | .timeSource => 0x80
  | .headTimeout => 0x90 | .headRefused => 0x91
  | .frozen => 0xA0 | .notFrozen => 0xA1 | .locked => 0xA2 | .lockFull => 0xA3 | .notOrphaned => 0xA4
  | .sessionFull => 0xB0 | .noRecord => 0xC0

/-- A refusal: its error and the refusal body's fields (R602), 0 where they do not apply and GROUP 0xFF for none. -/
structure Denial where
  err : Err
  resource : Nat := 0
  item : Nat := 0
  obj : Nat := 0
  group : Nat := 0xFF
  inst : Nat := 0
  field : Nat := 0
  need : Nat := 0
  avail : Nat := 0
  earliest : Nat := 0
  deriving DecidableEq, Repr

/-- The refusal body (R602). -/
def Denial.body (d : Denial) : List Word :=
  [word (d.resource * 2 ^ 24 + d.item % 2 ^ 16), word (d.obj * 2 ^ 24 + d.group * 2 ^ 16 + d.inst), word (d.field * 2 ^ 16),
   word (min (2 ^ 32 - 1) d.need), word (min (2 ^ 32 - 1) d.avail)] ++ wordsOf 2 d.earliest

/-- What a command that is not refused gives: the state, its reply body, and the reply's TIME where it is not the first
device frame boundary after now (R601). later says that the reply follows when the command's work ends. -/
structure Done where
  state : State
  body : List Word := []
  time : Option Nat := none
  later : Bool := false

/-- A command's work: a refusal changes nothing. -/
abbrev Work := Except Denial Done

/-- Refuse with an error and no particulars. -/
def refuse (e : Err) : Except Denial α := .error { err := e }

/-- Refuse with an error unless a condition holds. -/
def demand (b : Bool) (d : Denial) : Except Denial Unit := if b then .ok () else .error d

/-- Refuse with a bare error unless a condition holds. -/
def require (b : Bool) (e : Err) : Except Denial Unit := demand b { err := e }

/-- Run a check over a list in order, stopping at the first refusal. -/
def checkAll (l : List α) (f : α → Except Denial Unit) : Except Denial Unit :=
  match l with
  | [] => .ok ()
  | a :: r => match f a with
    | .ok _ => checkAll r f
    | .error d => .error d

/-- A check of item k of a request: its refusal names the item (R602). -/
def ofItem (k : Nat) (x : Except Denial α) : Except Denial α :=
  match x with
  | .ok a => .ok a
  | .error d => .error { d with item := k }

/-- Check the items of a request in order, stopping at the first refusal, which names its item (R602). -/
def checkItems (l : List α) (f : α → Except Denial Unit) : Except Denial Unit := checkAll l.zipIdx fun p => ofItem p.2 (f p.1)

/-! ## Command codes (R623, R624, R627) -/

/-- CODE of a command. -/
def HostCmd.code : HostCmd → Nat
  | .sessionOpen => 0x0010 | .sessionClose => 0x0011 | .sessionPing => 0x0012
  | .read o => o * 256 + 1 | .write o => o * 256 + 2 | .stage o => o * 256 + 3
  | .commit => 0x0110 | .discard => 0x0111 | .caps => 0x0112
  | .calWrite => 0x0120 | .calSeal => 0x0121 | .calFree => 0x0122 | .calInfo => 0x0123
  | .thaw => 0x0130 | .masterReset => 0x0131 | .faultRead => 0x0132 | .noticeRead => 0x0133
  | .arm => 0x1010 | .disarm => 0x1011 | .chanClear => 0x1012 | .headRead => 0x1013 | .headWrite => 0x1014
  | .engineRetire => 0x1310
  | .seqRun => 0x3010 | .seqStop => 0x3011 | .seqResume => 0x3012
  | .bseqRun => 0x3110 | .bseqStop => 0x3111 | .bseqResume => 0x3112
  | .vecWrite => 0x3120 | .laneWrite => 0x3121 | .captRead => 0x3122
  | .listWrite => 0x3220
  | .acqArm => 0x4010 | .acqStop => 0x4011 | .acqForce => 0x4012
  | .sinkRead => 0x5020 | .sinkClear => 0x5021
  | .fifoFlush => 0x6010 | .spoolRead => 0x6120 | .spoolAck => 0x6121 | .spoolDiscard => 0x6122
  | .journalOpen => 0x6210 | .journalRead => 0x6220
  | .arbRead => 0x7020 | .arbClear => 0x7021
  | .lockTake => 0x7110 | .lockRenew => 0x7111 | .lockRelease => 0x7112 | .lockReclaim => 0x7113
  | .hkRun => 0x8010 | .hkStop => 0x8011 | .hkConvert => 0x8012
  | .aoutRun => 0x8110 | .aoutStop => 0x8111 | .waveWrite => 0x8120
  | .timeLoad => 0x9010 | .syncCalibrate => 0x9110

/-- Whether a command may carry an AT (R624, R627). -/
def HostCmd.takesAt : HostCmd → Bool
  | .commit | .arm | .disarm | .seqRun | .seqStop | .bseqRun | .bseqStop | .acqArm | .acqStop | .acqForce => true
  | _ => false

/-- Whether a command releases a frozen master, or opens a session to do so: a frozen task does not keep it from acting (R552; DEDUCED, log
entry 134). -/
def HostCmd.releases : HostCmd → Bool
  | .thaw | .masterReset | .sessionOpen => true
  | _ => false

/-! ## Sending replies -/

/-- The bytes a request's tag is taken over (R587, R588). -/
def Req.bytes (r : Req) : List Byte :=
  bytesOf 2 r.env.magic.toNat ++ bytesOf 1 r.env.version.toNat ++ bytesOf 1 r.env.kind.toNat ++
  bytesOf 2 r.env.session.toNat ++ bytesOf 2 r.env.length.toNat ++ bytesOf 4 r.env.seq.toNat ++ bytesOf 2 r.cmd.code ++
  bytesOf 2 r.env.ctl.toNat ++ bytesOf 8 r.env.atField.toNat ++ wordBytes r.body ++ r.env.tail

/-- Whether a request's TAG is that of a key (R588). -/
def Req.tagOk (key : List Byte) (r : Req) : Bool := ofBytes ((hmacSha256 key r.bytes).take 16) == r.env.tag.toNat

/-- The UDP payload length a request's parts add up to. -/
def Req.size (r : Req) : Nat := 40 + 4 * r.body.length + r.env.tail.length

/-- The reply to a request (R601, R602): it goes to the request's source, out of a port (R562, R584, R585). -/
def replyTo (key : List Byte) (r : Req) (p : Port) (status time : Nat) (body : List Word) : OutMsg :=
  rmp key { r.env.src with port := p } r.env.src.udp 2 r.env.session.toNat r.env.seq.toNat r.cmd.code status time body

/-- The port the host of a request's session was last heard on (R562); without a session, the port the request came by. -/
def State.replyPort (s : State) (r : Req) : Port :=
  match s.session r.env.session.toNat with
  | some x => x.src.port
  | none => r.env.src.port

/-- Whether a SEQ lies among the 64 before NEXT (R599). -/
def Session.recent (x : Session) (seq : Nat) : Bool := decide (2 ^ 32 - 64 ≤ (seq + 2 ^ 32 - x.next) % 2 ^ 32)

/-- A session that keeps one more reply, with those of the 64 requests before NEXT (R599). -/
def Session.keep (x : Session) (seq : Nat) (m : OutMsg) : Session :=
  { x with replies := (x.replies ++ [(seq, m)]).filter (fun e => x.recent e.1), executing := x.executing.filter (· != seq) }

/-- Send a reply that is not kept. -/
def State.replyOnce (s : State) (key : List Byte) (r : Req) (status time : Nat) (body : List Word) : State :=
  s.send (s.replyPort r) 3 (replyTo key r (s.replyPort r) status time body)

/-- Send a reply and keep it with its session (R599). -/
def State.reply (s : State) (n : Nat) (key : List Byte) (r : Req) (status time : Nat) (body : List Word) : State :=
  let p := s.replyPort r
  let m := replyTo key r p status time body
  let s := match s.session n with
    | some x => s.setSession n (x.keep r.env.seq.toNat m)
    | none => s
  s.send p 3 m

/-! ## Frozen masters, locks and the end of a session -/

/-- Locks of an owner become ORPHANED, each with N_LOCK_ORPHANED (R554). -/
def State.orphanLocks (s : State) (owner : Nat) : State :=
  s.each s.faults.locks fun s e =>
    if e.2.owner = owner && e.2.leaseEnds.isSome then
      let s := { s with faults := { s.faults with
        locks := insertKey s.faults.locks e.1 { e.2 with leaseEnds := none } } }
      s.notify 0x0602 .lock e.1 [objCode e.2.obj * 2 ^ 24 + e.2.inst, owner]
    else s

/-- Freeze a master with a violation code: 1 RATE, 2 GRANT, 3 REGION (R550, R568). -/
def State.freeze (s : State) (master violation : Nat) : State :=
  if s.isFrozen master then s
  else
    let s := { s with
      faults := { s.faults with frozen := insertKey s.faults.frozen master violation }
      arb := { s.arb with queue := s.arb.queue.filter fun q => q.master != master } }
    let s := s.logFault (0x0900 + violation) true 0 master 1
    s.notify 0x0601 .dev 0 [master, violation]

/-- Freeze a session for its rate: the requests it holds are dropped and its locks expire (R551, R554, R597, R622). -/
def State.freezeSession (s : State) (n : Nat) : State :=
  let s := match s.session n with
    | some x => s.setSession n { x with held := [] }
    | none => s
  (s.freeze (sessionMaster n) 1).orphanLocks (sessionMaster n)

/-- Release a frozen master. -/
def State.unfreeze (s : State) (master : Nat) : State :=
  { s with faults := { s.faults with frozen := eraseKey s.faults.frozen master } }

/-- A ticket of a session that ends belongs to no session any more. -/
def Ticket.leave (n : Nat) (t : Ticket) : Ticket := if t.session = n then { t with session := 0, answer := none } else t

/-- A session ends, for cause 1 close, 2 timeout, 3 master reset or 4 firmware restart: its staged groups are discarded, its
tickets belong to no session any more, its locks are orphaned, and the other sessions are told (R38, R49, R554, R598). -/
def State.endSession (s : State) (n cause : Nat) : State :=
  match s.session n with
  | none => s
  | some _ =>
    let sessions := eraseKey s.host.sessions n
    let s := { s with host := { s.host with sessions := sessions } }
    let s := { s with commits := { s.commits with
      staging := s.commits.staging.filter fun g => g.owner != n,
      tickets := s.commits.tickets.map (Ticket.leave n) } }
    let s := (s.unfreeze (sessionMaster n)).orphanLocks (sessionMaster n)
    let s := if sessions.isEmpty then
        { s with faults := { s.faults with hostIdle := some s.clock, hostActed := false } } else s
    s.notify 0x0604 .dev 0 [n, cause]

/-! ## Opening a session (R589, R595, R596, R633) -/

/-- Tokens a second granted to the open sessions. -/
def State.rateGranted (s : State) : Nat := (s.host.sessions.map fun e => e.2.msgRate).sum

/-- The session key: HMAC-SHA-256 under CHAIN_KEY over "RMPS", the host nonce, the device nonce and the number (R589). -/
def sessionKey (chainKey : List Byte) (hostNonce deviceNonce n : Nat) : List Byte :=
  hmacSha256 chainKey (bytesOf 4 0x524D5053 ++ bytesOf 16 hostNonce ++ bytesOf 16 deviceNonce ++ bytesOf 2 n)

/-- One of several numbers the manual lets the device choose among (DESIGN CHOICE, log entry 20). -/
def pick (k : Nat) (l : List Nat) : Nat := l.getD (Config.choice k % l.length) 0

/-- SESSION.OPEN (R595, R596, R633). -/
def openSession (s : State) (r : Req) (chainKey : List Byte) : Work := do
  let b := r.body
  require (b.length == 8 && r.env.tail.isEmpty && r.env.session == 0) .format
  let msgRate := (wget b 4).toNat
  let burst := fld (wget b 5) 31 16
  let timeout := fld (wget b 5) 15 0
  let maxReply := fld (wget b 6) 31 16
  let freeNums := ((upto 16).map (· + 1)).filter fun n => (s.session n).isNone
  require (!freeNums.isEmpty) .sessionFull
  demand (s.rateGranted + msgRate ≤ 40000)
    { err := .notAdmitted, resource := 0x0C, need := msgRate, avail := 40000 - s.rateGranted }
  require (10 ≤ msgRate && msgRate ≤ 40000 && 1 ≤ burst && burst ≤ 1024 && 1 ≤ timeout && timeout ≤ 600 &&
    1024 ≤ maxReply && maxReply ≤ 8960) .limit
  let (k, s) := s.draw
  let n := pick k freeNums
  let nonce := (Config.deviceNonce k).toNat
  let x : Session := {
    key := sessionKey chainKey (ofWords (b.take 4)) nonce n, src := r.env.src, msgRate := msgRate, burst := burst,
    timeout := timeout, maxReply := maxReply, noticePort := fld (wget b 6) 15 0, egressPort := fld (wget b 7) 31 16,
    noticeMask := fld (wget b 7) 15 0, bucket := burst * 10 ^ 9, bucketAt := s.clock, next := 1, held := [],
    replies := [], executing := [], lastValid := s.clock, noticeBucket := 256 * 10 ^ 9, noticeAt := s.clock,
    noticeLost := false, streamSeq := 0 }
  let s := s.setSession n x
  let s := { s with faults := { s.faults with hostIdle := none, hostActed := false } }
  return { state := s, body := wordsOf 4 nonce ++ [word n] ++ (b.drop 4).take 4 }

/-! ## Receiving a request -/

/-- Whether the envelope of a request is that of a well-formed command (R591): reserved CTL bits 0, AT_KIND not 0b11, no AT
on a command that takes none, BODY a whole number of words, LENGTH within R587; and the task that serves the command not frozen (R551). -/
def State.envelopeOk (s : State) (r : Req) : Except Denial Unit := do
  let kind := bitsOf r.env.ctl.toNat 15 14
  require (r.env.tail.isEmpty && decide (r.env.length.toNat ≤ 8960) && bitsOf r.env.ctl.toNat 13 0 == 0 && kind != 3 && (kind == 0 || r.cmd.takesAt)) .format
  require (r.cmd.releases || !s.isFrozen (0x2000 + Config.servingTask r.cmd.code % 4096)) .frozen

/-- The work of a request whose reply would exceed MAX_REPLY of its session is not done (R594, R627). -/
def State.replyFits (s : State) (n : Nat) (d : Done) : Work :=
  match s.session n with
  | some x => if x.maxReply < 40 + 4 * d.body.length then refuse .tooBig else .ok d
  | none => .ok d

/-- Run one request that is in order, and answer it. -/
def State.process (s : State) (handle : Req → State → Work) (n : Nat) (key : List Byte) (r : Req) : State :=
  match (do s.envelopeOk r; let d ← handle r s; s.replyFits n d) with
  | .error d => s.reply n key r d.err.code s.now d.body
  | .ok d =>
    if d.later then
      match d.state.session n with
      | some x => d.state.setSession n { x with executing := x.executing ++ [r.env.seq.toNat] }
      | none => d.state
    else d.state.reply n key r 0 (d.state.shown (d.time.getD s.nextBoundary)) d.body

/-- Advance NEXT of a session. -/
def State.advanceSeq (s : State) (n : Nat) : State :=
  match s.session n with
  | some x => s.setSession n { x with next := (x.next + 1) % 2 ^ 32 }
  | none => s

/-- Process the held requests of a session that are now in order (R599). -/
def State.drainHeld (handle : Req → State → Work) (n : Nat) : Nat → State → State
  | 0, s => s
  | fuel + 1, s =>
    match s.session n with
    | none => s
    | some x =>
      match x.held.find? (fun h => h.seq == x.next) with
      | none => s
      | some h =>
        let s := s.setSession n { x with held := x.held.filter fun k => k.seq != h.seq }
        State.drainHeld handle n fuel ((s.advanceSeq n).process handle n x.key h.req)

/-- A request of an open session that has paid its tokens, handled by its SEQ (R599). -/
def State.inSession (s : State) (handle : Req → State → Work) (n : Nat) (x : Session) (r : Req) : State :=
  let seq := r.env.seq.toNat
  let ahead := (seq + 2 ^ 32 - x.next) % 2 ^ 32
  if ahead = 0 then
    State.drainHeld handle n 31 ((s.advanceSeq n).process handle n x.key r)
  else if ahead ≤ 31 then
    if x.held.any (fun h => h.seq == seq) then s
    else s.setSession n { x with held := x.held ++ [⟨seq, r, s.clock⟩] }
  else if 2 ^ 32 - 64 ≤ ahead then
    match x.replies.find? (fun e => e.1 == seq) with
    | some e => s.send (s.replyPort r) 3 (e.2.outOf (s.replyPort r))
    | none => if x.executing.contains seq then s else s.replyOnce x.key r Err.retry.code s.now ({ err := Err.retry : Denial }).body
  else s.replyOnce x.key r Err.seq.code s.now [word x.next]

/-- Count a dropped RMP datagram in RX_BAD_MSG of its port (R590). -/
def State.badMessage (s : State) (p : Port) : State := s.count .port (portNum p) 0x25

/-- A request reaches the device (R570, R590, R597, R599); before the firmware starts, and while it restarts, it is dropped
(R558, R654): wrong envelopes are dropped and counted, a frozen session's requests
are dropped, a request beyond its session's rate freezes the session. -/
def State.receive (s : State) (handle : Req → State → Work) (r : Req) : State :=
  let e := r.env
  let p := e.src.port
  s.takeFrame p e.src.mac (clientBytes e) fun s =>
  let n := e.session.toNat
  if s.boot.phase != .running || s.faults.restart.isSome then s
  else if e.magic != 0x52D0 || e.version != 1 || e.kind != 1 || e.length.toNat != e.udpLength || r.size != e.udpLength then
    s.badMessage p
  else if n = 0 then
    match s.net.chainKey with
    | none => s.badMessage p
    | some key =>
      if r.cmd != .sessionOpen || !r.tagOk key then s.badMessage p
      else
        match (do s.envelopeOk r; openSession s r key) with
        | .error d => s.replyOnce key r d.err.code s.now d.body
        | .ok d => d.state.replyOnce key r 0 (s.shown s.nextBoundary) d.body
  else
    match s.session n with
    | none => s.badMessage p
    | some x =>
      if !r.tagOk x.key then s.badMessage p
      else if s.isFrozen (sessionMaster n) then s
      else
        let x := { x with lastValid := s.clock, src := { x.src with port := p },
                          bucket := refill x.bucket x.bucketAt s.clock x.msgRate x.burst, bucketAt := s.clock }
        let cost := ceilDiv e.length.toNat 1024 * 10 ^ 9
        if x.bucket < cost then (s.setSession n x).freezeSession n
        else
          let x := { x with bucket := x.bucket - cost }
          (s.setSession n x).inSession handle n x r

end Sys2Proof.Machine
end

