-- ==== Sys2Proof/Machine/Calibration.lean ====
section
/-!
DEFINITION. Calibration sets and correction (R222-R239, R542, R544, R636, R714, R715).
-/

namespace Sys2Proof.Machine

/-! ## Sets -/

/-- A set nothing has been written into (R226). -/
def CalSet.empty : CalSet := ⟨0, [], 0, [], []⟩

/-- Calibration set id. -/
def State.calSet (s : State) (id : Nat) : CalSet := findD s.calSets CalSet.empty id

/-- Replace a calibration set. -/
def State.setCalSet (s : State) (id : Nat) (x : CalSet) : State :=
  { s with calSets := store s.calSets CalSet.empty id x }

/-- Word i of a set; a word never written reads as 0 (DESIGN CHOICE, log entry 8). -/
def CalSet.word (x : CalSet) (i : Nat) : Word := findD x.words 0 i

/-- The CRC-32 of block k, 256 words (R422, R544). -/
def CalSet.blockCrc (x : CalSet) (k : Nat) : Nat := crc32 (wordBytes ((upto 256).map fun i => x.word (256 * k + i)))

/-- The set is loaded, and every block's CRC-32 is stored (R544). -/
def CalSet.seal (x : CalSet) : CalSet := { x with state := 2, checks := (upto (x.top / 256 + 1)).map x.blockCrc, worn := [] }

/-- DRAM has inverted bits of the set, bits 32 i on those of word i. -/
def CalSet.decay (x : CalSet) (bits : List Nat) : CalSet :=
  { x with
    words := bits.foldl (fun l k => insertKey l (k / 32) (findD l 0 (k / 32) ^^^ BitVec.ofNat 32 (2 ^ (k % 32)))) x.words,
    worn := ((bits.map fun k => k / 8192) ++ x.worn).eraseDups }

/-- Bits of set id are inverted in DRAM; a set that is EMPTY has none. -/
def State.calDecay (s : State) (id : Nat) (bits : List Nat) : State :=
  let x := s.calSet id
  if x.state = 0 then s else s.setCalSet id (x.decay bits)

/-- A range section (R224): its quantity, range index, whether it has a force table, its grid and the word it begins at. -/
structure Section where
  current : Bool
  index : Nat
  hasForce : Bool
  ni : Nat
  nt : Nat
  off : Nat
  deriving DecidableEq, Repr

/-- The section that begins at word off. -/
def CalSet.sectionAt (x : CalSet) (off : Nat) : Section :=
  let w := x.word off
  ⟨bitAt w 31, fld w 30 27, bitAt w 26, fld w 25 22 + 1, fld w 21 19 + 1, off⟩

/-- Words of a section. -/
def Section.size (r : Section) : Nat := 4 + r.ni + r.nt + 2 * r.ni * r.nt * (if r.hasForce then 2 else 1)

/-- The blocks of 256 words in which a section lies. -/
def Section.blocks (r : Section) : List Nat :=
  (upto ((r.off + r.size - 1) / 256 + 1)).filter fun k => r.off / 256 ≤ k

/-- The n sections from word off on. -/
def CalSet.sectionsFrom (x : CalSet) : Nat → Nat → List Section
  | 0, _ => []
  | n + 1, off => let r := x.sectionAt off; r :: x.sectionsFrom n (off + r.size)

/-- N_VR, N_IR and LENGTH of a set's header. -/
def CalSet.nVr (x : CalSet) : Nat := fld (x.word 3) 31 27
/-- N_IR. -/
def CalSet.nIr (x : CalSet) : Nat := fld (x.word 3) 26 22
/-- LENGTH. -/
def CalSet.length (x : CalSet) : Nat := fld (x.word 3) 14 0

/-- All sections of a set. -/
def CalSet.sections (x : CalSet) : List Section := x.sectionsFrom (x.nVr + x.nIr) 6

/-- Current point i, temperature point t, and the words of the pair of a table (R224). -/
def CalSet.ipt (x : CalSet) (r : Section) (i : Nat) : Word := x.word (r.off + 4 + i)
/-- Temperature point t. -/
def CalSet.tpt (x : CalSet) (r : Section) (t : Nat) : Word := x.word (r.off + 4 + r.ni + t)
/-- Word k (0 gain, 1 offset) of the pair at current point i and temperature point t of the measure or the force table. -/
def CalSet.entry (x : CalSet) (r : Section) (force : Bool) (i t k : Nat) : Word :=
  x.word (r.off + 4 + r.ni + r.nt + (if force then 2 * r.ni * r.nt else 0) + 2 * (t * r.ni + i) + k)

/-! ## Sealing (R228) -/

/-- Whether a list of words rises strictly as values. -/
def rising : List Word → Bool
  | a :: b :: r => flt a b && rising (b :: r)
  | _ => true

/-- Whether the indices of a run of sections rise strictly. -/
def indicesRise : List Section → Bool
  | a :: b :: r => decide (a.index < b.index) && indicesRise (b :: r)
  | _ => true

/-- The header and the sections agree with R223 and R224. -/
def CalSet.formatOk (x : CalSet) (id : Nat) : Bool :=
  let l := x.sections
  let v := l.take x.nVr
  let i := l.drop x.nVr
  fld (x.word 0) 31 16 == 1 && fld (x.word 0) 15 0 == id && x.nVr ≤ 16 && x.nIr ≤ 16 &&
    v.all (fun r => !r.current) && i.all (fun r => r.current) && indicesRise v && indicesRise i &&
    l.all (fun r => 2 ≤ r.ni && 2 ≤ r.nt) && 6 + (l.map Section.size).sum + 1 == x.length

/-- A pair lies within the caps: |g − 1| ≤ CAP_GAIN and |o| ≤ CAP_OFFSET × FULL_SCALE. -/
def CalSet.pairCapped (x : CalSet) (r : Section) (g o : Word) : Bool :=
  ((val g).add (numOf (-1) 0)).abs.le (val (x.word 4)) &&
    (val o).abs.le ((val (x.word 5)).mul (val (x.word (r.off + 1))))

/-- The values of a section keep R228. -/
def CalSet.sectionOk (x : CalSet) (r : Section) : Bool :=
  let finite := ((upto (r.size - 1)).map fun k => x.word (r.off + 1 + k)).all isFin
  let tables := if r.hasForce then [false, true] else [false]
  finite && rising ((upto r.ni).map (x.ipt r)) && rising ((upto r.nt).map (x.tpt r)) &&
    flt (x.word (r.off + 2)) (x.word (r.off + 3)) &&
    tables.all fun f => (upto r.nt).all fun t => (upto r.ni).all fun i =>
      x.pairCapped r (x.entry r f i t 0) (x.entry r f i t 1)

/-- The checks of DEV.CAL_SEAL, in the order of R228. -/
def CalSet.sealCheck (x : CalSet) (id : Nat) : Except Denial Unit := do
  let n := x.length
  require (7 ≤ n && n ≤ 16384 && n ≤ x.top + 1) .calFormat
  require (crc32 (wordBytes ((upto (n - 1)).map x.word)) == (x.word (n - 1)).toNat) .calCrc
  require (x.formatOk id) .calFormat
  require (isFin (x.word 4) && isFin (x.word 5) && fle 0 (x.word 4) && fle 0 (x.word 5) && x.sections.all x.sectionOk) .limit

/-! ## DEV.CAL_WRITE, CAL_SEAL, CAL_FREE, CAL_INFO (R226-R229, R636) -/

/-- CAL_SET.SET_ID of channel c. -/
def State.calSetOf (s : State) (c : Nat) : Nat := s.rf .chan c 0xA 15 0

/-- A channel that is ARMING, ARMED, DISARMING or HELD names the set (R229). -/
def State.calInUse (s : State) (id : Nat) : Bool := (upto 512).any fun c => s.calSetOf c == id && s.busyChan c

/-- SET_ID of a calibration command; its low half is reserved. -/
def calId (r : Req) : Except Denial Nat := do
  require (1 ≤ r.body.length) .format
  require (fld (wget r.body 0) 15 0 == 0) .reserved
  return fld (wget r.body 0) 31 16

/-- The sections of a set whose places are known: up to the first whose word 0 has not been written. -/
def CalSet.knownSections (x : CalSet) : Nat → Nat → List Section
  | 0, _ => []
  | n + 1, off =>
    if (find x.words off).isNone then []
    else let r := x.sectionAt off; r :: x.knownSections n (off + r.size)

/-- The words lo to hi - 1, just written, set no reserved bit of the header or of a section whose place is known
(R13, R223, R224; DESIGN CHOICE, log entry 92: data written before its place is known is not looked at again). -/
def CalSet.reservedClear (x : CalSet) (lo hi : Nat) : Bool :=
  let written (i : Nat) : Bool := decide (lo ≤ i) && decide (i < hi)
  !(written 1 && fld (x.word 1) 15 0 != 0) && !(written 3 && fld (x.word 3) 21 15 != 0) &&
    (x.knownSections (x.nVr + x.nIr) 6).all fun r => !(written r.off && fld (x.word r.off) 18 0 != 0)

/-- DEV.CAL_WRITE (R13, R226, R227, R229, R544, R636). -/
def writeCal (s : State) (r : Req) : Work := do
  let id ← calId r
  require (2 ≤ r.body.length) .format
  let w := wget r.body 1
  let off := fld w 29 16
  let n := fld w 11 0
  require (fld w 31 30 == 0 && fld w 15 12 == 0) .reserved
  require (1 ≤ n && n ≤ 2048 && r.body.length == 2 + n) .format
  require (id != 0 && off + n ≤ 16384) .limit
  let x := s.calSet id
  let words := ((r.body.drop 2).zipIdx).foldl (fun l p => insertKey l (off + p.2) p.1) x.words
  let y : CalSet := ⟨1, words, max x.top (off + n - 1), [], []⟩
  require (y.reservedClear off (off + n)) .reserved
  require (!s.calInUse id) .busy
  require (x.state != 0 || s.calSets.length < 4096) .calFull
  return { state := s.setCalSet id y }

/-- DEV.CAL_SEAL (R226, R228, R544, R636). -/
def sealCal (s : State) (r : Req) : Work := do
  let id ← calId r
  require (r.body.length == 1) .format
  let x := s.calSet id
  require (id != 0) .limit
  require (x.state != 0) .notReady
  x.sealCheck id
  return { state := s.setCalSet id x.seal }

/-- DEV.CAL_FREE (R226, R229). -/
def freeCal (s : State) (r : Req) : Work := do
  let id ← calId r
  require (r.body.length == 1) .format
  require (id != 0) .limit
  require (!s.calInUse id) .busy
  return { state := { s with calSets := eraseKey s.calSets id } }

/-- DEV.CAL_INFO (R636). -/
def infoCal (s : State) (r : Req) : Work := do
  let id ← calId r
  require (r.body.length == 1) .format
  let x := s.calSet id
  let users := ((upto 512).filter fun c => s.calSetOf c == id).length
  let header := (upto 6).map fun i => if 2 ≤ x.state then x.word i else 0
  return { state := s, body := word (x.state * 2 ^ 28 + users) :: header }

/-! ## Coverage (R82, R230) -/

/-- The section of a set for a range. -/
def CalSet.sectionFor (x : CalSet) (current : Bool) (n : Nat) : Option Section :=
  x.sections.find? fun r => r.current == current && r.index == n

/-- The first block to fail its check when the header and the sections of some ranges are read (R544). Only a block in which bits
were inverted since the set was sealed can fail. -/
def CalSet.badBlock (x : CalSet) (ranges : List (Bool × Nat)) : Option Nat :=
  let read := 0 :: (ranges.filterMap fun q => x.sectionFor q.1 q.2).flatMap Section.blocks
  (read.eraseDups.filter x.worn.contains).find? fun k => x.checks[k]? != some (x.blockCrc k)

/-- The ranges of a quantity that the arming rule or an eligible auto-ranging move can reach (R221, R230). -/
def State.coverRanges (s : State) (c : Nat) (current : Bool) : List Nat :=
  if s.autoActs c current then s.eligible c current else [s.selRange c current]

/-- Set id covers channel c (R230). -/
def State.calCovers (s : State) (id c : Nat) : Bool :=
  let x := s.calSet id
  let ranges (current : Bool) : Bool := (s.coverRanges c current).all fun n =>
    match x.sectionFor current n with
    | some r => x.word (r.off + 1) == s.fullScale c current n &&
        (s.forced c != some current || r.hasForce)
    | none => false
  x.state == 2 && fld (x.word 1) 31 16 == s.descField c 0 31 16 &&
    (x.word 2 == 0 || (x.word 2).toNat == s.descField c 1 63 32) && ranges false && ranges true

/-! ## Evaluating pairs (R231-R236, R714) -/

/-- The pair that corrects nothing. -/
def Pair.unity : Pair := ⟨0x3F800000, 0, 0x3F800000, 0⟩

/-- The interval of an axis that a value falls in, and how far into it (R233). -/
def calAxis (pt : Nat → Word) (n : Nat) (x : Word) : Nat × Word :=
  let j := ((upto (n - 2)).find? fun j => fle x (pt (j + 1))).getD (n - 2)
  (j, fdiv (isub x (pt j)) (isub (pt (j + 1)) (pt j)))

/-- Linear interpolation a + w × (b − a). -/
def lerp (a b w : Word) : Word := iadd a (imul w (isub b a))

/-- One table of a section looked up at an interval of each axis, and clamped by the caps (R233). -/
def CalSet.lookup (x : CalSet) (r : Section) (force : Bool) (ai at' : Nat × Word) : Word × Word :=
  let (i, wi) := ai
  let (t, wt) := at'
  let one (k : Nat) : Word :=
    lerp (lerp (x.entry r force i t k) (x.entry r force (i + 1) t k) wi)
      (lerp (x.entry r force i (t + 1) k) (x.entry r force (i + 1) (t + 1) k) wi) wt
  let capO := imul (x.word 5) (x.word (r.off + 1))
  (fclamp (isub 0x3F800000 (x.word 4)) (iadd 0x3F800000 (x.word 4)) (one 0), fclamp (fneg capO) capO (one 1))

/-- The head temperature of R234. -/
def State.headTemp (s : State) (c : Nat) : Option Word :=
  if s.tempReport c && (s.chan c).tempValid then some (toF32 (numOf (s.chan c).temp (-6))) else none

/-- A value lies outside lo..hi. -/
def outside (lo hi x : Word) : Bool := flt x lo || flt hi x

/-- Evaluate the pairs of a section, with what lay outside its validated envelope: bits 2, 1, 0 current, temperature,
voltage (R225, R233, R234, R238). -/
def CalSet.evaluate (x : CalSet) (r : Section) (forced : Bool) (k : Conditions) : Pair × Nat :=
  let temp := k.temp.getD (x.tpt r 0)
  let ai := calAxis (x.ipt r) r.ni k.current
  let at' := calAxis (x.tpt r) r.nt temp
  let m := x.lookup r false ai at'
  let f := if forced && r.hasForce then x.lookup r true ai at' else (0x3F800000, 0)
  let out := (outside (x.ipt r 0) (x.ipt r (r.ni - 1)) k.current).toNat * 4 +
    (k.temp.isSome && outside (x.tpt r 0) (x.tpt r (r.nt - 1)) temp).toNat * 2 +
    (outside (x.word (r.off + 2)) (x.word (r.off + 3)) k.voltage).toNat
  (⟨m.1, m.2, f.1, f.2⟩, out)

/-- The initial conditions of a section (R714): 0 A and 0 V clamped into the envelope. -/
def CalSet.initial (x : CalSet) (r : Section) (temp : Option Word) : Conditions :=
  ⟨fclamp (x.ipt r 0) (x.ipt r (r.ni - 1)) 0, fclamp (x.word (r.off + 2)) (x.word (r.off + 3)) 0, temp⟩

/-- Evaluate the pair of a range of channel c, at given conditions or, without any, at the initial ones, which never
extrapolate. None if the set is not LOADED (R544, R545) or has no section for it. -/
def State.evalRange (s : State) (c : Nat) (current : Bool) (n : Nat) (k : Option Conditions) : Option (Pair × Nat) :=
  let x := s.calSet (s.calSetOf c)
  (if x.state = 2 then x.sectionFor current n else none).map fun r =>
    match k with
    | some k => x.evaluate r (s.forced c == some current) k
    | none => ((x.evaluate r (s.forced c == some current) (x.initial r (s.headTemp c))).1, 0)

/-- Channel c is, or was last, armed with ARM_UNCALIBRATED (R83). -/
def State.uncal (s : State) (c : Nat) : Bool := (s.chan c).uncalArm

/-- STATUS.UNCAL as R83 and R545 set it (R715). -/
def State.showUncal (s : State) (c : Nat) : State :=
  s.setRb .chan c 0x21 13 (s.uncal c || (s.chan c).lacking.isSome)

/-- The pair in effect for a range of channel c, and whether the sample carries UNCAL (R83, R239, R715). -/
def State.pairFor (s : State) (c : Nat) (current : Bool) (n : Nat) : Pair × Bool :=
  if s.uncal c && s.busyChan c then (.unity, true)
  else match find (s.chan c).pairs (rangeKey current n) with
    | some p => (p, false)
    | none => (.unity, true)

/-- Put pairs that take effect at a device time. -/
def State.awaitPairs (s : State) (c due : Nat) (pairs : List (Nat × Pair)) (extrap : Bool) : State :=
  let x := s.chan c
  s.setChan c { x with pairWaits := x.pairWaits ++ [⟨due, pairs, extrap⟩] }

/-- The first device frame boundary at least 1 µs after device time t. -/
def boundaryAfter (t : Nat) : Nat := ceilDiv (t + 1000) 100 * 100

/-- Pairs take effect on channel c beside those of other ranges; extrap says that their evaluation extrapolated. A range that
lacked pairs has them now (R545). -/
def State.takePairs (s : State) (c : Nat) (pairs : List (Nat × Pair)) (extrap : Bool) : State :=
  let x := s.chan c
  let keys := pairs.map Prod.fst
  let kept := x.extraps.filter fun k => !keys.contains k
  (s.setChan c { x with
    pairs := pairs.foldl (fun l p => insertKey l p.1 p.2) x.pairs,
    extraps := if extrap then kept ++ keys else kept,
    lacking := x.lacking.filter fun k => !keys.contains k }).showExtrap c |>.showUncal c

/-- Channel c is left without pairs, and without any to come (R239, R715). -/
def State.dropPairs (s : State) (c : Nat) : State :=
  (s.setChan c { s.chan c with pairs := [], extraps := [], pairWaits := [] }).showExtrap c

/-- PAIRS_TAKE_EFFECT for channel c: every evaluation whose boundary has come takes effect on the ranges still in use (R201, R209,
R231). -/
def State.pairsTakeEffect (s : State) (c : Nat) : State :=
  let x := s.chan c
  s.each (x.pairWaits.filter fun w => decide (w.due ≤ s.now)) (fun s w =>
    (s.setChan c { s.chan c with pairWaits := (s.chan c).pairWaits.filter fun y => y != w }).takePairs c
      (w.pairs.filter fun p => (s.keysInUse c).contains p.1) w.extrap)

/-! ## Protection limits as raw codes (R542) -/

/-- The raw code of a corrected value in a range, to the nearest code (DESIGN CHOICE, log entry 23). -/
def rawCode (p : Pair) (fullScale value : Word) : Int :=
  match (val (fdiv (fdiv (fsub value p.o) p.g) fullScale)).mul (numOf 1 23) |>.toInt with
  | some i => i
  | none => if flt value 0 then -(2 ^ 23 : Int) else 2 ^ 23

/-- Convert PROT_V_HI, PROT_V_LO, +PROT_I and -PROT_I for the ranges in use with the pairs in effect (R542). -/
def State.writeCodes (s : State) (c : Nat) : State :=
  let one (q : Bool × Nat) : Nat × Int × Int :=
    let p := (s.pairFor c q.1 q.2).1
    let fs := s.fullScale c q.1 q.2
    let lo := if q.1 then fneg (s.reg .chan c 6) else s.reg .chan c 5
    let hi := if q.1 then s.reg .chan c 6 else s.reg .chan c 4
    (rangeKey q.1 q.2, rawCode p fs lo, rawCode p fs hi)
  s.setChan c { s.chan c with codes := (s.rangesInUse c).map one }

/-! ## Reads of a set (R201, R544, R545, R714) -/

/-- Set id has become FAULTED, and channel c runs on it: no pairs of it take effect any more, and where a change is in progress to
a range whose pairs are not in effect, that range has none (R545). -/
def State.pairsLost (s : State) (id c : Nat) : State :=
  if !(s.busyChan c && !s.uncal c && s.calSetOf c == id) then s
  else
    let x := s.chan c
    let target := x.change.map fun k => rangeKey k.current k.target
    let lacking := (target.filter fun k => (find x.pairs k).isNone).orElse fun _ => x.lacking
    (s.setChan c { x with pairWaits := [], lacking := lacking }).showUncal c

/-- A read of a calibration set that fails its block check (R544, R545): the set becomes FAULTED. -/
def State.calFaulted (s : State) (id block : Nat) : State :=
  let x := s.calSet id
  if x.state != 2 then s
  else
    let s := (s.setCalSet id { x with state := 3 }).raiseFault 21
    let s := s.each (s.chans.map Prod.fst) fun s c => s.pairsLost id c
    let s := s.dramCheck (calRegion (s.calSets.filter fun e => decide (e.1 < id)).length block)
    (s.logFault 0x0307 true (objCode .dev) id 1).notify 0x0503 .dev 0 [id, block]

/-- The correction unit reads what it needs for some ranges of channel c, each block against its CRC-32 (R544). -/
def State.calRead (s : State) (c : Nat) (ranges : List (Bool × Nat)) : State :=
  match (s.calSet (s.calSetOf c)).badBlock ranges with
  | some k => s.calFaulted (s.calSetOf c) k
  | none => s

/-- The pairs of the target of a range change, evaluated at its start under the conditions of the latest evaluation (R201). -/
def State.pairsAtChange (s : State) (c : Nat) (current : Bool) (n : Nat) : State :=
  if s.uncal c then s
  else
    let s := s.calRead c [(current, n)]
    match s.evalRange c current n (s.chan c).cond with
    | some (p, out) => s.awaitPairs c (boundaryAfter (s.chanTime c)) [(rangeKey current n, p)] (out != 0)
    | none => s

/-- The correction of channel c at an arming: the pairs in effect from the first active frame, those of the ranges requested and
connected at their initial conditions (R714), or none with ARM_UNCALIBRATED (R239). Frames before the arming take part in the
first evaluation (R232). -/
def State.pairsAtArming (s : State) (c : Nat) (uncal : Bool) (requested : List (Bool × Nat)) : State :=
  let s := s.setChan c { s.chan c with pairWaits := [], cond := none }
  if uncal then s.dropPairs c
  else
    let ranges := (requested ++ [(false, s.activeRange c false), (true, s.activeRange c true)]).eraseDups
    let s := s.calRead c ranges
    s.takePairs c (ranges.filterMap fun q => (s.evalRange c q.1 q.2 none).map fun p => (rangeKey q.1 q.2, p.1)) false

/-! ## CORRECTION_EVAL (R231, R232, R237, R238, R544) -/

/-- A mean of n values summed in binary64, rounded once. -/
def mean64 (sum : BitVec 64) (n : Nat) : Word := narrow (ddiv sum (dofInt n))

/-- The evaluation of one channel at boundary B = now. N_EXTRAP names one range; where several were extrapolated, any of them. -/
def State.evalChannel (s : State) (c : Nat) : State :=
  let x := s.chan c
  let cond : Option Conditions := if x.goodFrames = 0 then none
    else some ⟨mean64 x.sumI x.goodFrames, mean64 x.sumV x.goodFrames, s.headTemp c⟩
  let s := s.setChan c { x with sumI := 0, sumV := 0, goodFrames := 0, cond := cond.orElse fun _ => x.cond }
  let lacking := (s.rangesInUse c).filter fun q => (find x.pairs (rangeKey q.1 q.2)).isNone
  let ranges := if cond.isSome then s.rangesInUse c else lacking
  let done := ranges.filterMap fun q => (s.evalRange c q.1 q.2 cond).map fun p => (q, p)
  let out := done.filter fun d => d.2.2 != 0
  let s := s.awaitPairs c (s.now + 1000) (done.map fun d => (rangeKey d.1.1 d.1.2, d.2.1))
    (!out.isEmpty)
  let s := match out with
    | [] => s
    | d :: _ =>
      let s := s.setReg .chan c 0x25 (s.reg .chan c 0x25 + 1)
      if (s.chan c).extrapNoticed then s
      else
        let (k, s) := s.draw
        let d := out.getD (Config.choice k % out.length) d
        (s.setChan c { s.chan c with extrapNoticed := true }).notify 0x0104 .chan c
          [d.1.1.toNat * 2 ^ 31 + d.1.2 * 2 ^ 27, d.2.2]
  s.writeCodes c

/-- The sums of R232 begin afresh. -/
def State.sumsRestart (s : State) (c : Nat) : State :=
  s.setChan c { s.chan c with sumI := 0, sumV := 0, goodFrames := 0 }

/-- CORRECTION_EVAL for bank b at a boundary (R231): every channel of the bank that is ARMING, ARMED, DISARMING or HELD is
evaluated, from the frames since the boundary 32 frames before (R232). inverted lists the bits of sets that DRAM has inverted
since the last such boundary. A channel whose set is not LOADED keeps its pairs. -/
def State.correctionEval (s : State) (b : Nat) (inverted : List (Nat × List Nat)) : State :=
  if s.now / 100 % 32 ≠ 0 then s
  else
    let s := s.each inverted fun s e => s.calDecay e.1 e.2
    s.each ((upto 64).map fun k => 64 * b + k) fun s c =>
      if !s.busyChan c then s.sumsRestart c
      else
        let s := if s.uncal c then s else s.calRead c (s.rangesInUse c)
        if !s.uncal c && (s.calSet (s.calSetOf c)).state == 2 then s.evalChannel c else (s.sumsRestart c).writeCodes c

end Sys2Proof.Machine
end

