-- ==== Sys2Proof/Machine/Acquisition.lean ====
section
/-!
DEFINITION. Acquisition units: intervals, triggers, records, measurements, detection; pattern triggers (R360-R397).
-/

namespace Sys2Proof.Machine

/-! ## The part of a unit beside its fields -/

/-- A measurement window that holds nothing. -/
def Window.fresh : Window :=
  ⟨0, 0, 0, 0, 0, 0, 0, 0, none, none, none, none, 0, 0, 0, [0, 0, 0, 0, 0, 0, 0], 0, 0, 0, none, none⟩

/-- Detection that has seen nothing. -/
def Detection.fresh : Detection := ⟨0, 0, 0, false, 0, 0, false, none⟩

/-- A unit that has seen nothing. -/
def Acq.fresh : Acq := ⟨none, [], false, false, none, none, none, [], none, 0, 0, .fresh, []⟩

/-- Unit a beside its fields. -/
def State.acq (s : State) (a : Nat) : Acq := findD s.acqs Acq.fresh a

/-- Replace unit a's part beside its fields. -/
def State.setAcq (s : State) (a : Nat) (x : Acq) : State := { s with acqs := store s.acqs Acq.fresh a x }

/-- STATE.STATE: 0 IDLE, 1 ARMED, 2 CAPTURING, 3 HOLDOFF, 4 DONE, 5 LOGGING. -/
def State.acqState (s : State) (a : Nat) : Nat := s.rf .acq a 0x20 31 28

/-- Write STATE.STATE; what the almanac charged a run ends with it (R396, R429, R608). -/
def State.setAcqState (s : State) (a v : Nat) : State :=
  let s := s.setRf .acq a 0x20 31 28 v
  if v = 4 then
    { s with records := { s.records with spool := { s.records.spool with
        promised := eraseKey s.records.spool.promised a, charged := eraseKey s.records.spool.charged a } } }
  else s

/-- The unit runs (R368). -/
def State.acqRuns (s : State) (a : Nat) : Bool := [1, 2, 3, 5].contains (s.acqState a)

/-- MODE: 0 SINGLE, 1 REPEAT, 2 CONTINUOUS. -/
def State.acqMode (s : State) (a : Nat) : Nat := s.rf .acq a 0 31 30

/-- DATA. -/
def State.acqData (s : State) (a : Nat) : Nat := s.rf .acq a 0 28 27

/-- MEAS. -/
def State.acqMeas (s : State) (a : Nat) : Nat := s.rf .acq a 0 20 16

/-- Frames per interval. -/
def State.acqN (s : State) (a : Nat) : Nat := s.rf .acq a 6 19 0 + 1

/-- The source of event e of unit a (R332): 0 TRIGGERED, 1 DONE, 2 DETECT, 3 DETECT_END. -/
def acqSource (a e : Nat) : Nat := mkId 6 (8 * a + e)

/-! ## Frames and flags (R360-R363) -/

/-- A frame as a unit receives it: corrected V and I, flags byte, delay record, sample instant in 1/128 ns, the core cycle
at which the sample was available, whether the frame entered compliance. -/
structure FrameData where
  v : Word
  i : Word
  flags : Nat
  delay : Option Nat
  instant : Nat
  cyc : Nat
  enteredCompliance : Bool
  /-- The current of the frame takes no part: the channel is in MONITOR (R363). -/
  noI : Bool
  deriving DecidableEq, Repr

/-- Bit k of a flags byte. -/
def flagBit (flags k : Nat) : Bool := bitsOf flags k k == 1

/-- Good for acquisition (R361): a frame carrying RANGING takes no part in any average or derived measurement unless the unit sets
INCLUDE_RANGING; raw capture takes it with its flags all the same (R207). -/
def State.goodFrame (s : State) (a flags : Nat) : Bool :=
  !flagBit flags 7 && !flagBit flags 0 && (!flagBit flags 6 || s.rb .acq a 0 29)

/-- The sample instant of channel c's frame of the present device frame, in 1/128 ns (R362). -/
def State.sampleInstant (s : State) (c : Nat) : Nat :=
  s.chanFine c + 1280 - 8 * (s.rf .loop c 0x43 15 0 + s.descField c 2 63 48)

/-- In a MONITOR channel the current takes no part (R363). -/
def State.noCurrent (s : State) (a : Nat) : Bool := s.mode a == 7

/-! ## Intervals (R373-R375, R384) -/

/-- Take a frame into an interval in progress. -/
def OpenInterval.take (x : OpenInterval) (f : FrameData) (good : Bool) : OpenInterval :=
  { x with
    frames := x.frames + 1, good := x.good + good.toNat, goodI := x.goodI + (good && !f.noI).toNat,
    sumV := if good then dadd x.sumV (widen f.v) else x.sumV,
    sumI := if good && !f.noI then dadd x.sumI (widen f.i) else x.sumI,
    lastV := f.v, lastI := f.i, flags := x.flags ||| f.flags }

/-- An interval that begins at a sample instant. -/
def OpenInterval.begin (instant : Nat) : OpenInterval := ⟨instant, 0, 0, 0, 0, 0, 0, 0, 0⟩

/-- Finish an interval (R363, R374, R384): one frame carries its own values, more carry means over the good frames. -/
def OpenInterval.finish (x : OpenInterval) : Interval :=
  let m (sum : BitVec 64) (n : Nat) : Word := if n = 0 then qnan else mean64 sum n
  let flags := word (x.flags * 2 ^ 24 + x.good)
  if x.frames = 1 then ⟨x.instant, x.lastV, x.lastI, flags, 1⟩
  else ⟨x.instant, m x.sumV x.good, m x.sumI x.goodI, flags, x.frames⟩

/-- The words of an entry (R382, R384). -/
def Interval.words (data : Nat) (x : Interval) : List Word :=
  match data with
  | 0 => []
  | 1 => [x.v, x.flags]
  | 2 => [x.i, x.flags]
  | _ => [x.v, x.i, x.flags]

/-! ## Record headers (R383, R405) -/

/-- CAUSE of a record header. -/
def TrigCause.code : TrigCause → Nat
  | .software => 0 | .level => 1 | .event => 2 | .sequencer => 3

/-- The nine header words of a record. -/
def State.recordHeader (s : State) (a : Nat) (r : Record) (trunc : Bool) : List Word :=
  let t : Trigger := r.trig.getD ⟨.software, 0, 0, false, false, false⟩
  [word (2 ^ 28 + t.cause.code * 2 ^ 26 + r.coincident.toNat * 2 ^ 25 + t.tdcMiss.toNat * 2 ^ 24 + t.late.toNat * 2 ^ 23 +
      trunc.toNat * 2 ^ 22 + t.noInterp.toNat * 2 ^ 21 + min 2047 r.arrivals * 2 ^ 10)] ++
    wordsOf 2 (t.time / 128) ++ [word (t.time % 128 * 2 ^ 25 + r.firstInstant % 128 * 2 ^ 18)] ++
    wordsOf 2 (r.firstInstant / 128) ++
    [word (r.preN * 2 ^ 22 + r.partFrames * 2), word (r.flags * 2 ^ 24 + r.postN),
     word (s.acqMeas a * 2 ^ 27 + s.acqData a * 2 ^ 25 + s.rf .acq a 6 19 0)]

/-! ## The measurement window (R387, R388) -/

/-- The flags the COUNTS group counts, in its order: PREDICTED, RANGING, COMPLIANCE, EXTRAP, SAT, HELD, UNDERRUN. -/
def countedFlags : List Nat := [7, 6, 5, 4, 1, 0, 2]

/-- The least and the greatest of an optional value and another. -/
def optMin (o : Option Word) (x : Word) : Option Word := some (match o with | some y => fmin y x | none => x)
/-- The greater. -/
def optMax (o : Option Word) (x : Word) : Option Word := some (match o with | some y => fmax y x | none => x)

/-- A rising crossing at a time. -/
def Window.cross (w : Window) (t : Nat) : Window :=
  { w with crossings := w.crossings + 1, firstCross := if w.crossings = 0 then t else w.firstCross, lastCross := t }

/-- Take a frame into the window. -/
def Window.take (w : Window) (f : FrameData) (good inDet detStarts : Bool) : Window :=
  let w := { w with
    frames := w.frames + 1,
    flagCounts := (w.flagCounts.zip countedFlags).map fun p => p.1 + (flagBit f.flags p.2).toNat,
    complEntries := w.complEntries + f.enteredCompliance.toNat,
    detStarts := w.detStarts + detStarts.toNat, detFrames := w.detFrames + inDet.toNat,
    delayMin := match f.delay with
      | some d => some (min d (w.delayMin.getD d))
      | none => w.delayMin,
    delayMax := match f.delay with
      | some d => some (max d (w.delayMax.getD d))
      | none => w.delayMax }
  if good then
    let v := widen f.v
    let i := widen f.i
    let w := { w with
      good := w.good + 1, sumV := dadd w.sumV v, sumVV := dadd w.sumVV (dmul v v),
      minV := optMin w.minV f.v, maxV := optMax w.maxV f.v }
    if f.noI then w
    else { w with
      goodI := w.goodI + 1, sumI := dadd w.sumI i, sumII := dadd w.sumII (dmul i i), sumVI := dadd w.sumVI (dmul v i),
      minI := optMin w.minI f.i, maxI := optMax w.maxI f.i }
  else w

/-- The quiet NaN of binary64. -/
def qnan64 : BitVec 64 := 0x7FF8000000000000

/-- T, 100 ns, in binary64. -/
def frame64 : BitVec 64 := 0x3E7AD7F29ABCAF48

/-- The mean of a sum, NaN over no frame. -/
def meanOf (sum : BitVec 64) (n : Nat) : BitVec 64 := if n = 0 then qnan64 else ddiv sum (dofInt n)

/-- max(x, 0) in binary64. -/
def dpos (x : BitVec 64) : BitVec 64 := if (val64 x).lt (numOf 0 0) then 0 else x

/-- (b − a) / 2 as binary32. -/
def halfSpan (a b : Option Word) : Word :=
  match a, b with
  | some a, some b => toF32 (((val b).add (val a).neg).mul (numOf 1 (-1)))
  | _, _ => qnan

/-- The words of measurement group k (R387), 0 BASIC to 4 COUNTS; those that need a good frame, or for the current one whose current takes
part (R363), are NaN without. -/
def Window.group (w : Window) (k : Nat) : List Word :=
  let meanV := meanOf w.sumV w.good
  let meanI := meanOf w.sumI w.goodI
  match k with
  | 0 => [narrow meanV, narrow meanI, w.minV.getD qnan, w.maxV.getD qnan, w.minI.getD qnan, w.maxI.getD qnan,
      halfSpan w.minV w.maxV, halfSpan w.minI w.maxI]
  | 1 =>
    let rms (n : Nat) (sum : BitVec 64) : Word := if n = 0 then qnan else narrow (dsqrt (meanOf sum n))
    let ac (n : Nat) (sum mean : BitVec 64) : Word :=
      if n = 0 then qnan else narrow (dsqrt (dpos (dsub (meanOf sum n) (dmul mean mean))))
    [rms w.good w.sumVV, rms w.goodI w.sumII, ac w.good w.sumVV meanV, ac w.goodI w.sumII meanI]
  | 2 =>
    let m := w.crossings
    let span := numOf (w.lastCross - w.firstCross : Nat) 0
    let periods := numOf ((m - 1) * 128 * 10 ^ 9 : Nat) 0
    if m < 2 then [qnan, qnan, word m]
    else [word (f32.div false span periods), word (f32.div false periods span), word m]
  | 3 =>
    let t := dmul (dofInt w.frames) frame64
    let charge := if w.goodI = 0 then qnan64 else dmul t meanI
    let energy := if w.goodI = 0 then qnan64 else dmul t (meanOf w.sumVI w.goodI)
    wordsOf 2 charge.toNat ++ wordsOf 2 energy.toNat
  | _ =>
    [word w.frames, word w.good] ++ w.flagCounts.map word ++
      [word w.complEntries, word w.detStarts, word w.detFrames,
       match w.delayMin, w.delayMax with
       | some a, some b => word (a * 2 ^ 16 + b)
       | _, _ => 0]

/-! ## Triggers (R376-R380) -/

/-- The trigger that decides among those that resolve to one trigger frame (R378). -/
def Trigger.before (a b : Trigger) : Bool :=
  let rank : TrigCause → Nat
    | .event => 0 | .level => 1 | .sequencer => 2 | .software => 3
  decide (a.time < b.time) || (a.time == b.time && decide (rank a.cause < rank b.cause))

/-- The deciding trigger of a list. -/
def decideTrigger : List Trigger → Option Trigger
  | [] => none
  | t :: r => match decideTrigger r with
    | some u => some (if u.before t then u else t)
    | none => some t

/-- A trigger reaches unit a (R370, R377): it waits for its frame; a busy unit counts a trigger that is no event in
TRIG_LOST; a unit in another state ignores it. -/
def State.acqTrigger (s : State) (a : Nat) (t : Trigger) : State :=
  let st := s.acqState a
  if st = 1 || st = 5 then
    let x := s.acq a
    let late := match x.taken with
      | some i => decide (t.time ≤ i)
      | none => false
    s.setAcq a { x with trigs := x.trigs ++ [{ t with late := t.late || (late && t.cause != .level) }] }
  else if (st = 2 || st = 3) && t.cause != .event then s.count .acq a 0x22
  else s

/-- The fine time at which a quantity crossed a level between two good frames (R380), rounded to the nearest 1/128 ns. -/
def crossTime (level y0 y1 : Word) (t0 t1 : Nat) : Nat :=
  let num := (val level).add (val y0).neg
  let den := (val y1).add (val y0).neg
  if feq y0 y1 then t0
  else
    let frac := f64.decode (f64.div false num den)
    match (frac.mul (numOf 12800 0)).toInt with
    | some k => (t0 + k).toNat
    | none => t1

/-- The level trigger at a good frame (R379, R380): whether it fires, and its trigger. -/
def State.levelTrigger (s : State) (a : Nat) (x : Acq) (f : FrameData) : Bool × Option Trigger :=
  let cur := s.rb .acq a 1 27
  let y := if cur then f.i else f.v
  let level := s.reg .acq a 2
  let hyst := s.reg .acq a 3
  let falling := s.rb .acq a 1 28
  let fires := x.primed && (if falling then fle y level else fle level y)
  let primes := if falling then (val level).add (val hyst) |>.le (val y)
    else (val y).le ((val level).add (val hyst).neg)
  if fires then
    let t : Trigger := match x.last with
      | some (v, i, t0) => ⟨.level, crossTime level (if cur then i else v) y t0 f.instant, 0, false, false, false⟩
      | none => ⟨.level, f.instant, 0, false, true, false⟩
    (primes, some t)
  else (x.primed || primes, none)

/-! ## Detection (R389-R392) -/

/-- The detected quantity of a frame: |V| / |I|, |V| or |I|. -/
def detValue (q : Nat) (v i : Word) : Word :=
  match q with
  | 0 => if feq i 0 then 0x7F800000 else fdiv (fabs v) (fabs i)
  | 1 => fabs v
  | _ => fabs i

/-- A frame's quantity against a threshold, both sides exact: for resistance |V| against threshold × |I|. -/
def detSides (q : Nat) (v i thr : Word) : Num × Num :=
  match q with
  | 0 => (val (fabs v), (val thr).mul (val (fabs i)))
  | 1 => (val (fabs v), val thr)
  | _ => (val (fabs i), val thr)

/-- Whether a frame detects, and whether it releases (R389). -/
def State.detJudge (s : State) (a : Nat) (v i : Word) : Bool × Bool :=
  let q := s.rf .acq a 0xA 30 29
  let on := detSides q v i (s.reg .acq a 0xB)
  let off := detSides q v i (s.reg .acq a 0xC)
  let open0 := q == 0 && feq i 0
  if s.rb .acq a 0xA 28 then (on.1.le on.2 && !open0, off.2.lt off.1 || open0)
  else (on.2.le on.1, off.1.lt off.2)

/-- The more extreme of two peaks. -/
def State.detPeak (s : State) (a : Nat) (x y : Word) : Word := if s.rb .acq a 0xA 28 then fmin x y else fmax x y

/-- Detection acts on the mode (R363). -/
def State.detOn (s : State) (a : Nat) : Bool :=
  s.rb .acq a 0xA 31 && !(s.noCurrent a && s.rf .acq a 0xA 30 29 != 1)

/-- One good frame of detection: the run grows or breaks, and a full run starts or ends a detection. -/
def State.detectFrame (s : State) (a : Nat) (d : Detection) (f : FrameData) : Detection :=
  let (hit, rel) := s.detJudge a f.v f.i
  let y := detValue (s.rf .acq a 0xA 30 29) f.v f.i
  let n := s.rf .acq a 0xA 15 0
  let counts := if d.inForce then rel else hit
  let run := if counts then d.run + 1 else 0
  let runStart := if counts && d.run = 0 then f.instant else d.runStart
  let runPeak := if counts && d.run = 0 then y else s.detPeak a d.runPeak y
  let d := { d with run := run, runStart := runStart, runPeak := runPeak,
                    peak := if d.inForce && !counts then s.detPeak a d.peak y else d.peak }
  if n ≤ run then
    if d.inForce then { d with run := 0, inForce := false, toEnd := some runStart }
    else { d with run := 0, inForce := true, start := runStart, peak := runPeak, toStart := true }
  else d

/-- Write a detection record, within DET_RATE (R392); the end is none for a detection still in force. -/
def State.detRecord (s : State) (a : Nat) (d : Detection) (endAt : Option Nat) : State :=
  if !s.rb .acq a 0 26 then s
  else
    let x := s.acq a
    let recent := x.detTimes.filter fun t => decide (s.clock < t + 10 ^ 6)
    if ceilDiv (s.reg .acq a 0xD).toNat 1000 ≤ recent.length then (s.setAcq a { x with detTimes := recent }).count .acq a 0x24
    else
      let last := x.seen.getD d.start
      let frames := match endAt with
        | some e => (e - d.start) / 12800
        | none => (last - d.start) / 12800 + 1
      let e := endAt.getD 0
      let words := [word (2 * 2 ^ 28 + endAt.isNone.toNat * 2 ^ 27)] ++ wordsOf 2 (d.start / 128) ++
        [word (d.start % 128 * 2 ^ 25 + e % 128 * 2 ^ 18)] ++ wordsOf 2 (e / 128) ++ [d.peak, word frames]
      let recno := x.recno + 1
      (s.setAcq a { x with detTimes := recent ++ [s.clock], recno := recno }).unitDetection a recno s.now words

/-- The unit leaves its running states: a detection still in force writes its record, and its level falls (R391, R392). -/
def State.endDetection (s : State) (a : Nat) : State :=
  let d := (s.acq a).det
  let s := if d.inForce then s.detRecord a d none else s
  (s.setAcq a { s.acq a with det := .fresh }).setRb .acq a 0x20 27 false

/-! ## Records -/

/-- LAST_TRIG takes the time of a record's trigger (R365). -/
def State.lastTrigger (s : State) (a : Nat) (t : Trigger) : State :=
  s.setWords .acq a 0x25 (wordsOf 2 (t.time / 128) ++ [word (t.time % 128 * 2 ^ 25)])

/-- Begin a record whose first post-trigger frame is f (R382-R385, R404): header, then the pre-trigger entries. -/
def State.beginRecord (s : State) (a : Nat) (trigs : List Trigger) (f : FrameData) : State :=
  let x := s.acq a
  let pre := match x.ival with
    | some o => x.pre ++ [o.finish]
    | none => x.pre
  let pre := pre.drop (pre.length - s.rf .acq a 4 9 0)
  let t := decideTrigger trigs
  let arrivals := ((trigs.filter fun t => t.cause == .event).map Trigger.arrivals).sum
  let recno := x.recno + 1
  let r : Record := {
    recno := recno, trig := t, coincident := trigs.any fun t => t.cause == .event && 2 ≤ t.arrivals,
    arrivals := arrivals, firstInstant := (pre.head?.map Interval.instant).getD f.instant, preN := pre.length,
    partFrames := (pre.getLast?.map Interval.frames).getD 0, postN := s.rf .acq a 5 23 0,
    flags := pre.foldl (fun m i => m ||| fld i.flags 31 24) f.flags, offset := 0, win := .fresh, whole := false }
  let s := s.unitWrite a recno 0 s.now (s.recordHeader a r false)
  let data := s.acqData a
  let (s, off) := pre.foldl (fun (p : State × Nat) i =>
    let ws := i.words data
    if ws.isEmpty then p else (p.1.unitWrite a recno p.2 p.1.now ws, p.2 + ws.length)) (s, 9)
  let r := { r with offset := off, postN := 0 }
  let s := match t with
    | some t => s.lastTrigger a t
    | none => s
  s.setAcq a { s.acq a with rcd := some r, recno := recno, ival := none, pre := [],
                              trigs := x.trigs.filter fun t => decide (f.instant < t.time) }

/-- The record in progress of unit a ends (R369, R371, R382, R387): its measurement words, its final header, and the next
state: DONE, HOLDOFF, ARMED or the next record. -/
def State.endRecord (s : State) (a : Nat) (trunc : Bool) (cyc : Nat) : State :=
  let x := s.acq a
  match x.rcd with
  | none => s
  | some r =>
    let groups := (upto 5).filter fun k => bitsOf (s.acqMeas a) k k == 1
    let (s, _) := groups.foldl (fun (p : State × Nat) k =>
      let ws := r.win.group k
      (p.1.unitWrite a r.recno p.2 p.1.now ws (groups.getLast? == some k), p.2 + ws.length)) (s, r.offset)
    let s := s.unitEndRecord a r.recno s.now (s.recordHeader a r trunc)
    let s := s.count .acq a 0x21
    let logging := s.acqMode a == 2
    let s := s.setAcq a { s.acq a with rcd := none, pre := [], ival := none, trigs := if logging then (s.acq a).trigs else [] }
    let s := if logging then s else s.busyEnds (mkId 6 a) cyc
    let limit := s.rf .acq a 7 31 16
    let done := trunc || s.acqMode a == 0 || (limit != 0 && limit ≤ (s.reg .acq a 0x21).toNat)
    if done then ((s.endDetection a).setAcqState a 4).fire (acqSource a 1) cyc
    else if logging then s
    else if s.rf .acq a 7 15 0 = 0 then (s.setAcq a { s.acq a with primed := false }).setAcqState a 1
    else (s.setAcq a { s.acq a with holdLeft := s.rf .acq a 7 15 0 }).setAcqState a 3

/-- ACQ_RECORD_COMPLETE of unit a in core cycle cyc: a record whose last interval has ended is completed. -/
def State.recordComplete (s : State) (a cyc : Nat) : State :=
  match (s.acq a).rcd with
  | some r => if r.whole then s.endRecord a false cyc else s
  | none => s

/-- The timing group at a frame (R388): a rising crossing needs priming, a good frame before below XLEVEL, and this good
frame at or above it. The answer is the new priming and the crossing time. -/
def State.timingFrame (s : State) (a : Nat) (x : Acq) (f : FrameData) (good : Bool) : Bool × Option Nat :=
  if !good || (f.noI && s.rb .acq a 0 25) then (false, none)
  else
    let cur := s.rb .acq a 0 25
    let y := if cur then f.i else f.v
    let level := s.reg .acq a 8
    let primes := (val y).le ((val level).add (val (s.reg .acq a 9)).neg)
    match x.last with
    | some (v, i, t0) =>
      let y0 := if cur then i else v
      if x.xPrimed && flt y0 level && fle level y then (primes, some (crossTime level y0 y t0 f.instant))
      else (x.xPrimed || primes, none)
    | none => (x.xPrimed || primes, none)

/-- The frame enters the interval in progress of unit a; a full interval is finished, and becomes a pre-trigger interval or
an entry of the record in progress (R373-R375, R382, R385, R386). -/
def State.takeInterval (s : State) (a : Nat) (f : FrameData) (good : Bool) : State :=
  let x := s.acq a
  let o := ((x.ival.getD (.begin f.instant)).take f good)
  if o.frames < s.acqN a then s.setAcq a { x with ival := some o, taken := some f.instant }
  else
    let i := o.finish
    let x := { x with ival := none, taken := some f.instant }
    match x.rcd with
    | none =>
      let pre := x.pre ++ [i]
      s.setAcq a { x with pre := pre.drop (pre.length - 896) }
    | some r =>
      let ws := i.words (s.acqData a)
      let n := r.postN + 1
      let whole := decide (s.rf .acq a 5 23 0 ≤ n)
      let s := if ws.isEmpty then s else s.unitWrite a r.recno r.offset s.now ws (whole && s.acqMeas a == 0)
      let r := { r with postN := n, offset := r.offset + ws.length, whole := whole }
      s.setAcq a { x with rcd := some r }

/-- State bit ABOVE (R393). -/
def State.aboveFrame (s : State) (a : Nat) (f : FrameData) (good : Bool) : State :=
  let cur := s.rb .acq a 1 27
  if !good || (cur && s.noCurrent a) then s
  else
    let y := if cur then f.i else f.v
    if fle (s.reg .acq a 2) y then s.setRb .acq a 0x20 26 true
    else if (val y).le ((val (s.reg .acq a 2)).add (val (s.reg .acq a 3)).neg) then s.setRb .acq a 0x20 26 false
    else s

/-- A frame of channel a reaches its unit. -/
def State.acqFrame (s : State) (a : Nat) (f : FrameData) : State :=
  let good := s.goodFrame a f.flags
  let s := s.aboveFrame a f good
  let s := s.recordComplete a f.cyc
  if !s.acqRuns a then s
  else
    let x := s.acq a
    let d0 := x.det
    let d := if s.detOn a && good then s.detectFrame a d0 f else d0
    let (xPrimed, crossing) := s.timingFrame a x f good
    let levelOn := s.rb .acq a 1 31 && !(s.rb .acq a 1 27 && s.noCurrent a) && (s.acqState a == 1 || s.acqState a == 5 ||
      s.acqState a == 2 || s.acqState a == 3)
    let (primed, fired) := if levelOn && good then s.levelTrigger a x f else (x.primed, none)
    let s := s.setAcq a { x with det := d, xPrimed := xPrimed, primed := primed }
    let s : State := match fired with
      | some t => s.acqTrigger a t
      | none => s
    let x := s.acq a
    let due := x.trigs.filter fun t => decide (t.time ≤ f.instant)
    let s : State :=
      if s.acqState a = 1 && !due.isEmpty then
        ((s.beginRecord a due f).setAcqState a 2).fire (acqSource a 0) f.cyc
      else if s.acqState a = 5 && x.rcd.isNone then s.beginRecord a due f
      else if s.acqState a = 5 && !due.isEmpty then
        match x.rcd with
        | some r =>
          let trig := r.trig.orElse fun _ => decideTrigger due
          let s := match r.trig, trig with
            | none, some t => s.lastTrigger a t
            | _, _ => s
          let n := ((due.filter fun t => t.cause == .event).map Trigger.arrivals).sum
          s.setAcq a { x with trigs := x.trigs.filter (fun t => decide (f.instant < t.time)),
                              rcd := some { r with trig := trig, arrivals := r.arrivals + n,
                                                   coincident := r.coincident || due.any fun t => 2 ≤ t.arrivals } }
        | none => s
      else s
    let s : State :=
      if s.acqState a = 3 then
        let x := s.acq a
        let s := s.setAcq a { x with holdLeft := x.holdLeft - 1 }
        if x.holdLeft ≤ 1 then s.busyEnds (mkId 6 a) f.cyc else s
      else
        let x := s.acq a
        let s : State := match x.rcd with
          | some r =>
            let w := r.win.take f good d.inForce (d.toStart && !d0.toStart)
            let w := match crossing with
              | some t => w.cross t
              | none => w
            s.setAcq a { x with rcd := some { r with win := w, flags := r.flags ||| f.flags } }
          | none => s
        s.takeInterval a f good
    s.setAcq a { s.acq a with last := if good then some (f.v, f.i, f.instant) else none, seen := some f.instant }

/-! ## Events of a unit -/

/-- ACQ_HOLDOFF_END of unit a: the unit returns to ARMED, its priming and pre-trigger intervals formed afresh (R369). -/
def State.holdoffEnd (s : State) (a : Nat) : State :=
  if s.acqState a = 3 && (s.acq a).holdLeft = 0 then
    (s.setAcq a { s.acq a with primed := false, pre := [], ival := none, trigs := [] }).setAcqState a 1
  else s

/-- DETECTION_START of unit a in core cycle cyc (R390, R391). -/
def State.detectionStart (s : State) (a cyc : Nat) : State :=
  let x := s.acq a
  if !x.det.toStart then s
  else
    (((s.setAcq a { x with det := { x.det with toStart := false } }).count .acq a 0x23).setRb .acq a 0x20 27 true).fire
      (acqSource a 2) cyc

/-- DETECTION_END of unit a in core cycle cyc (R390-R392). -/
def State.detectionEnd (s : State) (a cyc : Nat) : State :=
  let x := s.acq a
  match x.det.toEnd with
  | none => s
  | some e =>
    let s := s.setAcq a { x with det := { x.det with toEnd := none } }
    let s := (s.setRb .acq a 0x20 27 x.det.inForce).fire (acqSource a 3) cyc
    s.detRecord a x.det (some e)

/-- ACQ.ARM takes effect for unit a (R367, R368, R379, R402). -/
def State.acqArm (s : State) (a : Nat) : State :=
  let s := ([0x21, 0x22, 0x23, 0x24].foldl (fun s f => s.setReg .acq a f 0) s).setRb .acq a 0x20 27 false
  (s.setAcq a { Acq.fresh with detTimes := (s.acq a).detTimes }).setAcqState a (if s.acqMode a = 2 then 5 else 1)

/-- ACQ.STOP acts on unit a (R371): a record in progress is truncated and the unit is DONE. -/
def State.acqStop (s : State) (a : Nat) : State :=
  if !s.acqRuns a then s
  else if (s.acq a).rcd.isSome then s.endRecord a true (s.chanCycle a)
  else
    let s := if s.acqState a = 3 then s.busyEnds (mkId 6 a) (s.chanCycle a) else s
    let s := s.endDetection a
    ((s.setAcq a { s.acq a with ival := none, pre := [], trigs := [] }).setAcqState a 4).fire (acqSource a 1) (s.chanCycle a)

/-- The unit of a channel whose link fails (R372); the state bit ABOVE reads 0 (R393). -/
def State.acqAbort (s : State) (a : Nat) : State :=
  let s : State := if s.acqRuns a then (s.acqStop a).notify 0x0301 .acq a [] else s
  s.setRb .acq a 0x20 26 false

/-- ACQ.FORCE acts on unit a at the boundary now (R376, R638). -/
def State.acqForce (s : State) (a : Nat) : State := s.acqTrigger a ⟨.software, s.now * 128, 0, false, false, false⟩

/-- An event activation of unit a in core cycle cyc with an arrival count (R370, R376): the trigger time is that of the
arrival, or the stamp of the chosen TRIG pin's latest edge within 64 core cycles. -/
def State.acqEvent (s : State) (a cyc arrivals : Nat) : State :=
  if !s.rb .acq a 1 30 then s
  else
    let arrival := s.fineTime cyc
    if s.rb .acq a 1 26 then
      let pin := s.rf .acq a 1 25 22
      let edges := s.stamps.filter fun e => e.1 == pin && e.2.1 ≤ cyc && cyc ≤ e.2.1 + 64
      match edges.getLast? with
      | some e => s.acqTrigger a ⟨.event, e.2.2, arrivals, false, false, false⟩
      | none => s.acqTrigger a ⟨.event, arrival, arrivals, true, false, false⟩
    else s.acqTrigger a ⟨.event, arrival, arrivals, false, false, false⟩

/-! ## Pattern triggers (R393-R395) -/

/-- The four state bits of channel c, S3 in bit 3. -/
def State.stateBits (s : State) (c : Nat) : Nat :=
  if !s.trained c then 0
  else (s.chState c == chArmed).toNat * 8 + (s.inCompliance c).toNat * 4 + (s.rb .acq c 0x20 27).toNat * 2 +
    (s.rb .acq c 0x20 26).toNat

/-- The state bits that a device frame boundary sees: step 10 of the frame that begins with a boundary has not been done when
the next one comes where the channel stands at position 6 or 7, and the bits of the frame before count (R393; DEDUCED, log entry
125). -/
def State.seenBits (s : State) (c : Nat) : Nat :=
  if c % 8 < 6 then s.stateBits c else if s.trained c then findD s.lateBits 0 c else 0

/-- The state bits of the channels at positions 6 and 7 are kept for the next boundary. -/
def State.keepBits (s : State) : State :=
  let late := (s.listed .chan 0x52 0).filter fun c => 6 ≤ c % 8
  { s with lateBits := late.foldl (fun l c => store l 0 c (s.stateBits c)) [] }

/-- Whether pattern p matches on given state bits. -/
def State.patternMatches (s : State) (p : Nat) (bits : Nat → Nat) : Bool :=
  (upto 64).all fun g =>
    let value := (s.regAt .pattern p (0x10 + g) 0).toNat
    let care := (s.regAt .pattern p (0x10 + g) 1).toNat
    care == 0 || (((upto 8).map fun k => bits (8 * g + k) * 16 ^ k).sum ^^^ value) &&& care == 0

/-- The enabled patterns. -/
def State.enabledPatterns (s : State) : List Nat := (s.listed .pattern 0 0).filter fun p => s.rb .pattern p 0 31

/-- The enabled patterns are evaluated at n boundaries that see the same state bits (R395). -/
def State.evalAlike (s : State) (n : Nat) (bits : Nat → Nat) : State :=
  s.each s.enabledPatterns fun s p =>
    let m := s.patternMatches p bits
    let run := if m then min 0xFFFF (s.rf .pattern p 0x80 15 0 + n) else 0
    let s := s.setReg .pattern p 0x80 (word (m.toNat * 2 ^ 31 + run))
    if m then s else { s with patternFired := s.patternFired.filter fun q => q != p }

/-- Evaluate the enabled patterns at n boundaries between which no state bit changes (R393, R395). -/
def State.evalPatterns (s : State) (n : Nat) : State :=
  let first := (s.evalAlike (min n 1) s.seenBits).keepBits
  if n ≤ 1 then first else first.evalAlike (n - 1) first.seenBits

/-- PATTERN_FIRE of pattern p in core cycle cyc: RUN has reached HOLD (R395). -/
def State.patternFire (s : State) (p cyc : Nat) : State :=
  if s.rb .pattern p 0 31 && s.rf .pattern p 0 15 0 ≤ s.rf .pattern p 0x80 15 0 && s.rb .pattern p 0x80 31 &&
      !s.patternFired.contains p then
    (({ s with patternFired := s.patternFired ++ [p] }).count .pattern p 0x81).fire (mkId 7 p) cyc
  else s

end Sys2Proof.Machine
end

