-- ==== Sys2Proof/Machine/LinkBlocks.lean ====
section
/-!
DEFINITION. Blocks of a head link as they are sent and received: the scrambler, the check of an upstream fast block, and what one of the
vector layout reports (R322, R323, R449, R450, R454, R455, R464).
-/

namespace Sys2Proof.Machine

/-- A 64-bit payload by number. -/
def block (n : Nat) : Block := BitVec.ofNat 64 n

/-! ## The scrambler (R450)

A payload bit is sent, and received, after the 58 bits before it, of which the latest stands in bit 57. -/

/-- The payload a receiver takes from 64 received bits: each is added to the bits received 39 and 58 before it. -/
def descramble (before : BitVec 58) (p : Block) : Block :=
  let stream : BitVec 122 := p ++ before
  p ^^^ (stream >>> 19).setWidth 64 ^^^ stream.setWidth 64

/-- The bits sent for a payload: the first 39 depend on bits of earlier blocks alone, the others on those too. -/
def scramble (before : BitVec 58) (p : Block) : Block :=
  let early : Block := before.setWidth 64
  let first : BitVec 39 := (p ^^^ early >>> 19 ^^^ early).setWidth 39
  let stream : BitVec 97 := first ++ before
  p ^^^ (stream >>> 19).setWidth 64 ^^^ stream.setWidth 64

/-- The last 58 bits of a sent or received payload. -/
def lastBits (p : Block) : BitVec 58 := (p >>> 6).setWidth 58

/-- The payloads a receiver takes from consecutive blocks. -/
def descrambleAll : BitVec 58 → List Block → List Block
  | _, [] => []
  | before, p :: r => descramble before p :: descrambleAll (lastBits p) r

/-- The payload of a received block. -/
def payloadIn (r : Received) : Block := descramble r.before r.bits

/-- The upstream fast block has a valid sync header and a good CRC-16, which runs over RP and its bits 47 to 0 (R454, R464). -/
def fastBlockOk (header : Nat) (b : Block) : Bool :=
  (header == 1 || header == 2) && crc16Bits ((header == 1) :: bitsMsb 48 (b.toNat % 2 ^ 48)) == b.toNat / 2 ^ 48

/-- What an upstream fast block of the vector layout reports of a pin's strobe by its place in the block: above VOH, below VOL. None
where the block did not arrive, fails its check or carries no such result (R322, R455). -/
def readCompare (r : Option Received) (place : Nat) : Option (Bool × Bool) :=
  match r with
  | none => none
  | some r =>
    let n := (payloadIn r).toNat
    if fastBlockOk r.header (payloadIn r) && decide (place < min 4 (bitsOf n 47 45)) then
      some (bitsOf n (44 - 2 * place) (44 - 2 * place) == 1, bitsOf n (43 - 2 * place) (43 - 2 * place) == 1)
    else none

/-- CLAMP of an upstream fast block of the vector layout that arrived well (R323, R455). -/
def readClamp (r : Option Received) : Bool :=
  match r with
  | none => false
  | some r => fastBlockOk r.header (payloadIn r) && bitsOf (payloadIn r).toNat 36 36 == 1

end Sys2Proof.Machine
end

