-- ==== Sys2Proof/Machine/Sweep.lean ====
section
/-!
DEFINITION. The point store and the sweep descriptors: expansion, list sources, regeneration (R240-R255, R718).
-/

namespace Sys2Proof.Machine

/-! ## Entries of 144 bits in DRAM (R241, R308) -/

/-- An entry as the device writes it: its payload under CHECK, the CRC-16 of the payload, high bit first. -/
def protect (p : BitVec 128) : BitVec 144 :=
  BitVec.ofNat 144 (crc16Bits (bitsMsb 128 p.toNat) * 2 ^ 128 + p.toNat)

/-- The payload of an entry. -/
def payload (e : BitVec 144) : BitVec 128 := BitVec.ofNat 128 e.toNat

/-- CHECK of an entry agrees with its payload. -/
def intact (e : BitVec 144) : Bool := protect (payload e) == e

/-- An entry nothing has been written into: payload 0 under a good CHECK (DESIGN CHOICE, log entry 8). -/
def blank : BitVec 144 := protect 0

/-- The sixteen entries of granule g of a memory. -/
def granuleOf (m : List (Nat × BitVec 144)) (g : Nat) : List (BitVec 144) :=
  (upto 16).map fun i => findD m blank (16 * g + i)

/-- DRAM has inverted bits of granule g since its last access. -/
def decay (m : List (Nat × BitVec 144)) (g : Nat) (bits : List Nat) : List (Nat × BitVec 144) :=
  bits.foldl (fun m k =>
    let i := 16 * g + k / 144
    store m blank i (findD m blank i ^^^ BitVec.ofNat 144 (2 ^ (k % 144)))) m

/-! ## Entries of the point store (R240) -/

/-- Payload of entry x of the point store. -/
def State.point (s : State) (x : Nat) : BitVec 128 := payload (findD s.points blank x)

/-- VALUE of an entry. -/
def ptValue (p : BitVec 128) : Word := word (bitsOf p.toNat 127 96)
/-- CMP_HI. -/
def ptCmpHi (p : BitVec 128) : Word := word (bitsOf p.toNat 95 64)
/-- CMP_LO. -/
def ptCmpLo (p : BitVec 128) : Word := word (bitsOf p.toNat 63 32)
/-- DWELL; 0 marks a skip entry. -/
def ptDwell (p : BitVec 128) : Nat := bitsOf p.toNat 31 16
/-- MARK. -/
def ptMark (p : BitVec 128) : Nat := bitsOf p.toNat 15 12
/-- ACQ. -/
def ptAcq (p : BitVec 128) : Bool := bitsOf p.toNat 11 11 == 1
/-- CMP_EN. -/
def ptCmpEn (p : BitVec 128) : Bool := bitsOf p.toNat 10 10 == 1
/-- CMPQ: the current is compared. -/
def ptCmpCurrent (p : BitVec 128) : Bool := bitsOf p.toNat 9 9 == 1

/-- The payload of four words, the first the most significant (R642). -/
def payloadOf (l : List Word) : BitVec 128 := BitVec.ofNat 128 (ofWords (l.take 4))

/-- The payload an expansion writes. -/
def mkPoint (value hi lo : Word) (dwell mark : Nat) (acq cmpEn cmpCurrent : Bool) : BitVec 128 :=
  BitVec.ofNat 128 (value.toNat * 2 ^ 96 + hi.toNat * 2 ^ 64 + lo.toNat * 2 ^ 32 + dwell * 2 ^ 16 + mark * 2 ^ 12 +
    acq.toNat * 2 ^ 11 + cmpEn.toNat * 2 ^ 10 + cmpCurrent.toNat * 2 ^ 9)

/-! ## Descriptors -/

/-- A descriptor nothing has been done with. -/
def Sweep.fresh : Sweep := ⟨none, false, []⟩

/-- Descriptor d beside its fields. -/
def State.sweep (s : State) (d : Nat) : Sweep := findD s.sweeps Sweep.fresh d

/-- Replace descriptor d's part beside its fields. -/
def State.setSweep (s : State) (d : Nat) (x : Sweep) : State := { s with sweeps := store s.sweeps Sweep.fresh d x }

/-- STATE: 0 EMPTY, 1 EXPANDING, 2 READY, 3 FAULT. -/
def State.sweepState (s : State) (d : Nat) : Nat := s.rf .sweep d 0x20 31 28

/-- Write STATE. -/
def State.setSweepState (s : State) (d v : Nat) : State := s.setRf .sweep d 0x20 31 28 v

/-- LENGTH.ENTRIES. -/
def State.sweepLength (s : State) (d : Nat) : Nat := s.rf .sweep d 0x21 24 0

/-- KIND: 1 LIST, 2 LINEAR, 3 LOG, 4 STAIR, 5 PULSE, 6 STREAM. -/
def State.sweepKind (s : State) (d : Nat) : Nat := s.rf .sweep d 0 31 28

/-! ## List sources (R252, R253) -/

/-- The CRC-32 of a list-source granule, over its payloads in order, each most significant byte first (DESIGN CHOICE, log entry 108). -/
def listCheck (l : List (BitVec 128)) : Nat := crc32 (l.flatMap fun p => bytesOf 16 p.toNat)

/-- A list-source granule whose storage has just been taken. -/
def ListGranule.fresh : ListGranule := ⟨[], List.replicate 16 0, listCheck (List.replicate 16 0)⟩

/-- Its payloads agree with its CRC-32. -/
def ListGranule.intact (g : ListGranule) : Bool := g.check == listCheck g.data

/-- Write one of its entries. -/
def ListGranule.put (g : ListGranule) (i : Nat) (p : BitVec 128) : ListGranule :=
  { g with written := if g.written.contains i then g.written else g.written ++ [i], data := g.data.set i p }

/-- DRAM has inverted bits of it: bits 128 i on are those of entry i, bits 2,048 on those of the CRC-32. -/
def ListGranule.decay (g : ListGranule) (bits : List Nat) : ListGranule :=
  { g with
    data := g.data.zipIdx.map fun p => invertIn bits p.2 p.1
    check := bits.foldl (fun c k => if 2048 ≤ k then c ^^^ 2 ^ (k - 2048) else c) g.check }

/-- Entry i of the list source. -/
def Sweep.listEntry (x : Sweep) (i : Nat) : BitVec 128 := ((find x.sources (i / 16)).getD .fresh).data.getD (i % 16) 0

/-- List entry i has been written. -/
def Sweep.listWritten (x : Sweep) (i : Nat) : Bool :=
  match find x.sources (i / 16) with
  | some g => g.written.contains (i % 16)
  | none => false

/-- Write list entries from an offset on; every granule written into has its CRC-32 formed anew. -/
def Sweep.writeList (x : Sweep) (first : Nat) (l : List (BitVec 128)) : Sweep :=
  let sources := l.zipIdx.foldl (fun m p =>
    let i := first + p.2
    insertKey m (i / 16) (((find m (i / 16)).getD .fresh).put (i % 16) p.1)) x.sources
  let touched := ((upto l.length).map fun i => (first + i) / 16).eraseDups
  { x with sources := touched.foldl (fun m g => match find m g with
      | some y => insertKey m g { y with check := listCheck y.data }
      | none => m) sources }

/-- DRAM has inverted bits of granule k of the list source. -/
def Sweep.decayList (x : Sweep) (k : Nat) (bits : List Nat) : Sweep :=
  match find x.sources k with
  | some g => { x with sources := insertKey x.sources k (g.decay bits) }
  | none => x

/-- Granule k of the list source passes its CRC-32; one that holds nothing has none. -/
def Sweep.listGood (x : Sweep) (k : Nat) : Bool :=
  match find x.sources k with
  | some g => g.intact
  | none => true

/-- The applied fields of descriptor d as an expansion uses them. -/
def State.sweepFields (s : State) (d : Nat) : Expanded where
  kind := s.sweepKind d
  cfg := s.reg .sweep d 0
  base := s.rf .sweep d 1 23 0
  n := s.rf .sweep d 2 24 0
  start := s.reg .sweep d 3
  stop := s.reg .sweep d 4
  step := s.reg .sweep d 5
  level := s.reg .sweep d 6
  timing := s.reg .sweep d 7
  cmpHi := s.reg .sweep d 8
  cmpLo := s.reg .sweep d 9

/-- Entries an expansion produces before padding (R248). -/
def Expanded.produced (x : Expanded) : Nat :=
  match x.kind with
  | 5 => 2 * x.n
  | 6 => 0
  | _ => x.n

/-- LENGTH.ENTRIES: padded to 64 entries or to the next multiple of 16 (R249); a STREAM reserves its ring. -/
def Expanded.length (x : Expanded) : Nat :=
  if x.kind = 6 then x.n
  else if x.produced < 64 then 64
  else ceilDiv x.produced 16 * 16

/-- h = (STOP − START) / (N − 1) in binary32. -/
def Expanded.slope (x : Expanded) : Word :=
  fdiv (toF32 ((val x.stop).add (val x.start).neg)) (ofInt (x.n - 1 : Nat))

/-- fma(i, h, v) of binary32 that keeps subnormal results (R248). -/
def pointFma (i : Nat) (h v : Word) : Word := toF32 (((numOf i 0).mul (val h)).add (val v))

/-- The level of linear point i. -/
def Expanded.linear (x : Expanded) (i : Nat) : Word :=
  if x.n = 1 then x.start
  else if i + 1 = x.n then x.stop
  else pointFma i x.slope x.start

/-- The level of logarithmic point i: START × exp(i × ln(STOP / START) / (N − 1)), each operation in binary64 (R248). -/
def Expanded.logarithmic (x : Expanded) (i : Nat) : Word :=
  if x.n = 1 then x.start
  else if i + 1 = x.n then x.stop
  else
    let l := dln (ddiv (widen x.stop) (widen x.start))
    narrow (dmul (widen x.start) (dexp (ddiv (dmul (dofInt i) l) (dofInt (x.n - 1 : Nat)))))

/-- The value v_i of point i of the kinds that form one (R248). -/
def Expanded.value (x : Expanded) (i : Nat) : Word :=
  match x.kind with
  | 3 => x.logarithmic i
  | 4 => if x.n = 1 then x.start else pointFma i x.step x.start
  | _ => x.linear i

/-- A point entry with flags, limits and DWELL from CFG, CMP_HI, CMP_LO and TIMING. -/
def Expanded.entryOf (x : Expanded) (v : Word) : BitVec 128 :=
  mkPoint v x.cmpHi x.cmpLo (fld x.timing 31 16) (fld x.cfg 23 20) (bitAt x.cfg 19) (bitAt x.cfg 18) (bitAt x.cfg 17)

/-- Entry k of an expansion, k counting from BASE.INDEX; source holds the list source. -/
def Expanded.entry (x : Expanded) (source : Sweep) (k : Nat) : BitVec 128 :=
  let e : BitVec 128 :=
    if x.produced ≤ k then 0
    else match x.kind with
      | 1 => source.listEntry k
      | 5 => if k % 2 = 0 then x.entryOf (x.linear (k / 2)) else mkPoint x.level 0 0 (fld x.timing 15 0) 0 false false false
      | _ => x.entryOf (x.value k)
  if k = 0 then e ||| BitVec.ofNat 128 (fld x.cfg 27 24 * 2 ^ 12) else e

/-! ## The checks of EXPAND (R247, R718) -/

/-- The values a kind uses (R246). -/
def Expanded.used (x : Expanded) : List Word :=
  match x.kind with
  | 2 | 3 => [x.start, x.stop, x.cmpHi, x.cmpLo]
  | 4 => [x.start, x.step, x.cmpHi, x.cmpLo]
  | 5 => [x.start, x.stop, x.level, x.cmpHi, x.cmpLo]
  | _ => []

/-- The E_LIMIT cases of R247. -/
def Expanded.limitsOk (x : Expanded) : Bool :=
  1 ≤ x.kind && x.kind ≤ 6 && x.base % 16 = 0 && 1 ≤ x.n && x.n ≤ (if x.kind = 5 then 2 ^ 23 else 2 ^ 24) &&
    x.base + x.length ≤ 2 ^ 24 &&
    !(2 ≤ x.kind && x.kind ≤ 5 && fld x.timing 31 16 == 0) && !(x.kind == 5 && fld x.timing 15 0 == 0) &&
    x.used.all isFin &&
    !(x.kind == 3 && 2 ≤ x.n &&
      (feq x.start 0 || feq x.stop 0 || bitAt x.start 31 != bitAt x.stop 31)) &&
    !(x.kind == 6 && (x.n % 16 != 0 || x.n < 128))

/-- Whether two runs of entries overlap. -/
def runsOverlap (a n b m : Nat) : Bool := decide (a < b + m ∧ b < a + n)

/-- The checks of R247 for descriptor d with the fields x. -/
def State.expandCheck (s : State) (d : Nat) (x : Expanded) : Except Denial Unit := do
  require x.limitsOk .limit
  let others := s.sweeps.filter fun e =>
    e.1 != d && (e.2.accepted || s.sweepState e.1 == 1 || s.sweepState e.1 == 2)
  require (others.all fun e => match e.2.from? with
    | some y => !runsOverlap x.base x.length y.base y.length
    | none => true) .overlap
  require (x.kind != 1 || (upto x.n).all fun i => (s.sweep d).listWritten i) .notReady

/-! ## Expansion (R248-R251) -/

/-- Write the listed entries of descriptor d into the point store, each with its CHECK (R241). -/
def State.writeEntries (s : State) (d : Nat) (x : Expanded) (l : List Nat) : State :=
  let source := s.sweep d
  { s with points := l.foldl (fun m k => store m blank (x.base + k) (protect (x.entry source k))) s.points }

/-- The least and the greatest VALUE of the entries that are not skip entries; 0 where there is none. -/
def State.valueSpan (s : State) (base n : Nat) : Word × Word :=
  let vs := (upto n).filterMap fun k =>
    let p := s.point (base + k)
    if ptDwell p = 0 then none else some (ptValue p)
  match vs with
  | [] => (0, 0)
  | v :: r => (r.foldl fmin v, r.foldl fmax v)

/-- EXPAND takes effect: the expansion runs on the values its acceptance checked; the bit reads 1 until it has ended
(R14, R250, R718). -/
def State.expandStart (s : State) (d : Nat) : State := s.setSweepState d 1

/-- An EXPAND of descriptor d is accepted with the values x: the expansion will use exactly these (R718). -/
def State.expandAccepted (s : State) (d : Nat) (x : Expanded) : State :=
  s.setSweep d { s.sweep d with from? := some x, accepted := true }

/-- List source granule k of descriptor d has failed its CRC-32 (R255). -/
def State.listFault (s : State) (d k : Nat) : State :=
  ((s.setSweepState d 3).dramCheck (listRegion k)).notify 0x0203 .sweep d [k]

/-- EXPANSION_DONE of descriptor d, with the bits of its list-source granules that DRAM has inverted since their last access: the
descriptor is READY; or FAULT where a lasting DRAM fault interrupted it, or where the list source fails a check (R250, R255). -/
def State.expansionDone (s : State) (d : Nat) (how : ExpansionEnd) : State :=
  if s.sweepState d ≠ 1 then s
  else
    let x := how.inverted.foldl (fun (x : Sweep) e => x.decayList e.1 e.2) (s.sweep d)
    let s := (s.setSweep d { x with accepted := false }).setRb .sweep d 0xA 31 false
    match x.from? with
    | none => s
    | some e =>
      if how.interrupted then s.setSweepState d 3
      else if e.kind = 1 && !(upto (ceilDiv e.n 16)).all x.listGood then
        s.listFault d (((upto (ceilDiv e.n 16)).find? fun k => !x.listGood k).getD 0)
      else
        let s : State := if e.kind = 6 then s else s.writeEntries d e (upto e.length)
        let span := if e.kind = 6 then (0, 0) else s.valueSpan e.base e.length
        ((((s.setReg .sweep d 0x21 (word e.length)).setReg .sweep d 0x22 span.1).setReg .sweep d 0x23 span.2).setReg
          .sweep d 0x24 0).setSweepState d 2

/-- The descriptor runs for R31 from the acceptance of an EXPAND until STATE leaves EXPANDING (R718). -/
def State.expanding (s : State) (d : Nat) : Bool := (s.sweep d).accepted || s.sweepState d == 1

/-- RELEASE acts: the descriptor is EMPTY and its list source is freed (R246, R253). -/
def State.releaseSweep (s : State) (d : Nat) : State :=
  let s := s.setRb .sweep d 0xA 30 false
  (([0x21, 0x22, 0x23, 0x24].foldl (fun s f => s.setReg .sweep d f 0) s).setSweep d .fresh).setSweepState d 0

/-- A write of CFG that changes KIND from LIST releases the list source (R253). -/
def State.sweepKindWritten (s : State) (d : Nat) : State :=
  if s.sweepKind d = 1 || (s.sweep d).sources.isEmpty then s
  else s.setSweep d { s.sweep d with sources := [] }

/-! ## Regeneration (R254, R255) -/

/-- The descriptor that occupies granule g of the point store. One that a granule of its list source has set to FAULT still serves
the other granules of a run (R254, R255). -/
def State.sweepOfGranule (s : State) (g : Nat) : Option (Nat × Expanded) :=
  s.sweeps.findSome? fun e =>
    match e.2.from? with
    | some x =>
      if (s.sweepState e.1 == 2 || s.sweepState e.1 == 3) && x.base ≤ 16 * g && decide (16 * g < x.base + x.length) then some (e.1, x) else none
    | none => none

/-- Regenerate granule g from its descriptor and count it (R254). inverted are the bits of its list-source granule that DRAM has inverted
since the last access; one that fails its CRC-32 sets the descriptor to FAULT (R255). The answer says whether the granule is good. -/
def State.regenerate (s : State) (g : Nat) (inverted : List Nat) : Bool × State :=
  match s.sweepOfGranule g with
  | none => (false, s)
  | some (d, x) =>
    let k := (16 * g - x.base) / 16
    let listed := x.kind == 1 && decide (16 * k < x.n)
    let source := (s.sweep d).decayList k inverted
    let s := if listed then s.setSweep d source else s
    if listed && !source.listGood k then (false, s.listFault d k)
    else
      (true, (s.writeEntries d x ((upto 16).map fun i => 16 * g - x.base + i)).count .sweep d 0x24)

end Sys2Proof.Machine
end

