-- ==== Sys2Proof/Machine/Sequencer.lean ====
section
/-!
DEFINITION. The channel and bank sequencers: programs, latches, decisions, caches, underruns, the resampler (R256-R303,
R307-R331, R721). A channel sequencer works at the boundary now, a bank sequencer at its next issue boundary.
-/

namespace Sys2Proof.Machine

/-! ## A sequencer beside its fields -/

/-- A sequencer from power-up. -/
def Seq.fresh : Seq where
  exec := false
  playing := false
  atEnd := false
  stopAtEnd := false
  stopNext := false
  counters := [some 0, some 0, some 0, some 0]
  done := 0
  phase := 0
  phaseAt := 0
  hist := []
  left := 0
  sumV := 0
  sumI := 0
  good := 0
  waitFrom := 0
  released := none
  underrun := none
  frozenIn := 0
  frozenAt := 0
  next := 0
  tset := 0
  tsetNext := none
  held := 0
  levelBefore := none
  cache := []
  wanted := []
  units := []
  corrupt := []
  streamBase := 0
  streamed := []
  issued := []
  drive := []
  placed := []
  ingress := 0
  port := .a

/-- Sequencer q beside its fields. -/
def State.seqx (s : State) : SeqRef → Seq
  | .chan c => findD s.seqs Seq.fresh c
  | .bank b => findD s.bseqs Seq.fresh b

/-- Replace sequencer q's part beside its fields. -/
def State.setSeqx (s : State) (q : SeqRef) (x : Seq) : State :=
  match q with
  | .chan c => { s with seqs := store s.seqs Seq.fresh c x }
  | .bank b => { s with bseqs := store s.bseqs Seq.fresh b x }

/-- The object type of a sequencer. -/
def SeqRef.obj : SeqRef → Obj
  | .chan _ => .seq
  | .bank _ => .bseq

/-- Its number. -/
def SeqRef.num : SeqRef → Nat
  | .chan c => c
  | .bank b => b

/-- It is a bank sequencer. -/
def SeqRef.isBank : SeqRef → Bool
  | .chan _ => false
  | .bank _ => true

/-- Its bank, whose record FIFO takes its gap markers. -/
def SeqRef.bankNum : SeqRef → Nat
  | .chan c => bankOf c
  | .bank b => b

/-- Its master identifier (R24). -/
def SeqRef.master : SeqRef → Nat
  | .chan c => 0x3000 + c
  | .bank b => 0x4000 + b

/-- STATE.RUN: 0 IDLE, 1 RUNNING, 2 WAITING, 3 UNDERRUN, 4 PARKED, 5 FROZEN, 6 DONE. -/
def State.run (s : State) (q : SeqRef) : Nat := s.rf q.obj q.num 0x60 31 28

/-- Write STATE.RUN. -/
def State.setRun (s : State) (q : SeqRef) (v : Nat) : State := s.setRf q.obj q.num 0x60 31 28 v

/-- The sequencer runs in the sense of R31 (R264). -/
def State.seqRuns (s : State) (q : SeqRef) : Bool := 1 ≤ s.run q && s.run q ≤ 5

/-- STATE.PC. -/
def State.pc (s : State) (q : SeqRef) : Nat := s.rf q.obj q.num 0x60 20 13

/-- Write STATE.PC. -/
def State.setPc (s : State) (q : SeqRef) (v : Nat) : State := s.setRf q.obj q.num 0x60 20 13 v

/-- The open latches, as bits 6-3 EVT3-EVT0, 2 CMPF, 1 CMPP, 0 COMPL. -/
def State.latches (s : State) (q : SeqRef) : Nat := s.rf q.obj q.num 0x60 27 21

/-- Write the open latches. -/
def State.setLatches (s : State) (q : SeqRef) (v : Nat) : State := s.setRf q.obj q.num 0x60 27 21 v

/-- Set latch bits. -/
def State.latch (s : State) (q : SeqRef) (bits : Nat) : State := s.setLatches q (s.latches q ||| bits)

/-- STATE.SEG. -/
def State.segNum (s : State) (q : SeqRef) : Nat := s.rf q.obj q.num 0x60 12 7

/-- POSITION. -/
def State.position (s : State) (q : SeqRef) : Nat := (s.reg q.obj q.num 0x61).toNat

/-- Write POSITION. -/
def State.setPosition (s : State) (q : SeqRef) (v : Nat) : State := s.setReg q.obj q.num 0x61 (word v)

/-- UR_ACTION: 0 HOLD_LAST, 1 REPEAT_RESIDENT, 2 SAFE. -/
def State.urAction (s : State) (q : SeqRef) : Nat :=
  if q.isBank then s.rf .bseq q.num 0 31 30 else s.rf .seq q.num 0 29 28

/-- FILL_LOOP. -/
def State.fillLoop (s : State) (q : SeqRef) : Nat :=
  if q.isBank then s.rf .bseq q.num 0 23 16 else s.rf .seq q.num 0 27 20

/-- PROG_LEN: 0 means no program. -/
def State.progLen (s : State) (q : SeqRef) : Nat :=
  if q.isBank then s.rf .bseq q.num 0 7 0 + 1 else s.rf .seq q.num 0 16 8

/-- PC0. -/
def State.pc0 (s : State) (q : SeqRef) : Nat := if q.isBank then s.rf .bseq q.num 0 15 8 else s.rf .seq q.num 1 7 0

/-- CTRL.SWFLAG. -/
def State.swflag (s : State) (q : SeqRef) : Bool := s.rb q.obj q.num (if q.isBank then 0x50 else 0x51) 31

/-- Write CTRL.SWFLAG. -/
def State.setSwflag (s : State) (q : SeqRef) (b : Bool) : State :=
  s.setRb q.obj q.num (if q.isBank then 0x50 else 0x51) 31 b

/-- The length of a vector period in ns (R315, R319). -/
def State.vecPeriod (s : State) (b : Nat) : Nat := s.rf .bseq b 1 18 0 * 25

/-- The boundary at which sequencer q works now, device time. -/
def State.bnd (s : State) (q : SeqRef) : Nat := if q.isBank then (s.seqx q).next else s.now

/-- Time from one boundary of q to the next. -/
def State.bndStep (s : State) (q : SeqRef) : Nat := if q.isBank then s.vecPeriod q.num else 100

/-- The boundary at which q works lies in the present device frame. -/
def State.bndNow (s : State) (q : SeqRef) : Bool := decide (s.bnd q < s.now + 100)

/-- The core cycle of the boundary of q. -/
def State.bndCycle (s : State) (q : SeqRef) : Nat :=
  match q with
  | .chan c => s.chanCycle c
  | .bank _ => s.frameCycle + (s.bnd q - s.now) * 3 / 2

/-- Event e of sequencer q fires at its boundary (R277, R332): 0-3 MK0-MK3, 4 SEGEND, 5 CMPF, 6 UR, 7 DONE. -/
def State.fireSeq (s : State) (q : SeqRef) (e : Nat) : State :=
  s.fire (mkId (if q.isBank then 4 else 3) (8 * q.num + e)) (s.bndCycle q)

/-- Markers MK3-MK0 of a mask fire. -/
def State.markers (s : State) (q : SeqRef) (mask : Nat) : State :=
  s.each ((upto 4).filter fun k => bitsOf mask k k == 1) fun s k => s.fireSeq q k

/-! ## Programs (R271-R273) -/

/-- An instruction (R271). -/
structure SInstr where
  op : Nat
  seg : Nat
  cond : Nat
  target : Nat
  neg : Bool
  arg : Nat
  deriving DecidableEq, Repr

/-- PROG[j] of sequencer q. -/
def State.prog (s : State) (q : SeqRef) (j : Nat) : SInstr :=
  let h := s.regAt q.obj q.num (0x100 + j) 0
  ⟨fld h 31 26, fld h 25 20, fld h 19 16, fld h 15 8, bitAt h 7, (s.regAt q.obj q.num (0x100 + j) 1).toNat⟩

/-- The opcodes (R272, R317). -/
def opHalt : Nat := 0
/-- PLAY. -/
def opPlay : Nat := 1
/-- JUMP. -/
def opJump : Nat := 2
/-- LOOP. -/
def opLoop : Nat := 3
/-- ENDLOOP. -/
def opEndloop : Nat := 4
/-- WAIT. -/
def opWait : Nat := 5
/-- RATE. -/
def opRate : Nat := 6
/-- EMIT. -/
def opEmit : Nat := 7
/-- TSET, of bank sequencers. -/
def opTset : Nat := 8

/-- Whether a condition holds at the boundary of q on given latches (R273). -/
def State.condHolds (s : State) (q : SeqRef) (i : SInstr) (latches : Nat) : Bool :=
  let bit (k : Nat) : Bool := bitsOf latches k k == 1
  let v : Bool := match i.cond with
    | 0x0 => false
    | 0x1 => true
    | 0x2 => bit 3
    | 0x3 => bit 4
    | 0x4 => bit 5
    | 0x5 => bit 6
    | 0x6 => bitsOf latches 6 3 != 0
    | 0x7 => bit 2
    | 0x8 => bit 1 && !bit 2
    | 0x9 => bit 0
    | 0xA => s.swflag q
    | 0xB => s.rf .sync 0 1 23 0 != 0 && s.bnd q % (s.rf .sync 0 1 23 0 * 100) == 0
    | _ => false
  v != i.neg

/-! ## Segments (R243, R262, R315) -/

/-- A segment: its first granule (of 16 points in the point store, or of 8 vectors), its granules, its descriptor, whether it
is pinned and whether it is a stream segment. -/
structure Segm where
  first : Nat
  granules : Nat
  sweep : Nat
  pin : Bool
  stream : Bool
  deriving DecidableEq, Repr

/-- SEG[i] of sequencer q. -/
def State.segm (s : State) (q : SeqRef) (i : Nat) : Segm :=
  let h := s.regAt q.obj q.num (0x10 + i) 0
  let l := s.regAt q.obj q.num (0x10 + i) 1
  if q.isBank then ⟨fld l 31 16, fld l 15 0 + 1, 0, bitAt h 31, false⟩
  else
    let w := s.wide .seq q.num (0x10 + i) 2
    let d := bitsOf w 63 48
    let x := ((s.sweep d).from?).getD (s.sweepFields d)
    ⟨x.base / 16 + bitsOf w 43 24, bitsOf w 19 0 + 1, d, bitsOf w 47 47 == 1, x.kind == 6⟩

/-- Entries (or vectors) to a granule. -/
def SeqRef.perGranule (q : SeqRef) : Nat := if q.isBank then 8 else 16

/-- Items of a segment: entries, or vectors. -/
def Segm.items (g : Segm) (q : SeqRef) : Nat := g.granules * q.perGranule

/-- STREAM_NEXT. -/
def State.streamNext (s : State) (q : SeqRef) : Nat := s.wide .seq q.num 0x66 2

/-- Cache keys of stream granules stand beyond those of the point store; lane granules beyond those of the vectors. -/
def streamKey (g : Nat) : Nat := 2 ^ 20 + g

/-- The cache key of granule k of the segment being played (R287). -/
def State.segKey (s : State) (q : SeqRef) (g : Segm) (k : Nat) : Nat :=
  if g.stream then streamKey ((s.seqx q).streamBase / 16 + k) else g.first + k

/-- The line that holds a granule. -/
def Seq.line (x : Seq) (key : Nat) : Option CacheLine := (x.cache.find? fun e => e.2.key == key).map Prod.snd

/-- A granule is in the cache or window. -/
def Seq.has (x : Seq) (key : Nat) : Bool := (x.line key).isSome

/-- The point that the point store holds for entry k of a channel sequencer's segment. -/
def State.storedPoint (s : State) (q : SeqRef) (g : Segm) (k : Nat) : BitVec 128 :=
  if g.stream then
    let x := ((s.sweep g.sweep).from?).getD (s.sweepFields g.sweep)
    s.point (x.base + ((s.seqx q).streamBase + k) % max 1 x.n)
  else s.point (16 * g.first + k)

/-- Input samples that the stored entry k of a segment is held: streamed entries one (R244, R289). -/
def State.storedDwell (s : State) (q : SeqRef) (g : Segm) (k : Nat) : Nat :=
  if q.isBank || g.stream then 1 else ptDwell (s.storedPoint q g k)

/-- The point a channel sequencer plays at entry k of the segment: what the cache holds, and beyond the cache what the point store
holds. -/
def State.segPoint (s : State) (q : SeqRef) (g : Segm) (k : Nat) : BitVec 128 :=
  match (s.seqx q).line (s.segKey q g (k / 16)) with
  | some l => l.data.getD (k % 16) 0
  | none => s.storedPoint q g k

/-- Input samples an entry is held as it is played. -/
def State.segDwell (s : State) (q : SeqRef) (g : Segm) (k : Nat) : Nat :=
  if q.isBank || g.stream then 1 else ptDwell (s.segPoint q g k)

/-- The first item at or after k that takes sample time. -/
def State.nextItem (s : State) (q : SeqRef) (g : Segm) (k : Nat) : Option Nat :=
  ((upto (g.items q - k)).map (· + k)).find? fun j => s.segDwell q g j != 0

/-! ## Successors (R259) -/

/-- The instructions that can follow instruction j without sample time, both ways of every condition; none beyond a PLAY. -/
def State.flow (s : State) (q : SeqRef) (j : Nat) : List Nat :=
  let i := s.prog q j
  match i.op with
  | 0 => []
  | 2 | 4 | 5 => [i.target, j + 1]
  | _ => [j + 1]

/-- The PLAYs of the program first reached from a list of instructions, all paths followed. -/
def State.playsFrom (s : State) (q : SeqRef) : Nat → List Nat → List Nat → List Nat → List Nat
  | 0, _, _, acc => acc
  | _, [], _, acc => acc
  | fuel + 1, j :: rest, seen, acc =>
    if seen.contains j || s.progLen q ≤ j then s.playsFrom q fuel rest seen acc
    else if (s.prog q j).op = opPlay then s.playsFrom q fuel rest (j :: seen) (acc ++ [j])
    else s.playsFrom q fuel (s.flow q j ++ rest) (j :: seen) acc

/-- The PLAY instructions that can begin at the end of the PLAY at j. -/
def State.successors (s : State) (q : SeqRef) (j : Nat) : List Nat :=
  let i := s.prog q j
  s.playsFrom q 1024 [i.target, j + 1] [] []

/-! ## Caches and windows (R256-R259, R313, R317) -/

/-- Granules of 16 cache entries that the first 64 entries of a segment fill. -/
def headGranules : Nat := 4

/-- The keys of granules a to b - 1 of a segment, within it. -/
def State.keysOf (s : State) (q : SeqRef) (g : Segm) (a b : Nat) : List Nat :=
  ((upto (min b g.granules - a)).map (· + a)).map (s.segKey q g)

/-- The lane granule a vector needs, where lanes are used: 16 lane entries of 32 vectors. -/
def laneKey (v : Nat) : Nat := 2 ^ 20 + v / 512

/-- Lanes are in use on bank b. -/
def State.laneEn (s : State) (b : Nat) : Bool := s.rb .bseq b 0 28

/-- The lane granules of a run of vector granules. -/
def State.laneKeys (s : State) (q : SeqRef) (keys : List Nat) : List Nat :=
  if q.isBank && s.laneEn q.num then (keys.map fun k => laneKey (8 * k)).eraseDups else []

/-- The granules that pinned segments keep (R258, R262). -/
def State.pinnedKeys (s : State) (q : SeqRef) : List Nat :=
  ((upto 64).flatMap fun i =>
    let g := s.segm q i
    if g.pin && !g.stream then s.keysOf q g 0 g.granules else []).eraseDups

/-- The descriptors the program of channel sequencer c plays. -/
def State.sweepsNamed (s : State) (c : Nat) : List Nat :=
  (((upto (s.progLen (.chan c))).filter fun j => (s.prog (.chan c) j).op == opPlay).map fun j =>
    (s.segm (.chan c) (s.prog (.chan c) j).seg).sweep).eraseDups

/-- A running or held sequencer refers to descriptor d (R31, R264). -/
def State.sweepInUse (s : State) (d : Nat) : Bool :=
  (s.listed .seq 0x60 0).any fun c => s.seqRuns (.chan c) && (s.sweepsNamed c).contains d

/-- What the cache is to hold while the PLAY at j plays its segment at an item: pinned segments, the heads of its unpinned
successors and the window of 512 entries ahead (R259). A stream successor begins where this stream segment ends. -/
def State.neededKeys (s : State) (q : SeqRef) (j item : Nat) : List Nat :=
  let g := s.segm q (s.prog q j).seg
  let k := item / q.perGranule
  let heads := (s.successors q j).flatMap fun m =>
    let h := s.segm q (s.prog q m).seg
    if h.pin then []
    else if h.stream then
      let base := if g.stream then (s.seqx q).streamBase / 16 + g.granules else s.streamNext q / 16
      (upto headGranules).map fun i => streamKey (base + i)
    else s.keysOf q h 0 headGranules
  let ahead := if g.pin then [] else s.keysOf q g k (k + 33)
  let keys := (s.pinnedKeys q ++ heads ++ ahead).eraseDups
  (keys ++ s.laneKeys q keys).eraseDups

/-- Granules no longer needed leave the cache, missing ones are requested. -/
def Seq.request (x : Seq) (keys : List Nat) : Seq :=
  let wanted := keys.filter fun k => !x.has k
  { x with
    cache := x.cache.filter fun e => keys.contains e.2.key
    wanted := wanted
    units := x.units.filter fun u => wanted.contains (u / 4) }

/-- Granules no longer needed leave the cache of q, missing ones are requested. -/
def State.request (s : State) (q : SeqRef) (keys : List Nat) : State := s.setSeqx q ((s.seqx q).request keys)

/-- The lines that points, or vectors, may take: cache entries 0 to 127 hold the program (R257, R313). -/
def SeqRef.lines (q : SeqRef) : List Nat := if q.isBank then upto 512 else (upto 248).map (· + 8)

/-- The line a granule enters: the lowest free one (DESIGN CHOICE, log entry 109). -/
def State.freeLine (s : State) (q : SeqRef) : Option Nat :=
  q.lines.find? fun n => (find (s.seqx q).cache n).isNone

/-- Cache entry e of channel sequencer c: two instructions of the program, the lower-numbered in the upper half, or a point; none where
a line holds nothing (R257). -/
def State.cacheEntry (s : State) (c e : Nat) : Option (BitVec 128) :=
  if e < 128 then
    some (BitVec.ofNat 128 (s.wide .seq c (0x100 + 2 * e) 2 * 2 ^ 64 + s.wide .seq c (0x101 + 2 * e) 2))
  else (find (s.seqx (.chan c)).cache (e / 16)).map fun l => l.data.getD (e % 16) 0

/-- The first 64 entries of a segment are in the cache. -/
def State.headCached (s : State) (q : SeqRef) (j : Nat) : Bool :=
  let g := s.segm q (s.prog q j).seg
  let keys := if g.stream then (upto headGranules).map fun i => streamKey (s.streamNext q / 16 + i)
    else s.keysOf q g 0 headGranules
  (keys ++ s.laneKeys q keys).all (s.seqx q).has

/-- The granule (and lane granule) that holds an item of the segment being played is in the cache. -/
def State.itemCached (s : State) (q : SeqRef) (g : Segm) (item : Nat) : Bool :=
  let key := s.segKey q g (item / q.perGranule)
  (key :: s.laneKeys q [key]).all (s.seqx q).has

/-- Playback has not resumed since an underrun, also while the sequencer is frozen in it (R292). -/
def State.inUnderrun (s : State) (q : SeqRef) : Bool := s.run q == 3 || (s.run q == 5 && (s.seqx q).underrun.isSome)

/-- Why an item is missing (R292). -/
def State.missCause (s : State) (q : SeqRef) (g : Segm) (item : Nat) : UrCause :=
  let key := s.segKey q g (item / q.perGranule)
  if (key :: s.laneKeys q [key]).any (s.seqx q).corrupt.contains then .corrupt
  else if g.stream && !(s.seqx q).streamed.contains (key - 2 ^ 20) then .streamLate
  else .fetchLate

/-! ## The resampler (R280-R283) -/

/-- RATE.INCR. -/
def State.incr (s : State) (c : Nat) : Nat := s.wide .seq c 0x50 2

/-- The phase that the present channel frame has reached, before a new input sample takes 2^60 from it. -/
def State.phaseNow (s : State) (c : Nat) : Nat :=
  let x := s.seqx (.chan c)
  x.phase + (s.now - x.phaseAt) / 100 * s.incr c

/-- The next input sample begins at the present boundary. -/
def State.sampleDue (s : State) (c : Nat) : Bool := decide (2 ^ 60 ≤ s.phaseNow c)

/-- The weight of input sample k - t at a phase: between the phase sets p and p + 1 of 32, linearly at the rest (R283). -/
def polyWeight (phase t : Nat) : Num :=
  let p := phase / 2 ^ 55
  let a := val (Config.polyTap p t)
  a.add ((numOf (phase % 2 ^ 55 : Nat) (-55)).mul ((val (Config.polyTap (p + 1) t)).add a.neg))

/-- The POLY filter over the input samples, the current one first: the exact sum, rounded once; a constant history stays as it is (R283;
DESIGN CHOICE, log entry 23). -/
def polyOutput (hist : List Word) (phase : Nat) : Word :=
  let s0 := hist.headD 0
  if hist.all (· == s0) then s0
  else toF32 (hist.zipIdx.foldl (fun n p => n.add ((polyWeight phase p.2).mul (val p.1))) (.fin false 0 0))

/-- The resampler's output at a phase (R283). -/
def resample (interp : Nat) (hist : List Word) (phase : Nat) : Word :=
  let s0 := hist.headD 0
  let s1 := hist.getD 1 s0
  match interp with
  | 0 => s0
  | 1 =>
    let f := toF32 (numOf (phase : Nat) (-60))
    let d := toF32 ((val s0).add (val s1).neg)
    toF32 (((val f).mul (val d)).add (val s1))
  | _ => polyOutput hist phase

/-- The source value SEQ[c] gives in the present channel frame, before the clamp of R270 (R268). -/
def State.seqRaw (s : State) (c : Nat) : Word :=
  let x := s.seqx (.chan c)
  match s.run (.chan c) with
  | 0 => s.reg .chan c 0x10
  | 1 | 2 | 3 => resample (s.rf .seq c 0 31 30) x.hist (min (2 ^ 60 - 1) (s.phaseNow c))
  | _ => x.held

/-- The source value SEQ[c] gives in the present channel frame: the resampler's output is clamped, FORCE_LEVEL and a last output
value stand as they are (R268, R270). -/
def State.seqOutput (s : State) (c : Nat) : Word :=
  if [1, 2, 3].contains (s.run (.chan c)) then (s.spClamp c (s.seqRaw c)).1 else s.seqRaw c

/-- The source value SEQ[c] gave in the channel frame before the present boundary: the last output value at an event of this
boundary (R268). The phase restarts only at boundaries, each of which keeps that value in held. -/
def State.lastOutput (s : State) (c : Nat) : Word :=
  let x := s.seqx (.chan c)
  if x.phaseAt = s.now || !([1, 2, 3].contains (s.run (.chan c))) then x.held
  else (s.spClamp c (resample (s.rf .seq c 0 31 30) x.hist (min (2 ^ 60 - 1) (s.phaseNow c - s.incr c)))).1

/-- The source value of the channel frame before a run takes effect: FORCE_LEVEL as it was then, or the last output value (R268, R283). -/
def State.valueBefore (s : State) (q : SeqRef) : Word :=
  match q with
  | .bank _ => 0
  | .chan c =>
    match (s.seqx q).levelBefore with
    | some (t, w) => if t = s.now && s.run q = 0 then w else s.seqOutput c
    | none => s.seqOutput c

/-- The last output value of q; a bank sequencer has none. -/
def State.lastValue (s : State) (q : SeqRef) : Word :=
  match q with
  | .chan c => s.lastOutput c
  | .bank _ => 0

/-- The phase is restarted at the present boundary at a value (R280). -/
def State.setPhase (s : State) (q : SeqRef) (phase : Nat) : State :=
  s.setSeqx q { s.seqx q with held := s.lastValue q, phase := phase, phaseAt := s.now }

/-- The next input sample has a value: it becomes the current one. -/
def Seq.shift (x : Seq) (v : Word) : Seq := { x with hist := (v :: x.hist).take 16, sumV := 0, sumI := 0, good := 0 }

/-- The current input sample is repeated. -/
def Seq.repeatLast (x : Seq) : Seq := x.shift (x.hist.headD 0)

/-! ## Ends of playback -/

/-- An underrun that is in progress ends: its gap marker is written (R296). -/
def State.endUnderrun (s : State) (q : SeqRef) : State :=
  let x := s.seqx q
  match x.underrun with
  | none => s
  | some u =>
    (s.setSeqx q { x with underrun := none }).underrunGap (objCode q.obj) q.num q.bankNum u.spoolFull u.since (s.bnd q) u.count

/-- The sequencer enters DONE with its last output value; its grant and ingress are released (R267, R272, R299). -/
def State.finishSeq (s : State) (q : SeqRef) : State :=
  let held := s.lastValue q
  let s := s.endUnderrun q
  let s := s.setSeqx q { s.seqx q with
    exec := false, playing := false, atEnd := false, stopAtEnd := false, stopNext := false, held := held, ingress := 0 }
  ((s.setRf q.obj q.num 0x65 31 16 0).setRun q 6).fireSeq q 7

/-- The sequencer parks at its PC (R302). -/
def State.park (s : State) (q : SeqRef) : State :=
  (s.setSeqx q { s.seqx q with exec := false, playing := false, atEnd := false, held := s.lastValue q }).setRun q 4

/-- The lock on a sequencer is ORPHANED (R554). -/
def State.orphaned (s : State) (q : SeqRef) : Bool :=
  s.faults.locks.any fun e => e.2.obj == q.obj && e.2.inst == q.num && e.2.leaseEnds.isNone

/-! ## Underrun (R291-R296) -/

/-- P2 of N_UNDERRUN. -/
def UrCause.code : UrCause → Nat
  | .fetchLate => 1 | .streamLate => 2 | .corrupt => 3 | .frozen => 4

/-- The PLAYs of the FILL_LOOP body, in program order (R293, R297). -/
def State.fillBody (s : State) (q : SeqRef) : List Nat :=
  let from' := s.fillLoop q + 1
  let ends := ((upto (256 - from')).map (· + from')).find? fun j => (s.prog q j).op == opEndloop
  (((upto (ends.getD from' - from')).map (· + from')).filter fun j => (s.prog q j).op == opPlay)

/-- The fill PLAY after j: the next of the body, or its first. -/
def State.nextFill (s : State) (q : SeqRef) (j : Option Nat) : Option Nat :=
  let body := s.fillBody q
  match j with
  | none => body.head?
  | some j => (body.find? fun k => decide (j < k)).orElse fun _ => body.head?

/-- The fill segment of the PLAY at j begins at its first item, and STATE.SEG names it; markers, ACQ and compares are suppressed (R263,
R293). left is 0 while that item is still to be played: that of a bank at its next issue boundary, any other once it is in the
cache. Until then the output holds (DESIGN CHOICE, log entry 124). -/
def State.startFill (s : State) (q : SeqRef) (j : Option Nat) : State :=
  let x := s.seqx q
  match x.underrun, j with
  | some u, some j =>
    let g := s.segm q (s.prog q j).seg
    let k := (s.nextItem q g 0).getD 0
    let x := { x with underrun := some { u with fill := some j, fillEnded := false }, left := 0 }
    let x := if q.isBank then x
      else if s.itemCached q g k then { x.shift (ptValue (s.segPoint q g k)) with left := s.segDwell q g k }
      else x.repeatLast
    ((s.setSeqx q x).setPosition q k).setRf q.obj q.num 0x60 12 7 (s.prog q j).seg
  | _, _ => s.setSeqx q x.repeatLast

/-- The pins of a bank in VECTOR (R304). -/
def State.vectorPins (s : State) (b : Nat) : List Nat := (upto 64).filter fun j => s.mode (64 * b + j) == 8

/-- Channel c is ARMED, or HELD and will be ARMED again (R73, R317). -/
def State.isArmed (s : State) (c : Nat) : Bool :=
  (if s.chState c = chHeld then (s.chan c).left else s.chState c) == chArmed

/-- An underrun at the boundary of q: the segment from an item on is abandoned (R292, R293, R295). hold says that the
output holds whatever UR_ACTION is (R301). -/
def State.beginUnderrun (s : State) (q : SeqRef) (item : Nat) (cause : UrCause) (hold : Bool) : State :=
  let pc := s.pc q
  let seg := s.segNum q
  let g := s.segm q seg
  let t := s.bnd q
  let s : State := if g.stream then
      s.setWide .seq q.num 0x66 2 ((s.seqx q).streamBase + g.items q)
    else s
  let s := (s.count q.obj q.num 0x62).setRun q 3
  let s := s.setSeqx q { s.seqx q with
    exec := false, playing := false, atEnd := false, underrun := some ⟨t, s.rb .spool 0 0x20 30, g.items q - item, pc, seg, none, false⟩ }
  let s := (s.fireSeq q 6).notifyAt t 0x0201 q.obj q.num [pc, seg, cause.code]
  if hold || s.urAction q = 0 then s.setSeqx q (s.seqx q).repeatLast
  else if s.urAction q = 1 then s.startFill q (s.nextFill q none)
  else
    let s : State := match q with
      | .chan c => s.tripSafe c .underrun
      | .bank b => s.each (s.vectorPins b) fun s j =>
        if s.isArmed (64 * b + j) then s.tripSafe (64 * b + j) .underrun else s
    s.finishSeq q

/-! ## Entries (R244, R284-R286) -/

/-- Play item k of the segment: its markers, its ACQ trigger and its first sample. An item that is not in the cache is an
underrun (R244, R291). -/
def State.startItem (s : State) (q : SeqRef) (g : Segm) (k : Nat) : State :=
  if !s.itemCached q g k then s.beginUnderrun q k (s.missCause q g k) false
  else
    let s := s.setSeqx q { s.seqx q with left := s.segDwell q g k }
    match q with
    | .bank _ => s.setPosition q k
    | .chan c =>
      let p := s.segPoint q g k
      let s := s.setSeqx q ((s.seqx q).shift (ptValue p))
      let s := s.setPosition q k
      let s : State := if g.stream then s.setWide .seq c 0x66 2 ((s.seqx q).streamBase + k + 1) else s
      let s := s.markers q (ptMark p)
      if ptAcq p && s.rb .acq c 1 29 then s.acqTrigger c ⟨.sequencer, s.sampleInstant c, 0, false, false, false⟩ else s

/-- The compare of the entry being played, at the end of its last input sample (R284-R286). -/
def State.compare (s : State) (c : Nat) : State :=
  let q := SeqRef.chan c
  let x := s.seqx q
  let p := s.segPoint q (s.segm q (s.segNum q)) (s.position q)
  if !ptCmpEn p || x.good = 0 || s.chState c != chArmed || (ptCmpCurrent p && s.mode c == 7) then s
  else
    let m := mean64 (if ptCmpCurrent p then x.sumI else x.sumV) x.good
    if fle (ptCmpLo p) m && fle m (ptCmpHi p) then s.latch q 2
    else ((s.latch q 4).count .seq c 0x63).fireSeq q 5

/-- The next input sample of channel sequencer c begins at the present boundary; its entry must be in the cache, also where it is the
entry of the sample before (R291). In an underrun an entry of a fill segment that is not there holds the output until it is
(DESIGN CHOICE, log entry 124). -/
def State.nextSample (s : State) (c : Nat) : State :=
  let q := SeqRef.chan c
  let x := s.seqx q
  match s.run q, x.underrun with
  | 3, some u =>
    match u.fill with
    | none => s.setSeqx q x.repeatLast
    | some j =>
      let g := s.segm q (s.prog q j).seg
      if 1 < x.left then s.setSeqx q { x.repeatLast with left := x.left - 1 }
      else match (if x.left = 0 then some (s.position q) else s.nextItem q g (s.position q + 1)) with
        | some k =>
          if s.itemCached q g k then
            (s.setSeqx q { x.shift (ptValue (s.segPoint q g k)) with left := s.segDwell q g k }).setPosition q k
          else (s.setSeqx q { x.repeatLast with left := 0 }).setPosition q k
        | none => (s.fireSeq q 4).startFill q (s.nextFill q (some j))
  | 1, _ =>
    let now := s.segm q (s.segNum q)
    if !x.playing || x.atEnd then s
    else if 1 < x.left then
      if s.itemCached q now (s.position q) then s.setSeqx q { x.repeatLast with left := x.left - 1 }
      else s.beginUnderrun q (s.position q) (s.missCause q now (s.position q)) false
    else
      let s := s.compare c
      let g := s.segm q (s.segNum q)
      match s.nextItem q g (s.position q + 1) with
      | some k =>
        let s : State := if k / 16 ≠ s.position q / 16 then s.request q (s.neededKeys q (s.pc q) k) else s
        s.startItem q g k
      | none => s.setSeqx q { s.seqx q with atEnd := true }
  | 2, _ => s.setSeqx q x.repeatLast
  | _, _ => s

/-- INPUT_SAMPLE_BOUNDARY of channel sequencer c: φ has reached 2^60 (R280). -/
def State.inputSample (s : State) (c : Nat) : State :=
  let q := SeqRef.chan c
  let x := s.seqx q
  if [1, 2, 3].contains (s.run q) && !x.exec && !x.atEnd && s.sampleDue c then
    (s.setPhase q (s.phaseNow c - 2 ^ 60)).nextSample c
  else s

/-- A write of RATE takes effect: φ is 0 and the next input sample begins (R282). φ stands at 2^60 until that sample begins at this
boundary, after the commands that act at it (R303, R397) and, in an underrun, unless it ends there (R293). held is the last output
value, made at the old rate. -/
def State.rateWritten (s : State) (c : Nat) (held : Word) : State :=
  let q := SeqRef.chan c
  let x := s.seqx q
  let begins := [1, 2, 3].contains (s.run q) && !x.exec && !x.atEnd
  s.setSeqx q { x with held := held, phase := if begins then 2 ^ 60 else 0, phaseAt := s.now }

/-! ## Instructions (R272-R276) -/

/-- The instruction at PC of q executes at the present boundary. -/
def State.executing (s : State) (q : SeqRef) : Bool := s.run q == 1 && (s.seqx q).exec && s.bndNow q

/-- Go to an instruction that executes at this boundary. -/
def State.goTo (s : State) (q : SeqRef) (pc : Nat) : State :=
  (s.setPc q pc).setSeqx q { s.seqx q with exec := true }

/-- A branch: to TARGET if it is taken, which clears SWFLAG where the branch is on it (R262). -/
def State.branch (s : State) (q : SeqRef) (i : SInstr) (taken : Bool) : State :=
  if taken then (if i.cond = 0xA then s.setSwflag q false else s).goTo q i.target
  else s.goTo q (s.pc q + 1)

/-- HALT. -/
def State.doHalt (s : State) (q : SeqRef) : State := s.finishSeq q

/-- PLAY: the segment begins at this boundary, with its latches cleared; a sequencer whose lock is ORPHANED parks (R274-R276,
R302). -/
def State.doPlay (s : State) (q : SeqRef) : State :=
  if s.orphaned q then s.park q
  else
    let j := s.pc q
    let seg := (s.prog q j).seg
    let s := ((s.setLatches q 0).setRf q.obj q.num 0x60 12 7 seg).setPosition q 0
    let s := s.setSeqx q { s.seqx q with exec := false, playing := true, atEnd := false, streamBase := s.streamNext q }
    let g := s.segm q seg
    let s := s.request q (s.neededKeys q j 0)
    match q with
    | .bank _ => s.setSeqx q { s.seqx q with left := 0 }
    | .chan _ => match s.nextItem q g 0 with
      | some k => s.startItem q g k
      | none => s.setSeqx q { s.seqx q with atEnd := true }

/-- JUMP. -/
def State.doJump (s : State) (q : SeqRef) : State :=
  let i := s.prog q (s.pc q)
  s.branch q i (s.condHolds q i (s.seqx q).done)

/-- LOOP. -/
def State.doLoop (s : State) (q : SeqRef) : State :=
  let i := s.prog q (s.pc q)
  let x := s.seqx q
  let s := s.setSeqx q { x with counters := x.counters.set (i.cond % 4) (if i.arg = 0 then none else some i.arg) }
  s.goTo q (s.pc q + 1)

/-- ENDLOOP. The manual states no result for the decrement of a counter that is 0 already: it is a free value (DESIGN CHOICE, log entry
24). -/
def State.doEndloop (s : State) (q : SeqRef) : State :=
  let i := s.prog q (s.pc q)
  let x := s.seqx q
  match x.counters.getD (i.cond % 4) (some 0) with
  | none => s.goTo q i.target
  | some n =>
    let (n, s) := if n = 0 then (let (k, s) := s.draw; ((Config.freeWord k).toNat, s)) else (n - 1, s)
    let s := s.setSeqx q { s.seqx q with counters := x.counters.set (i.cond % 4) (some n) }
    if n = 0 then s.goTo q (s.pc q + 1) else s.goTo q i.target

/-- A boundary of WAIT, of a PLAY that follows a WAIT, or of a run's start: φ is 0 (R276). -/
def State.zeroPhase (s : State) (q : SeqRef) : State := s.setPhase q 0

/-- WAIT begins: the last input sample is held and the latches are cleared; after a WAIT released at this boundary the
condition is first evaluated at the next (R274, R276, R721). -/
def State.doWait (s : State) (q : SeqRef) : State :=
  let x := s.seqx q
  let t := if x.released = some (s.bnd q) then s.bnd q + s.bndStep q else s.bnd q
  let x := { x with exec := false, waitFrom := t }
  let s := s.setSeqx q (if q.isBank then x else x.repeatLast)
  ((s.zeroPhase q).setLatches q 0).setRun q 2

/-- RATE, of channel sequencers (R282). -/
def State.doRate (s : State) (c : Nat) : State :=
  let q := SeqRef.chan c
  let i := s.prog q (s.pc q)
  let s := s.setWide .seq c 0x50 2 (s.wide .seq c (0x08 + i.arg % 8) 2)
  (s.zeroPhase q).goTo q (s.pc q + 1)

/-- EMIT. -/
def State.doEmit (s : State) (q : SeqRef) : State :=
  let i := s.prog q (s.pc q)
  (s.markers q (i.arg % 16)).goTo q (s.pc q + 1)

/-- A set chosen by a TSET before an issue boundary is in use from that boundary on (R317, R329). -/
def Seq.settleTset (x : Seq) (t : Nat) : Seq :=
  match x.tsetNext with
  | some (n, from') => if from' < t then { x with tset := n, tsetNext := none } else x
  | none => x

/-- TSET, of bank sequencers: it applies from the next issue boundary (R317). -/
def State.doTset (s : State) (q : SeqRef) : State :=
  let i := s.prog q (s.pc q)
  (s.setSeqx q { (s.seqx q).settleTset (s.bnd q) with tsetNext := some (i.arg % 16, s.bnd q) }).goTo q (s.pc q + 1)

/-- The instruction at PC acts. RATE is of channel sequencers, TSET of bank sequencers. -/
def State.doOp (s : State) (q : SeqRef) (op : Nat) : State :=
  match op, q with
  | 0, _ => s.doHalt q
  | 1, _ => s.doPlay q
  | 2, _ => s.doJump q
  | 3, _ => s.doLoop q
  | 4, _ => s.doEndloop q
  | 5, _ => s.doWait q
  | 6, .chan c => s.doRate c
  | 7, _ => s.doEmit q
  | 8, .bank _ => s.doTset q
  | _, _ => s

/-- A BSEQ.STOP that waits for this issue boundary acts before anything else of the boundary (R303, R317). -/
def State.stopsHere (s : State) (q : SeqRef) : Bool := (s.seqx q).stopNext && s.bndNow q

/-- The row of one opcode: the instruction at PC executes if it is of that opcode. -/
def State.stepOp (s : State) (q : SeqRef) (op : Nat) : State :=
  if s.stopsHere q then s.finishSeq q
  else if s.executing q && (s.prog q (s.pc q)).op == op then s.doOp q op else s

/-- A WAIT ends at this boundary and goes to an instruction. -/
def State.leaveWait (s : State) (q : SeqRef) (pc : Nat) : State := ((s.zeroPhase q).setRun q 1).goTo q pc

/-- ARG frames of the WAIT have passed by the boundary (R272); DESIGN CHOICE, log entry 25 says that they count in frames of 100 ns for a bank
sequencer too. -/
def State.waitOver (s : State) (q : SeqRef) (strict : Bool) : Bool :=
  let i := s.prog q (s.pc q)
  let t := (s.seqx q).waitFrom + i.arg * 100
  i.arg != 0 && (if strict then decide (t < s.bnd q) else decide (t ≤ s.bnd q))

/-- WAIT_RELEASE: the condition holds at this boundary (R272, R721). -/
def State.waitRelease (s : State) (q : SeqRef) : State :=
  let i := s.prog q (s.pc q)
  let x := s.seqx q
  if s.stopsHere q then s.finishSeq q
  else if s.run q = 2 && s.bndNow q && decide (x.waitFrom ≤ s.bnd q) && s.condHolds q i (s.latches q) && !s.waitOver q true then
    let s := s.setSeqx q { x with released := some (s.bnd q) }
    (if i.cond = 0xA then s.setSwflag q false else s).leaveWait q (s.pc q + 1)
  else s

/-- WAIT_TIMEOUT: ARG frames have passed without release (R272). -/
def State.waitTimeout (s : State) (q : SeqRef) : State :=
  let i := s.prog q (s.pc q)
  if s.stopsHere q then s.finishSeq q
  else if s.run q = 2 && s.bndNow q && s.waitOver q false && (s.waitOver q true || !s.condHolds q i (s.latches q)) then
    s.leaveWait q i.target
  else s

/-- The decision of the PLAY at j on given latches (R272, R278). -/
def State.takeDecision (s : State) (q : SeqRef) (j latches : Nat) : State :=
  let i := s.prog q j
  (s.setPc q j).branch q i (s.condHolds q i latches)

/-- SEGMENT_END: the boundary that ends a segment's last sample (R267, R277, R278, R302). -/
def State.segmentEnd (s : State) (q : SeqRef) : State :=
  let x := s.seqx q
  if s.stopsHere q then s.finishSeq q
  else if s.run q = 1 && x.playing && x.atEnd && s.bndNow q then
    let s := s.setSeqx q { x with playing := false, atEnd := false, done := s.latches q }
    let s := s.fireSeq q 4
    if x.stopAtEnd then s.finishSeq q
    else
      let s := s.takeDecision q (s.pc q) (s.latches q)
      if s.orphaned q then s.park q else s
  else s

/-! ## Resumption (R294) -/

/-- Execute instructions from PC up to the next PLAY, WAIT or HALT. -/
def State.walk (q : SeqRef) : Nat → State → State
  | 0, s => s
  | fuel + 1, s =>
    let op := (s.prog q (s.pc q)).op
    if op = opPlay || op = opWait || op = opHalt then s else State.walk q fuel (s.doOp q op)

/-- The boundary is one at which an underrun may end: an input-sample boundary, or the end of a fill segment (R293). -/
def State.resumeBoundary (s : State) (q : SeqRef) (u : Underrun) : Bool :=
  match q with
  | .chan c =>
    s.sampleDue c && match u.fill with
      | none => true
      | some j => (s.seqx q).left ≤ 1 && (s.nextItem q (s.segm q (s.prog q j).seg) (s.position q + 1)).isNone
  | .bank _ => s.bndNow q && match u.fill with
      | none => true
      | some _ => u.fillEnded

/-- UNDERRUN_RESUME: the decision of the abandoned segment is taken on the latches collected since it began, the instructions
up to the next PLAY are executed, and playback resumes if that PLAY's head is in the cache (R293, R294); a sequencer whose lock is
ORPHANED plays no further (R302, R303). -/
def State.underrunResume (s : State) (q : SeqRef) : State :=
  let x := s.seqx q
  match x.underrun with
  | none => s
  | some u =>
    if s.stopsHere q then s.finishSeq q
    else if s.run q ≠ 3 || !s.resumeBoundary q u then s
    else
      let t := (s.setSeqx q { x with done := s.latches q }).setRun q 1
      let t := State.walk q 256 (t.takeDecision q u.pc (s.latches q))
      let op := (t.prog q (t.pc q)).op
      if op = opPlay && !t.headCached q (t.pc q) then 
        s.request q (((x.cache.map fun e => e.2.key) ++ x.wanted ++ s.neededKeys q u.pc 0).eraseDups)
      else
        let t := if u.fill.isSome then t.fireSeq q 4 else t
        let t := (t.endUnderrun q).zeroPhase q
        if t.orphaned q then t.park q else t.doOp q op

/-! ## SEQ.RUN, STOP, RESUME as they act -/

/-- What the load work of a run brings into the cache or window: pinned segments and the head of the first segment (R298). -/
def State.loadKeys (s : State) (q : SeqRef) : List Nat :=
  let heads := (s.playsFrom q 1024 [s.pc0 q] [] []).flatMap fun j =>
    let g := s.segm q (s.prog q j).seg
    if g.stream then (upto headGranules).map streamKey else s.keysOf q g 0 headGranules
  let keys := (s.pinnedKeys q ++ heads).eraseDups
  (keys ++ s.laneKeys q keys).eraseDups

/-- The load work of an admitted run begins: its cache is emptied and what it needs first is read; its stream begins at index 0
(R254, R287, R298, R300; DESIGN CHOICE, log entry 110). -/
def State.loadSeq (s : State) (q : SeqRef) : State :=
  let s : State := match q with
    | .chan c => s.setWide .seq c 0x66 2 0
    | .bank _ => s
  (s.setSeqx q { s.seqx q with cache := [], wanted := [], units := [], corrupt := [], streamBase := 0, streamed := [] }).request q
    (s.loadKeys q)

/-- A run starts at the boundary with what its load work has brought into its cache (R266, R283, R298, R316, R319, R329). -/
def State.startSeq (s : State) (q : SeqRef) : State :=
  let v := s.valueBefore q
  let old := s.seqx q
  let s : State := match q with
    | .chan c => ([0x62, 0x63, 0x64].foldl (fun s f => s.setReg .seq c f 0) s).setWide .seq c 0x66 2 0
    | .bank b => ([0x62, 0x63, 0x64, 0x66] ++ (upto 64).map (0x80 + ·)).foldl (fun s f => s.setReg .bseq b f 0) s
  let s := s.setSeqx q { Seq.fresh with
    hist := if q.isBank then [] else List.replicate 16 v, held := v, phaseAt := s.now, next := s.now, tset := s.rf .bseq q.num 0 27 24,
    drive := old.drive, placed := old.placed, ingress := old.ingress, port := old.port, cache := old.cache, units := old.units,
    corrupt := old.corrupt, streamed := old.streamed }
  let s := s.request q (s.loadKeys q)
  (((s.setLatches q 0).setPosition q 0).setRun q 1).goTo q (s.pc0 q)

/-- The first boundary of q at or after a time: a channel's present boundary, or the issue boundary by the period of a bank. -/
def State.bndFrom (s : State) (q : SeqRef) (t : Nat) : Nat :=
  let x := (s.seqx q).next
  if q.isBank && x < t then x + ceilDiv (t - x) (max 1 (s.bndStep q)) * max 1 (s.bndStep q) else x

/-- SEQ.STOP acts on q: a bank sequencer stops at its next issue boundary (R267, R317). -/
def State.stopSeq (s : State) (q : SeqRef) (atEnd : Bool) : State :=
  let x := s.seqx q
  if !s.seqRuns q then s
  else if atEnd && s.run q == 1 && x.playing then s.setSeqx q { x with stopAtEnd := true }
  else if q.isBank && s.bndFrom q s.now ≠ s.now then s.setSeqx q { x with stopNext := true, next := s.bndFrom q s.now }
  else s.finishSeq q

/-- SEQ.RESUME acts on q (R302). -/
def State.resumeSeq (s : State) (q : SeqRef) : State :=
  if s.run q = 4 then
    (((s.setSeqx q { s.seqx q with next := s.bndFrom q s.now }).zeroPhase q).setRun q 1).goTo q (s.pc q)
  else s

/-- A sequencer is frozen for its fetches (R301, R551). -/
def State.freezeSeq (s : State) (q : SeqRef) : State :=
  if !s.seqRuns q || s.run q = 5 then s
  else
    (s.setSeqx q { s.seqx q with
      frozenIn := s.run q, frozenAt := s.bnd q, wanted := [], units := []
      held := match q with
        | .chan c => s.seqOutput c
        | .bank _ => 0 }).setRun q 5

/-- DEV.THAW of a frozen sequencer: one that was playing resumes as after an underrun of cause FROZEN under HOLD_LAST, one in an underrun
goes on in it under HOLD_LAST, and another goes on as it was (R301). -/
def State.thawSeq (s : State) (q : SeqRef) : State :=
  let x := s.seqx q
  if s.run q ≠ 5 then s
  else
    let s := s.setRun q x.frozenIn
    let s := s.setSeqx q { x with
      phaseAt := s.now, next := s.bndFrom q (s.now + 1)
      underrun := x.underrun.map fun u => { u with fill := none } }
    if x.frozenIn = 1 && x.playing then s.beginUnderrun q (s.position q) .frozen true else s

/-- A frame of channel c reaches the open latches and the compare sums of its sequencer (R273, R284). good says that the
frame is not predicted, not RANGING and not HELD. -/
def State.seqFrame (s : State) (c : Nat) (v i : Word) (good inCompliance : Bool) : State :=
  let q := SeqRef.chan c
  if !s.seqRuns q then s
  else
    let s : State := if inCompliance then s.latch q 1 else s
    let x := s.seqx q
    if good && x.playing then
      s.setSeqx q { x with sumV := dadd x.sumV (widen v), sumI := dadd x.sumI (widen i), good := x.good + 1 }
    else s

/-- Count the frames, from the present one on for n frames without a change, whose resampler output is clamped (R270). -/
def State.countClamps (s : State) (c n : Nat) : State :=
  if !([1, 2, 3].contains (s.run (.chan c))) || (s.spSpan c).isNone then s
  else
    let frames := if s.rf .seq c 0 31 30 = 0 then (if (s.spClamp c (s.seqRaw c)).2 then n else 0)
      else ((upto n).filter fun k => (s.spClamp c (({ s with now := s.now + 100 * k }).seqRaw c)).2).length
    if frames = 0 then s else s.countBy .seq c 0x64 frames

end Sys2Proof.Machine
end

