-- ==== Sys2Proof/Machine/Vector.lean ====
section
/-!
DEFINITION. What reaches a sequencer from memory and from the host: fetched granules, regeneration, stream granules
(R242, R254, R255, R287, R288, R312, R313, R621); and vector mode: vectors issued and results credited (R304-R331).
-/

namespace Sys2Proof.Machine

/-! ## Vector memory (R308) -/

/-- Vector memory nothing has been written into. -/
def VecMem.fresh : VecMem := ⟨[], [], [], [], []⟩

/-- The vector memory of bank b. -/
def State.vecMem (s : State) (b : Nat) : VecMem := findD s.vecMems VecMem.fresh b

/-- Replace the vector memory of bank b. -/
def State.setVecMem (s : State) (b : Nat) (m : VecMem) : State := { s with vecMems := store s.vecMems VecMem.fresh b m }

/-! ## Fetched granules -/

/-- A granule is no longer awaited. -/
def Seq.unwant (x : Seq) (key : Nat) : Seq :=
  { x with wanted := x.wanted.filter (· != key), units := x.units.filter fun u => u / 4 != key }

/-- A granule of good data enters the cache or window; where no line is free it stays wanted (DESIGN CHOICE, log entry 109). -/
def State.deliver (s : State) (q : SeqRef) (key : Nat) (data : List (BitVec 128)) : State :=
  let x := s.seqx q
  if x.has key then s.setSeqx q (x.unwant key)
  else match s.freeLine q with
    | none => s
    | some n => s.setSeqx q { x.unwant key with
        cache := insertKey x.cache n ⟨key, data⟩, corrupt := x.corrupt.filter (· != key) }

/-- A granule stays absent until good data replaces it (R255). -/
def State.markCorrupt (s : State) (q : SeqRef) (key : Nat) : State :=
  let x := s.seqx q
  s.setSeqx q { x.unwant key with corrupt := if x.corrupt.contains key then x.corrupt else x.corrupt ++ [key] }

/-- The descriptor of the stream sequencer c plays, as its program names it. -/
def State.streamSweep (s : State) (c : Nat) : Option Nat :=
  let q := SeqRef.chan c
  ((upto (s.progLen q)).filter fun j => (s.prog q j).op == opPlay).findSome? fun j =>
    let g := s.segm q (s.prog q j).seg
    if g.stream then some g.sweep else none

/-- BASE and N of the ring of a stream descriptor. -/
def State.ringOf (s : State) (d : Nat) : Nat × Nat :=
  let x := ((s.sweep d).from?).getD (s.sweepFields d)
  (x.base, max 1 x.n)

/-- The point store granule that holds a granule of a channel sequencer's cache: a stream granule stands in its ring (R288). -/
def State.storeGranule (s : State) (c key : Nat) : Nat :=
  if key < 2 ^ 20 then key
  else
    let ring := s.ringOf ((s.streamSweep c).getD 0)
    (ring.1 + 16 * (key - 2 ^ 20) % ring.2) / 16

/-- The four slots that carry a granule have been granted (R242). -/
def Seq.carried (x : Seq) (key : Nat) : Bool := (upto 4).all fun i => x.units.contains (4 * key + i)

/-- A granule of point cache c fails its check, or is lost to a double-bit error of the cache: a stored one is regenerated, a stream
granule is asked for again (R254-R256). -/
def State.granuleFails (s : State) (c key : Nat) : State :=
  let q := SeqRef.chan c
  if key < 2 ^ 20 then
    if (s.sweepOfGranule key).isSome then
      if s.regen.contains (key, q) then s else { s with regen := s.regen ++ [(key, q)] }
    else s.markCorrupt q key
  else
    let g := key - 2 ^ 20
    let x := s.seqx q
    let s := s.setSeqx q { x with streamed := x.streamed.filter (· != g) }
    (s.notify 0x0202 .seq c ((wordsOf 2 (16 * g)).map BitVec.toNat ++ [1])).markCorrupt q key

/-- GRANULE_FETCH of channel sequencer c: its four slots have carried the granule, whose inverted bits are given; every entry is checked
(R241, R242, R254, R255). -/
def State.pointFetch (s : State) (c key : Nat) (inverted : List Nat) : State :=
  let q := SeqRef.chan c
  let x := s.seqx q
  if !x.carried key || (2 ^ 20 ≤ key && !x.streamed.contains (key - 2 ^ 20)) then s
  else
    let g := s.storeGranule c key
    let s := { s with points := decay s.points g inverted }
    let read := granuleOf s.points g
    if read.all intact then s.deliver q key (read.map payload)
    else
      let s := s.setSeqx q { x with units := x.units.filter fun u => u / 4 != key }
      (s.dramCheck (pointRegion g)).granuleFails c key

/-- An entry read from copy A and, where that fails its check, from copy B: its payload and whether copy A is to be rewritten; none where
both fail (R312). -/
def mirrorRead (a b : BitVec 144) : Option (BitVec 128 × Bool) :=
  if intact a then some (payload a, false) else if intact b then some (payload b, true) else none

/-- Copies A and B of the vector entries, or of the lane entries. -/
def VecMem.copies (m : VecMem) (lane : Bool) : List (Nat × BitVec 144) × List (Nat × BitVec 144) :=
  if lane then (m.laneA, m.laneB) else (m.vectorA, m.vectorB)

/-- Replace them. -/
def VecMem.setCopies (m : VecMem) (lane : Bool) (p : List (Nat × BitVec 144) × List (Nat × BitVec 144)) : VecMem :=
  if lane then { m with laneA := p.1, laneB := p.2 } else { m with vectorA := p.1, vectorB := p.2 }

/-- The place of an entry in the vector memory of a bank, in the order of R308: vectors A, lanes A from 2 ^ 21 on. -/
def vectorPlace (lane : Bool) (e : Nat) : Nat := if lane then 2 ^ 21 + e else e

/-- GRANULE_FETCH of bank sequencer b, with the inverted bits of both copies: an entry that fails in copy A is delivered from copy B and
rewritten in copy A; one that fails in both leaves the granule bad, and N_VECTOR_FAULT names its vector (R312, R313). -/
def State.vectorFetch (s : State) (b key : Nat) (inA inB : List Nat) : State :=
  let q := SeqRef.bank b
  let lane := decide (2 ^ 20 ≤ key)
  let g := key % 2 ^ 20
  let (ma, mb) := (s.vecMem b).copies lane
  let ma := decay ma g inA
  let mb := decay mb g inB
  let read := List.zipWith mirrorRead (granuleOf ma g) (granuleOf mb g)
  let repaired := (upto 16).filter fun i => ((read.getD i none).map Prod.snd) == some true
  let failed := (upto 16).filter fun i => (read.getD i none).isNone
  let ma := repaired.foldl (fun m i => store m blank (16 * g + i) (findD mb blank (16 * g + i))) ma
  let s := s.setVecMem b ((s.vecMem b).setCopies lane (ma, mb))
  let s := s.each (repaired ++ failed) fun s i => s.dramCheck (vectorRegion b (vectorPlace lane (16 * g + i)))
  let s := s.each repaired fun s _ => s.count .bseq b 0x66
  if failed.isEmpty then s.deliver q key (read.filterMap fun r => r.map Prod.fst)
  else
    let vectors := (failed.map fun i => if lane then 32 * (16 * g + i) else (16 * g + i) / 2).eraseDups
    (s.each vectors fun s v => s.notify 0x0204 .bseq b [v]).markCorrupt q key

/-- GRANULE_FETCH: a granule that was requested arrives and is checked. inA and inB are the bits of its entries, 144 to an entry, that
DRAM has inverted since the last access, in the only copy or in copies A and B. -/
def State.granuleFetch (s : State) (q : SeqRef) (key : Nat) (inA inB : List Nat) : State :=
  if !(s.seqx q).wanted.contains key then s
  else match q with
    | .bank b => s.vectorFetch b key inA inB
    | .chan c => s.pointFetch c key inA

/-- REGENERATION_DONE of point store granule g: it is written back and delivered to every sequencer that waits for it (R254,
R255). -/
def State.regenerationDone (s : State) (g : Nat) (inverted : List Nat) : State :=
  let users := s.regen.filter fun e => e.1 == g
  if users.isEmpty then s
  else
    let s := { s with regen := s.regen.filter fun e => e.1 != g }
    let (good, s) := s.regenerate g inverted
    let data := (granuleOf s.points g).map payload
    s.each users fun s e => if good then s.deliver e.2 g data else s.markCorrupt e.2 g

/-- SRAM regions of the point caches of the eight banks are numbered from 0 on, those of the vector windows from 8 on (DESIGN CHOICE,
log entry 15). -/
def cacheRegion : SeqRef → Nat
  | .chan c => bankOf c
  | .bank b => 8 + b

/-- A double-bit error in a line of a point cache or vector window counts against its SRAM region and discards the line's granule, which is
fetched again: a point granule as if it had failed its check (R256, R313, R529). The lines of a program are loaded again from its fields. -/
def State.lineLost (s : State) (q : SeqRef) (line : Nat) : State :=
  let x := s.seqx q
  match find x.cache line with
  | none => s
  | some l =>
    let s := s.sramError .sramDed (cacheRegion q)
    let s := s.setSeqx q { x with
      cache := x.cache.filter fun e => e.1 != line
      wanted := if x.wanted.contains l.key then x.wanted else x.wanted ++ [l.key] }
    match q with
    | .chan c => s.granuleFails c l.key
    | .bank _ => s

/-! ## Stream granules (R287, R288, R621) -/

/-- What became of a stream granule. -/
inductive Taken where
  | accepted | late | refused
  deriving DecidableEq, Repr

/-- A granule of sixteen entries with first stream index x arrives for sequencer c, whose stream uses descriptor d (R288). It takes the
place of the granule that stood at its ring position. -/
def State.streamGranule (s : State) (c d x : Nat) (entries : List (BitVec 128)) : Taken × State :=
  let q := SeqRef.chan c
  let next := s.streamNext q
  let ring := s.ringOf d
  if x < next then (.late, s.countBy .seq c 0x67 16)
  else if next + ring.2 ≤ x then (.refused, s)
  else
    let points := (entries.zipIdx).foldl (fun m p => store m blank (ring.1 + (x + p.2) % ring.2) (protect p.1)) s.points
    let y := s.seqx q
    let key := streamKey (x / 16)
    let s := { s with points := points }.setSeqx q { y with
      streamed := (y.streamed.filter fun g => !(g ≤ x / 16 && (x / 16 - g) % (ring.2 / 16) == 0)) ++ [x / 16]
      corrupt := y.corrupt.filter (· != key) }
    (.accepted, if y.playing then s.request q (s.neededKeys q (s.pc q) (s.position q)) else s)

/-! ## Vectors -/

/-- Entry i of a granule as the vector window holds it: vectors are read in no other way (R313), so one that the window lacks is
not issued. -/
def State.windowEntry (s : State) (b key i : Nat) : BitVec 128 :=
  match (s.seqx (.bank b)).line key with
  | some l => l.data.getD i 0
  | none => 0

/-- The state code of pin j in vector v (R309). -/
def State.pinState (s : State) (b v j : Nat) : Nat :=
  bitsOf (s.windowEntry b (v / 8) (2 * (v % 8) + j / 32)).toNat (4 * (j % 32) + 3) (4 * (j % 32))

/-- The timing-set number of vector v (R310). -/
def State.laneSet (s : State) (b v : Nat) : Nat :=
  bitsOf (s.windowEntry b (laneKey v) (v / 32 % 16)).toNat (4 * (v % 32) + 3) (4 * (v % 32))

/-- T8 of bank b. -/
def State.t8 (s : State) (b : Nat) : Bool := s.rb .bseq b 0 29

/-- The period in steps of 390.625 ps. -/
def State.vecSteps (s : State) (b : Nat) : Nat := 64 * s.rf .bseq b 1 18 0

/-- The edges D_ON, D_RET and C_STB of pin j under timing set n (R315, R321). -/
def State.edges (s : State) (b n j : Nat) : Nat × Nat × Nat :=
  if s.t8 b then
    let w := s.wide .bseq b (0x400 + 0x40 * n + j) 2
    (bitsOf w 47 32, bitsOf w 31 16, bitsOf w 15 0)
  else
    let p := s.vecSteps b
    (0, min (p / 2) 128, min (3 * p / 4) 192)

/-- The final drive a state leaves: 0 off, 1 VIL, 2 VIH (R307). -/
def finalDrive (state before : Nat) : Nat :=
  match state with
  | 0x1 | 0x8 | 0xB => 1
  | 0x2 | 0x9 | 0xA => 2
  | 0x3 => before
  | 0xC => if before = 1 then 2 else 1
  | _ => 0

/-- What a compare state expects of a report (R322): none where the state compares nothing. -/
def pinPasses (state : Nat) (above below : Bool) : Option Bool :=
  match state with
  | 0x4 | 0x8 => some below
  | 0x5 | 0x9 => some above
  | 0x6 => some (!above && !below)
  | 0x7 => some (above || below)
  | _ => none

/-- What an issue boundary sets pin j to: a state under a timing set, with its levels as they stand; D0 at VIL = 0 V while the pin is
DISARMING (R307, R320, R331). -/
def State.pinWord (s : State) (b set j state : Nat) : PinWord :=
  let (dOn, dRet, strobe) := s.edges b set j
  let levels := (upto 4).map (s.regAt .bseq b (0x200 + j))
  if s.chState (64 * b + j) = chDisarming then ⟨1, dOn, dRet, strobe, levels.set 1 0⟩ else ⟨state, dOn, dRet, strobe, levels⟩

/-- The issue boundary at t gives pins their words; those of the last microsecond are kept until their frames have left. -/
def Seq.place (x : Seq) (t : Nat) (pins : List (Nat × PinWord)) : Seq :=
  if pins.isEmpty then x else { x with placed := (x.placed.filter fun p => decide (t < p.time + 1000)) ++ [⟨t, pins⟩] }

/-- What a vector state leaves a pin driving: off while the pin is not active or before its ramp start, as it was while HELD, VIL while
DISARMING (R307, R331). -/
def State.pinDrive (s : State) (b j state before : Nat) : Nat :=
  let st := s.chState (64 * b + j)
  if st = chHeld then before
  else if st = chDisarming then 1
  else if st = chArmed then finalDrive state before
  else 0

/-- Vector v is issued at the issue boundary; compares are suppressed in a fill segment, where a TSET does not yet act. An ARMING pin takes
X, a DISARMING pin D0, and the head of a HELD pin holds (R317, R331). -/
def State.issueVector (s : State) (b v : Nat) (compares : Bool) : State :=
  let q := SeqRef.bank b
  let t := (s.seqx q).next
  let x := if compares then (s.seqx q).settleTset t else s.seqx q
  let set := if s.laneEn b then s.laneSet b v else x.tset
  let pins := s.vectorPins b
  let drive := pins.map fun j => (j, s.pinDrive b j (s.pinState b v j) (findD x.drive 0 j))
  let words := (pins.filter fun j => s.active (64 * b + j)).map fun j =>
    (j, s.pinWord b set j (if s.chState (64 * b + j) = chArming then 0 else s.pinState b v j))
  let waiting := (pins.filter fun j => s.chState (64 * b + j) == chArmed || s.chState (64 * b + j) == chHeld).map fun j =>
    (j, if compares then s.pinState b v j else 0, (s.edges b set j).2.2)
  let issued := if waiting.isEmpty then x.issued else x.issued ++ [⟨v, t, set, waiting, 0, false⟩]
  s.setSeqx q { x.place t words with drive := drive.filter (fun d => d.2 != 0), issued := issued, next := t + s.vecPeriod b }

/-- The issue boundary passes without a new vector: every pin keeps its driver state, but for a DISARMING one, which takes D0 (R317,
R331). A TSET acts, but not in an underrun. -/
def State.skipIssue (s : State) (b : Nat) : State :=
  let q := SeqRef.bank b
  let t := (s.seqx q).next
  let x := if s.run q = 3 then s.seqx q else (s.seqx q).settleTset t
  let leaving := (s.vectorPins b).filter fun j => s.chState (64 * b + j) == chDisarming
  let drive := leaving.foldl (fun d j => insertKey d j 1) x.drive
  s.setSeqx q { x.place t (leaving.map fun j => (j, s.pinWord b x.tset j 1)) with drive := drive, next := t + s.vecPeriod b }

/-- VECTOR_ISSUE of bank b at its next issue boundary (R317, R319). A vector of a fill segment that is not in the window leaves the
pins as they are (DESIGN CHOICE, log entry 124). -/
def State.vectorIssue (s : State) (b : Nat) : State :=
  let q := SeqRef.bank b
  let x := s.seqx q
  if s.stopsHere q then s.finishSeq q
  else if x.exec || !s.bndNow q then s
  else match s.run q, x.underrun with
    | 1, _ =>
      if !x.playing || x.atEnd then s
      else
        let g := s.segm q (s.segNum q)
        let k := if x.left = 0 then 0 else s.position q + 1
        let s : State := if k % 8 = 0 then s.request q (s.neededKeys q (s.pc q) k) else s
        let t := s.startItem q g k
        if t.run q ≠ 1 then t
        else
          let t := t.issueVector b (8 * g.first + k) true
          if k + 1 < g.items q then t else t.setSeqx q { t.seqx q with atEnd := true }
    | 2, _ | 4, _ | 5, _ | 6, _ => s.skipIssue b
    | 3, some u =>
      match u.fill with
      | none => s.skipIssue b
      | some j =>
        let s : State := if u.fillEnded then (s.fireSeq q 4).startFill q (s.nextFill q (some j)) else s
        match (s.seqx q).underrun with
        | some u =>
          let g := s.segm q (s.prog q (u.fill.getD 0)).seg
          let k := if (s.seqx q).left = 0 then s.position q else s.position q + 1
          if !s.itemCached q g k then s.skipIssue b
          else
            let s := (s.issueVector b (8 * g.first + k) false).setPosition q k
            s.setSeqx q { s.seqx q with left := 1, underrun := some { u with fillEnded := decide (g.items q ≤ k + 1) } }
        | none => s
    | _, _ => s

/-- A capture entry (R327). -/
def captureEntry (i : Issued) : BitVec 144 :=
  protect <| BitVec.ofNat 128 (i.failMask * 2 ^ 64 + i.vec * 2 ^ 45 + i.clamped.toNat * 2 ^ 44 + i.time / 25 % 2 ^ 44)

/-- A vector with a failed or clamped pin counts, emits CMPF and is captured (R326). -/
def State.vectorFailed (s : State) (b cyc : Nat) (i : Issued) : State :=
  let s := (s.count .bseq b 0x63).fire (mkId 4 (8 * b + 5)) cyc
  let m := s.vecMem b
  if m.capture.length < 524288 then s.setVecMem b { m with capture := m.capture ++ [captureEntry i] }
  else s.count .bseq b 0x64

/-- PIN_RESULT_CREDIT: the result of pin j for the vector issued at time t is credited, 300 ns after its strobe's pin time
(R322-R326). One that falls after the next issue boundary waits for that boundary's decision first (R274, R325). -/
def State.pinResult (s : State) (b t j : Nat) (r : PinReport) : State :=
  let q := SeqRef.bank b
  let x := s.seqx q
  match x.issued.find? fun i => i.time == t && i.waiting.any fun w => w.1 == j with
  | none => s
  | some i =>
    let (state, strobe) := (i.waiting.find? fun w => w.1 == j).map Prod.snd |>.getD (0, 0)
    let due := (t + 600) * 256 + strobe * 100
    if (s.now + 100) * 256 ≤ due || (s.seqRuns q && decide (x.next * 256 < due)) then s
    else
      let c := 64 * b + j
      let cyc := s.frameCycle + (due - s.now * 256) * 3 / 512
      let clamped := readClamp r.clamp
      let result := match readCompare r.result r.place with
        | some (above, below) => if s.chState c = chArmed then pinPasses state above below else none
        | none => none
      let bad := clamped || result == some false
      let bits := (if bad then 4 else if result == some true then 2 else 0) + clamped.toNat
      let s : State := if s.seqRuns q then s.latch q bits else s
      let s : State := if bad then s.count .bseq b (0x80 + j) else s
      let s : State := if clamped then s.count .chan c 0x23 else s
      let i' : Issued := { i with
        waiting := i.waiting.filter (fun w => w.1 != j), clamped := i.clamped || clamped,
        failMask := if bad then i.failMask ||| 2 ^ j else i.failMask }
      let x := s.seqx q
      if i'.waiting.isEmpty then
        let s := s.setSeqx q { x with issued := x.issued.filter fun y => y != i }
        if i'.failMask = 0 then s else s.vectorFailed b cyc i'
      else s.setSeqx q { x with issued := x.issued.map fun y => if y == i then i' else y }

end Sys2Proof.Machine
end

