-- ==== Sys2Proof/Machine/LinkFrame.lean ====
section
/-!
DEFINITION. The frames of a head link: block lock, messages, blocks 1 to 9 of a downstream frame, training blocks, and the frame as it
leaves (R305, R320, R331, R449-R453, R457-R460, R462, R465-R467, R470, R472, R536).
-/

namespace Sys2Proof.Machine

/-! ## A link beside its fields -/

/-- A link from power-up. -/
def Link.fresh : Link := ⟨0, 0, false, 0, true, 0, 0, [], [], [], [], [], [], [], [], 0, false, [], 0⟩

/-- The link of channel c beside its CHAN fields. -/
def State.link (s : State) (c : Nat) : Link := findD s.links Link.fresh c

/-- Replace the link of channel c. -/
def State.setLink (s : State) (c : Nat) (l : Link) : State := { s with links := store s.links Link.fresh c l }

/-- A sync header heard upstream: lock comes with 64 valid ones in a row, and goes when 16 of the last 64 are invalid (R449, R451). -/
def Link.hear (l : Link) (header : Nat) : Link :=
  let heard := (decide (header = 1 ∨ header = 2) :: l.heard).take 64
  if !l.locked then { l with heard := heard, locked := heard.length == 64 && heard.all id }
  else if 16 ≤ (heard.filter not).length then { l with heard := [], locked := false }
  else { l with heard := heard }

/-- Sync headers heard upstream on the link of channel c; invalid ones are counted (R451, R486). -/
def State.hear (s : State) (c : Nat) (headers : List Nat) : State :=
  let invalid := (headers.filter fun h => h != 1 && h != 2).length
  (s.setLink c (headers.foldl Link.hear (s.link c))).countBy .chan c 0x55 invalid

/-! ## Messages (R466, R467) -/

/-- The data words of a request: what a WRITE writes, the word count of a READ. -/
def HeadMsg.data (m : HeadMsg) : List Block := if m.isWrite then m.words else [block m.count]

/-- The header and the data words of a request. -/
def HeadMsg.blocks (m : HeadMsg) : List Block :=
  block ((if m.isWrite then 2 else 1) * 2 ^ 56 + m.tag % 256 * 2 ^ 48 + m.data.length % 8 * 2 ^ 45 + m.addr % 2 ^ 32) :: m.data

/-- The request that leaves next, of those with room data words at most. -/
def Link.nextMsg (l : Link) (room : Nat) : Option HeadMsg := l.msgs.find? fun m => m.waits && decide (m.data.length ≤ room)

/-- A request leaves in a frame at an elapsed time, from which the 4 µs of its response run (R467). -/
def Link.sent (l : Link) (m : HeadMsg) (at' : Nat) : Link :=
  { l with msgs := l.msgs.map fun k => if k.tag = m.tag then { k with waits := false, sentAt := at' } else k }

/-- The response in blocks 1 to 9 of an upstream frame: its header is block 2, and LEN data words follow (R466). -/
def readResponse (blocks : List Block) : Option HeadReply :=
  let h := (blocks.getD 1 0).toNat
  let len := bitsOf h 47 45
  if (bitsOf h 63 56 = 0x81 || bitsOf h 63 56 = 0x82) && len ≤ 6 then
    some ⟨bitsOf h 63 56 == 0x82, bitsOf h 55 48, bitsOf h 44 40, (blocks.drop 2).take len⟩
  else none

/-- n blocks of which the first are given. -/
def padTo (n : Nat) (l : List Block) : List Block := (l ++ List.replicate n 0).take n

/-! ## The vector lane (R305, R320, R331, R470) -/

/-- Blocks 2 to 8 are the vector lane. -/
def State.vectorLane (s : State) (c : Nat) : Bool := s.mode c == 8 && s.busyChan c

/-- VSTART of a vector issued at t, in a frame that begins at the present boundary: its pin start is 300 ns later, VLAT after a moment
within the next frame as the head receives it; none where it starts in another frame (R320, R452, R453, R470). Steps are rounded to
the nearest (DESIGN CHOICE, log entry 111). -/
def State.vectorStart (s : State) (c t : Nat) : Option Nat :=
  let early : Int := (16 * (t + 300) : Nat) - (s.descField c 2 31 16 : Nat)
  let h : Int := (16 * (s.now + 102) + 200 * (c % 8) + s.rf .loop c 0x43 15 0 : Nat)
  if h ≤ early && early < h + 1600 then some (((early - h).toNat * 8 + 25) / 50) else none

/-- The vectors the present downstream frame carries for channel c, with their VSTART, at most four (R470). -/
def State.frameVectors (s : State) (c : Nat) : List (Nat × PinWord) :=
  ((s.seqx (.bank (bankOf c))).placed.filterMap fun p =>
    match find p.pins (c % 64), s.vectorStart c p.time with
    | some w, some v => some (v, w)
    | _, _ => none).take 4

/-- A vector word (R470). -/
def vectorWord (start : Nat) (w : PinWord) : Block :=
  block (2 ^ 63 + w.state % 16 * 2 ^ 59 + start % 1024 * 2 ^ 49 + w.dOn % 65536 * 2 ^ 33 + w.dRet % 65536 * 2 ^ 17 +
    w.strobe % 65536 * 2)

/-- VIH, VIL, VOH and VOL of channel c in a frame that brings no vector: those of the last vector, which the pin keeps, and before
there was one those applied (R317, R331). -/
def State.presentLevels (s : State) (c : Nat) : List Word :=
  let l := (s.link c).pinLevels
  if l.isEmpty then (upto 4).map (s.regAt .bseq (bankOf c) (0x200 + c % 64)) else l

/-- A drive level as a code, through the force correction of the forced voltage range (R235, R305). -/
def State.driveCode (s : State) (c : Nat) (v : Word) : Sample :=
  let n := s.activeRange c false
  let p := (s.pairFor c false n).1
  (cvtsDown (fma p.gf v p.fo) (s.fullScale c false n)).1

/-- A level of a measured quantity as a code, through the inverse of the measure correction of its active range (R305). The clamp
levels take it too (DESIGN CHOICE, log entry 111). -/
def State.senseCode (s : State) (c : Nat) (current : Bool) (v : Word) : Sample :=
  let n := s.activeRange c current
  let p := (s.pairFor c current n).1
  (cvtsDown (fquot (fsub v p.o) p.g) (s.fullScale c current n)).1

/-- Two codes of a level word. -/
def levelWord (a b : Sample) : Block := block (a.toNat * 2 ^ 24 + b.toNat)

/-- The level words of channel c for given levels (R470). -/
def State.levelWords (s : State) (c : Nat) (l : List Word) : List Block :=
  [levelWord (s.driveCode c (l.getD 0 0)) (s.driveCode c (l.getD 1 0)),
   levelWord (s.senseCode c false (l.getD 2 0)) (s.senseCode c false (l.getD 3 0)),
   levelWord (s.senseCode c true (s.reg .chan c 2)) (s.senseCode c true (s.reg .chan c 3))]

/-! ## Blocks 1 to 9 (R460, R462, R470) -/

/-- Block 1: LANE, FQ, SENSE, GUARD and FRAME, the number of frames since power-up (DESIGN CHOICE, log entry 111). SENSE is inert in
VECTOR (R99). -/
def State.firstBlock (s : State) (c lane : Nat) : Block :=
  block (lane * 2 ^ 60 + s.fqOf c * 2 ^ 58 + (s.sense c && s.mode c != 8).toNat * 2 ^ 57 +
    (s.rf .chan c 0xB 31 30 % 2) * 2 ^ 56 + s.clock / 100 % 256 * 2 ^ 32)

/-- Blocks 1 to 8 with block 9, which carries their CRC-32 (R462, R465). -/
def closeBlocks (l : List Block) : List Block :=
  l ++ [block (crc32 ((l.flatMap fun b => (bytesOf 8 b.toNat).reverse) ++ [0, 0, 0, 0]) * 2 ^ 32)]

/-- Blocks 1 to 9 of the present downstream frame of channel c, and its link once they have left. On the message lane a request that
waits leaves. On the vector lane the words of the frame's vectors leave, and the levels of the last of them (DESIGN CHOICE, log entry
111), or, where those equal the frame's before, a request of at most two words. A frame with the message lane carries no levels, so
none are the frame's before when the vector lane begins. -/
def State.formBlocks (s : State) (c : Nat) : List Block × Link :=
  let l := s.link c
  if s.vectorLane c then
    let vectors := s.frameVectors c
    let words := padTo 4 (vectors.map fun v => vectorWord v.1 v.2)
    let brought := vectors.getLast?.map fun v => v.2.levels
    let levels := s.levelWords c (brought.getD (s.presentLevels c))
    let l := { l with pinLevels := brought.getD l.pinLevels }
    match (if l.levels = levels then l.nextMsg 2 else none) with
    | some m => (closeBlocks (s.firstBlock c 2 :: words ++ padTo 3 m.blocks), l.sent m s.clock)
    | none => (closeBlocks (s.firstBlock c 1 :: words ++ levels), { l with levels := levels })
  else
    let l := { l with levels := [], pinLevels := [] }
    match l.nextMsg 6 with
    | some m => (closeBlocks (s.firstBlock c 0 :: padTo 7 m.blocks), l.sent m s.clock)
    | none => (closeBlocks (s.firstBlock c 0 :: padTo 7 []), l)

/-- Blocks 1 to 9 of a HELD channel: those of the last frame with no vector word marked VALID and no message, FRAME counting on (R536). -/
def State.heldBlocks (s : State) (c : Nat) : List Block :=
  let old := (s.link c).blocks
  let first := old.headD (s.firstBlock c 0)
  let lane := bitsOf first.toNat 63 60
  let words := (padTo 4 (old.drop 1)).map fun b => block (b.toNat % 2 ^ 63)
  let rest := if lane = 0 then padTo 7 []
    else words ++ if lane = 1 then padTo 3 (old.drop 5) else padTo 3 []
  closeBlocks (block (first.toNat / 2 ^ 40 * 2 ^ 40 + s.clock / 100 % 256 * 2 ^ 32) :: rest)

/-! ## A frame leaves (R449, R450, R452, R457) -/

/-- Consecutive blocks as they are sent: sync headers and scrambled payloads, and the bits sent last. -/
def sendBlocks : BitVec 58 → List (Nat × Block) → List (Nat × Block) × BitVec 58
  | tx, [] => ([], tx)
  | tx, (h, p) :: r =>
    let bits := scramble tx p
    let (line, tx) := sendBlocks (lastBits bits) r
    ((h, bits) :: line, tx)

/-- The ten blocks of a frame in slot order: the fast block, a control block, in its slot, the data blocks in the others. -/
def slotOrder (fast : Block) (blocks : List Block) : List (Nat × Block) :=
  let data := blocks.map fun b => (1, b)
  let n := min 9 (bitsOf fast.toNat 45 42)
  data.take n ++ (2, fast) :: data.drop n

/-! ## Training blocks (R472, R473) -/

/-- A training block: TYPE, SLOT, FRAME, ADV, APPLY and CHAN (R472). -/
structure TrainingBlock where
  kind : Nat
  slot : Nat
  frame : Nat
  adv : Nat
  applyAt : Nat
  chan : Nat
  deriving DecidableEq, Repr

/-- The payload of a training block. -/
def TrainingBlock.payload (t : TrainingBlock) : Block :=
  block (t.kind % 256 * 2 ^ 56 + t.slot % 16 * 2 ^ 52 + t.frame % 256 * 2 ^ 44 + t.adv % 65536 * 2 ^ 24 + t.applyAt % 256 * 2 ^ 16 +
    t.chan % 65536)

/-- The training block that a control block carries, if it is one. -/
def readTraining (r : Received) : Option TrainingBlock :=
  let n := (payloadIn r).toNat
  let kind := bitsOf n 63 56
  if r.header = 2 ∧ 0xE1 ≤ kind ∧ kind ≤ 0xE3 then
    some ⟨kind, bitsOf n 55 52, bitsOf n 51 44, bitsOf n 39 24, bitsOf n 23 16, bitsOf n 15 0⟩
  else none

/-- The ten blocks of a frame in TRAINING: TS1 until its echo, TS2 until the round trip is measured, then TS3 (R473). -/
def State.trainingFrame (s : State) (c : Nat) : List (Nat × Block) :=
  let l := s.link c
  let frame := s.clock / 100
  (upto 10).map fun i => (2, (match l.step with
    | 0 => (⟨0xE1, 0, 0, 0, 0, c⟩ : TrainingBlock)
    | 1 | 2 => ⟨0xE2, i, frame, 0, 0, c⟩
    | _ => ⟨0xE3, i, frame, l.adv, l.apply, c⟩).payload)

/-- A frame of training blocks leaves (R449, R472). -/
def State.sendTraining (s : State) (c : Nat) : State :=
  let l := s.link c
  let (line, tx) := sendBlocks l.tx (s.trainingFrame c)
  s.setLink c { l with line := line, tx := tx }

/-- The downstream frame of channel c with a fast block leaves. -/
def State.sendFast (s : State) (c : Nat) (b : Block) : State :=
  let (blocks, l) := if s.chState c = chHeld then (s.heldBlocks c, s.link c) else s.formBlocks c
  let (line, tx) := sendBlocks l.tx (slotOrder b blocks)
  s.setLink c { l with fast := b, blocks := blocks, line := line, tx := tx }

end Sys2Proof.Machine
end

