-- ==== Sys2Proof/Machine/Profile.lean ====
section
/-!
DEFINITION. The profile generator and the set-points it moves (R75, R87-R97, R174-R181, R193, R217, R269, R545).
-/

namespace Sys2Proof.Machine

/-! ## One frame of the generator (R177, R178, R181) -/

/-- A limit set: slew, acceleration, jerk, arrival window. -/
structure Limits where
  slew : Word
  accel : Word
  jerk : Word
  window : Word
  deriving DecidableEq, Repr

/-- T = 100 ns in binary32. -/
def frame32 : Word := 0x33D6BF95

/-- 2.0 in binary32. -/
def two32 : Word := 0x40000000

/-- a / b, or 0 where b is a jerk limit of 0 (R178). -/
def overJerk (a b : Word) : Word := if feq b 0 then 0 else fquot a b

/-- The sign of a value as 1.0 or -1.0; 0 for 0. -/
def signOf (a : Word) : Word := if fpos a then 0x3F800000 else if flt a 0 then 0xBF800000 else 0

/-- The generator with a non-zero acceleration limit: one frame towards x, not captured (R177). -/
def Limits.advance (l : Limits) (x : Word) (m : Move) : Move :=
  let d := fsub x m.p
  let s := if !feq m.v 0 then signOf m.v else if !feq d 0 then signOf d else signOf m.a
  let vm := fmul s m.v
  let am := fmul s m.a
  let dm := fmul s d
  let ap := fmax am 0
  let twoJ := fmul two32 l.jerk
  let v1 := fadd vm (overJerk (fmul ap ap) twoJ)
  let db := fadd (fadd (fadd (overJerk (fmul v1 ap) l.jerk) (fquot (fmul v1 v1) (fmul two32 l.accel)))
    (overJerk (fmul v1 l.accel) twoJ)) (fmul vm frame32)
  let ad :=
    if flt dm 0 then fneg l.accel
    else if fle dm db then (if fle vm (overJerk (fmul am am) twoJ) then 0 else fneg l.accel)
    else if flt l.slew vm then fneg l.accel
    else if flt vm (fsub l.slew (overJerk (fmul ap ap) twoJ)) then l.accel
    else 0
  let jt := fmul l.jerk frame32
  let am := if feq l.jerk 0 then ad else fadd am (fclamp (fneg jt) jt (fsub ad am))
  let v' := fadd vm (fmul am frame32)
  let v' := if fle 0 dm && flt v' 0 then 0 else v'
  let v' := if flt l.slew v' && flt vm v' then fmax l.slew vm else v'
  ⟨fadd m.p (fmul (fmul s v') frame32), fmul s v', fmul s am⟩

/-- The generator without an acceleration limit: at most SLEW × T a frame (R178). -/
def Limits.slide (l : Limits) (x : Word) (m : Move) : Move :=
  let d := fsub x m.p
  let cap := fmul l.slew frame32
  if fle (fabs d) cap then ⟨x, fquot d frame32, 0⟩
  else
    let step := if flt d 0 then fneg cap else cap
    ⟨fadd m.p step, fquot step frame32, 0⟩

/-- One frame of the generator: the move, and whether it captured its target (R177). -/
def Limits.step (l : Limits) (x : Word) (m : Move) : Move × Bool :=
  if fle (fabs (fsub x m.p)) l.window && fle (fabs m.v) (fmul l.accel frame32) && fle (fabs m.a) (fmul l.jerk frame32) then
    (⟨x, 0, 0⟩, true)
  else if feq l.accel 0 then (l.slide x m, false)
  else (l.advance x m, false)

/-- A limit set of channel c from its first field; the moves of the inner set-point have window 0.0 (R175, R176). -/
def State.limits (s : State) (c first : Nat) : Limits :=
  ⟨s.reg .profile c first, s.reg .profile c (first + 1), s.reg .profile c (first + 2),
    if first = 8 then 0 else s.reg .profile c (first + 3)⟩

/-- One frame of a move of channel c under the limit set that begins at a field; with PROFILE_EN = 0, or where the profile is
inert, a step (R99, R181). -/
def State.moveStep (s : State) (c first : Nat) (x : Word) (m : Move) : Move × Bool :=
  if s.profileEn c && s.mode c != 7 && s.mode c != 8 then (s.limits c first).step x m else (⟨x, 0, 0⟩, true)

/-! ## Set-points of a channel -/

/-- The target move: POSITION, VELOCITY and its acceleration. -/
def State.targetMove (s : State) (c : Nat) : Move := ⟨s.reg .profile c 0x21, s.reg .profile c 0x22, (s.chan c).acc⟩

/-- Write the target move. -/
def State.setTargetMove (s : State) (c : Nat) (m : Move) : State :=
  ((s.setReg .profile c 0x21 m.p).setReg .profile c 0x22 m.v).setChan c { s.chan c with acc := m.a }

/-- The applied CAL_SET of channel c names a FAULTED set (R545). -/
def State.calBlocked (s : State) (c : Nat) : Bool := (s.calSet (s.calSetOf c)).state == 3

/-- A value kept within ±bound. -/
def boundBy (bound v : Word) : Word := if flt bound v then bound else if flt v (fneg bound) then fneg bound else v

/-- UP / 1024 × FULL_SCALE of a range as binary32. -/
def State.upBound32 (s : State) (c : Nat) (current : Bool) (r : Nat) : Word := toF32 (s.upBound c current r)

/-- The source value of the set-point: FORCE_LEVEL, or the output of SEQ[c] (R58, R268, R269). -/
def State.sourceValue (s : State) (c : Nat) : Word :=
  if s.srcSeq c then s.seqOutput c else s.reg .chan c 0x10

/-- The outer loop of channel c is at work: ARMED, and not stopped by ZERO (R75, R155, R176). -/
def State.outerRuns (s : State) (c : Nat) : Bool := s.outerOn c && s.chState c == chArmed && !(s.chan c).zero

/-- The lowest eligible range of the forced quantity whose UP / 1024 × FULL_SCALE is at least |x|, else the highest (R217,
R221). -/
def State.forcedRangeFor (s : State) (c : Nat) (current : Bool) (x : Word) : Nat :=
  let l := s.eligible c current
  (l.find? fun r => (val x).abs.le (s.upBound c current r)).getD (l.getLastD (s.activeRange c current))

/-- The range the forced quantity must move up to for a value x, if it auto-ranges and the active one does not hold x
(R217). -/
def State.forcedUp (s : State) (c : Nat) (x : Word) : Option Nat :=
  match s.forced c with
  | none => none
  | some q =>
    let active := s.activeRange c q
    let r := s.forcedRangeFor c q x
    if s.autoActs c q && (s.upBound c q active).lt (val x).abs && active < r then some r else none

/-- The target the channel's state asks for: the source value where it is ARMED and not stopped by ZERO, else 0 (R75, R89,
R90). -/
def State.wantedTarget (s : State) (c : Nat) : Word :=
  if s.chState c ≠ chArmed || (s.chan c).zero then 0 else s.sourceValue c

/-- An up-range of the forced quantity is in progress (R218). -/
def State.forcedRising (s : State) (c : Nat) : Bool :=
  match (s.chan c).change with
  | some k => s.forced c == some k.current && s.activeRange c k.current < k.target
  | none => false

/-- An up-range of the forced quantity is decided, in progress, or reported with its swap to come (R217). -/
def State.forcedMoves (s : State) (c : Nat) (q : Bool) : Bool :=
  let x := s.chan c
  let waits := match (if q then x.waitI else x.waitV) with
    | some r => decide (s.activeRange c q < r)
    | none => false
  waits || s.forcedRising c || x.swap.isSome

/-- The target of the generator in the present frame (R217, R545), and the target to keep while an up-range of the forced quantity
runs. -/
def State.target (s : State) (c : Nat) : Word × Option Word :=
  let x := s.chan c
  let v := s.wantedTarget c
  match s.forced c with
  | none => (v, none)
  | some q =>
    if s.outerOn c || s.chState c ≠ chArmed || x.zero then (v, none)
    else if s.calBlocked c then (boundBy (s.upBound32 c q (s.activeRange c q)) v, none)
    else if (s.forcedUp c v).isSome || (x.heldTarget.isSome && s.forcedMoves c q) then
      let h := x.heldTarget.getD x.target
      (h, some h)
    else (v, none)

/-- The inner set-point kept within its bounds: by UP as it was at the start of an up-range of the forced quantity that is in
progress (R211, R218), and with a FAULTED set (R545). -/
def State.innerBounded (s : State) (c : Nat) (v : Word) : Word :=
  match s.forced c with
  | none => v
  | some q =>
    match (if s.forcedRising c then (s.chan c).change else none) with
    | some k => boundBy (toF32 (s.upBoundAt c q (s.activeRange c q) k.up)) v
    | none => if s.calBlocked c then boundBy (s.upBound32 c q (s.activeRange c q)) v else v

/-- A new inner set-point that hands off over a number of frames, from the one in effect (R154). -/
def Outer.begins (o : Outer) (ri : Word) (span : Nat) : Outer := { o with fromSp := o.inner, toSp := ri, step := 1, span := span }

/-- A hand-off ramp is in progress: STATUS.HANDOFF_ACTIVE (R147). -/
def Outer.ramps (o : Outer) : Bool := o.step != 0 && o.span != 1

/-- The outer loop one frame on: the inner set-point that is in effect in this frame (R154). -/
def Outer.handOff (o : Outer) : Outer :=
  if o.step = 0 then o
  else if o.span ≤ o.step then { o with inner := o.toSp, step := 0 }
  else { o with
    inner := fadd o.fromSp (fquot (fmul (fsub o.toSp o.fromSp) (ofInt o.step)) (ofInt o.span)), step := o.step + 1 }

/-- DIV of channel c. -/
def State.divider (s : State) (c : Nat) : Nat := s.rf .outer c 0 31 20 + 1

/-- The target move one frame on, in POSITION and VELOCITY, with ARRIVED (R177, R183): it rests where the profile is inert (R99)
and, where the outer loop has been stopped, stays as it was (R176). -/
def State.moveTarget (s : State) (c : Nat) (x : Word) : State :=
  if s.mode c = 7 || s.mode c = 8 || (s.outerOn c && !s.outerRuns c && s.chState c ≠ chArming) then s
  else
    let (m, arrived) := s.moveStep c 0 x (s.targetMove c)
    let s := (s.setTargetMove c m).setRb .profile c 0x20 5 arrived
    s.setChan c { s.chan c with supv := { (s.chan c).supv with
      arrivedOnce := (s.chan c).supv.arrivedOnce || (arrived && s.chState c == chArmed) } }

/-- The inner set-point one frame on: the hand-off of the outer loop while it runs, else its own move to 0 (R154, R176). -/
def State.moveInner (s : State) (c : Nat) : State :=
  let x := s.chan c
  if !s.outerOn c then s
  else if s.outerRuns c then
    let o := x.outer.handOff
    (s.setRb .outer c 0x20 4 o.ramps).setChan c { x with outer := o, innerMove := ⟨o.inner, 0, 0⟩ }
  else
    let m := (s.moveStep c 8 0 x.innerMove).1
    (s.setRb .outer c 0x20 4 false).setChan c { x with outer := { x.outer with inner := m.p, step := 0 }, innerMove := m }

/-- The compliance limits one frame on (R96, R176). -/
def State.moveLimits (s : State) (c : Nat) : State :=
  let x := s.chan c
  let (pos, atPos) := s.moveStep c 4 (s.reg .chan c 2) x.limPos
  let (neg, atNeg) := s.moveStep c 4 (s.reg .chan c 3) x.limNeg
  (s.setRb .profile c 0x20 4 (!(atPos && atNeg))).setChan c { x with limPos := pos, limNeg := neg }

/-- Move the target, the inner set-point and the compliance limits one frame on, and form r of the next frame from what is in
effect in this one (R106 step 11, R107, R154, R176). -/
def State.profileStep (s : State) (c : Nat) : State :=
  let (t, keep) := s.target c
  let ro := (s.targetMove c).p
  let s := ((s.moveTarget c t).moveInner c).moveLimits c
  let x := s.chan c
  let r := if s.mode c = 7 || s.mode c = 8 then 0
    else if s.outerOn c then s.innerBounded c x.outer.inner
    else (s.targetMove c).p
  s.setChan c { x with
    target := t, heldTarget := keep, ref := r, ref1 := x.ref, ref2 := x.ref1, outer := { x.outer with ro := ro } }

/-- A frame in which the generator stands still: r stays as it is and has been so for one frame more (R184, R193). -/
def State.profileStands (s : State) (c : Nat) : State :=
  let x := s.chan c
  s.setChan c { x with ref1 := x.ref, ref2 := x.ref1 }

end Sys2Proof.Machine
end

