-- ==== Sys2Proof/Machine/Supervise.lean ====
section
/-!
DEFINITION. Trips as they meet, and supervision: following error and plausibility (R71, R73-R75, R127, R182-R193, R334).
-/

namespace Sys2Proof.Machine

/-! ## Thermal feedback (R149, R158, R159) -/

/-- The value of the thermal feedback of channel c in K, and the elapsed time at which it was last renewed. -/
def State.thermal (s : State) (c : Nat) : Word × Nat :=
  let sel := s.rf .outer c 1 29 24
  let tsep (k : Nat) : Word × Nat :=
    (fma (s.reg .outer c 9) (fsub (s.chan k).goodV (s.reg .outer c 8)) (s.reg .outer c 7), (s.chan k).goodAt)
  match s.rf .outer c 1 31 30 with
  | 0 => tsep c
  | 1 => tsep (64 * bankOf c + sel)
  | 2 => (s.reg .hk 0 (0x100 + sel), findD s.hk.doneAt 0 sel)
  | _ => ((s.headTemp c).getD 0, (s.chan c).tempAt)

/-- The age of the thermal feedback in ns. -/
def State.thermalAge (s : State) (c : Nat) : Nat := s.clock - (s.thermal c).2

/-- MAX_AGE in ns. -/
def State.maxAge (s : State) (c : Nat) : Nat := s.rf .outer c 1 15 0 * 10000

/-- SRC_AGE.AGE: 10 µs units, at most 0xFFFF (R147). -/
def State.sourceAge (s : State) (c : Nat) : Nat := min 0xFFFF (s.thermalAge c / 10000)

/-- The age of the thermal feedback trips channel c (R159). A channel whose outer loop does not run, because it is ARMING or
DISARMING or stopped by ZERO, is not tripped (DESIGN CHOICE, log entry 118). -/
def State.thermDue (s : State) (c : Nat) : Bool :=
  s.outerRuns c && s.mode c == 5 && decide (2 * s.maxAge c ≤ s.thermalAge c)

/-! ## Limits counted in frames (R73, R99 note j) -/

/-- Count k of a list of runs: one more where the value lies beyond its limit, else 0. -/
def runOf (runs : List Nat) (k : Nat) (beyond : Bool) : Nat := if beyond then runs.getD k 0 + 1 else 0

/-- A value of the compliance quantity reaches a compliance limit, which in OPEN trips (R99 note j). -/
def State.openBeyond (s : State) (c : Nat) (v i : Word) : Bool :=
  let y := if s.forcesCurrent c then v else i
  s.mode c == 6 && (fle (s.chan c).limPos.p y || fle y (s.chan c).limNeg.p)

/-- Evaluate the protection limits on a frame that is not predicted (R73, R127), in MONITOR too, whose current sample is reported
(R56; DEDUCED, log entry 99). -/
def State.protectFrame (s : State) (c : Nat) (v i : Word) : State :=
  let x := s.chan c
  let tempMax := s.reg .chan c 9
  let hot := match s.headTemp c with
    | some t => !feq tempMax 0 && flt tempMax t
    | none => false
  s.setChan c { x with overRuns :=
    [runOf x.overRuns 0 (flt (s.reg .chan c 4) v), runOf x.overRuns 1 (flt v (s.reg .chan c 5)),
     runOf x.overRuns 2 (flt (s.reg .chan c 6) (fabs i)), runOf x.overRuns 3 hot,
     runOf x.overRuns 4 (s.openBeyond c v i)] }

/-- The limit a compliance trip in OPEN names: the protection limit of its quantity and side (DESIGN CHOICE, log entry 29). -/
def State.openLimit (s : State) (c : Nat) : Limit × Word :=
  let x := s.chan c
  if s.forcesCurrent c then (if fle x.limPos.p x.lastV then (.vHi, x.lastV) else (.vLo, x.lastV)) else (.current, x.lastI)

/-- The limit exceeded for PROT_DELAY frames, with the value that exceeds it. -/
def State.protDue (s : State) (c : Nat) : Option (Limit × Word) :=
  let x := s.chan c
  let due (k : Nat) : Bool := s.active c && s.rf .chan c 7 31 16 ≤ x.overRuns.getD k 0 && 0 < x.overRuns.getD k 0
  if due 0 then some (.vHi, x.lastV)
  else if due 1 then some (.vLo, x.lastV)
  else if due 2 then some (.current, x.lastI)
  else if due 3 then some (.headTemp, (s.headTemp c).getD 0)
  else if due 4 then some (s.openLimit c)
  else none

/-! ## Phases (R189) -/

/-- A recovery phase begins, outside start-up. -/
def State.beginRecovery (s : State) (c : Nat) : State :=
  if s.phase c = 0 || s.phase c = 1 then s
  else (s.setRf .profile c 0x20 7 6 3).setChan c { s.chan c with supv := { (s.chan c).supv with phaseSince := s.clock } }

/-- The start-up phase begins. -/
def State.beginStartUp (s : State) (c : Nat) : State :=
  (s.setRf .profile c 0x20 7 6 1).setChan c
    { s.chan c with supv := { (s.chan c).supv with phaseSince := s.clock, arrivedOnce := false } }

/-- Supervision of channel c stands still: HELD, or in prediction hold (R193). -/
def State.supvStands (s : State) (c : Nat) : Bool := s.chState c == chHeld || s.rb .loop c 0x40 10

/-- The present phase is longer by a time in which supervision stood still. -/
def State.phaseWaits (s : State) (c ns : Nat) : State :=
  s.setChan c { s.chan c with supv := { (s.chan c).supv with phaseSince := (s.chan c).supv.phaseSince + ns } }

/-- SUPV_PHASE_END of channel c. -/
def State.phaseEnd (s : State) (c : Nat) : State :=
  let x := (s.chan c).supv
  let past (ticks : Nat) : Bool := x.phaseSince + ticks * 10000 ≤ s.clock
  if s.supvStands c then s
  else if s.phase c = 1 && past (s.rf .profile c 0x14 31 16) && (x.arrivedOnce || s.mode c == 7) then
    s.setRf .profile c 0x20 7 6 2
  else if s.phase c = 3 && past (s.rf .profile c 0x14 15 0) then s.setRf .profile c 0x20 7 6 2
  else s

/-! ## Following error (R184-R186) -/

/-- One evaluated following error. -/
def State.evalFollow (s : State) (c : Nat) (fe : Word) : State :=
  let x := (s.chan c).supv
  let s := s.setReg .profile c 0x23 (fmax (fabs fe) (s.reg .profile c 0x23))
  let timer := if flt (s.reg .profile c 0x11) (fabs fe) then x.feTimer + 1 else x.feTimer - 1
  let due := if s.rf .profile c 0x10 31 16 ≤ timer then some fe else x.feDue
  (s.setRb .profile c 0x20 3 (timer != 0)).setChan c { s.chan c with supv := { x with feTimer := timer, feDue := due } }

/-- Whether a frame of channel c is evaluated for following error (R186); predicted frames are not. -/
def State.followOn (s : State) (c : Nat) : Bool :=
  s.supvEn c && !s.ranging c && !s.inCompliance c && (s.chState c == chArming || s.chState c == chArmed)

/-! ## Plausibility (R187-R191) -/

/-- The residual of a frame and its tolerance in the present phase. -/
def State.residual (s : State) (c : Nat) (v i : Word) : Word × Word :=
  let offset := s.reg .profile c 0x13
  let first := if s.phase c = 1 then 0x15 else if s.phase c = 3 then 0x1B else 0x18
  let tol (m : Word) : Word := fma (s.reg .profile c (first + 1)) (fabs m) (s.reg .profile c first)
  match s.rf .profile c 0x10 13 12 with
  | 0 => let m := fma (s.reg .profile c 0x12) v offset; (fsub i m, tol m)
  | 1 => (fsub v offset, tol offset)
  | _ => (fsub i offset, tol offset)

/-- One frame of plausibility; v and i are those of a frame that is not predicted (R190). -/
def State.evalPlaus (s : State) (c : Nat) (v i : Word) : State :=
  if !(s.supvEn c && s.chState c != chDisarming && !s.ranging c && s.mode c != 8) then s
  else
    let (rho, tol) := s.residual c v i
    let bad := flt tol (fabs rho)
    let x := (s.chan c).supv
    let n := if bad then x.implausible + 1 else 0
    let due := if bad && fld (s.phaseCtl c (s.phase c)) 31 16 ≤ n then some (s.phase c, rho) else x.plDue
    (s.setRb .profile c 0x20 2 bad).setChan c { s.chan c with supv := { x with implausible := n, plDue := due } }

/-! ## Actions (R185, R191-R193) -/

/-- The protection limit or the thermal feedback trips channel c in the present frame, and supervision only counts (R193). -/
def State.otherTrip (s : State) (c : Nat) : Bool := (s.protDue c).isSome || s.thermDue c

/-- PROTECTION_TRIP of channel c (R73-R75, R193). -/
def State.protectionTrip (s : State) (c : Nat) : State :=
  match s.protDue c with
  | some (l, v) => s.trip c l v
  | none => s

/-- A following-error trip takes an implausible frame's trip with it: one trip, both counted, N_IMPLAUSIBLE sent (R193). -/
def State.plausWithFollow (s : State) (c : Nat) : State :=
  match (s.chan c).supv.plDue with
  | some d => if s.plausAction c d.1 = 2 then (s.plausActs c).noticePlaus c d else s
  | none => s

/-- FE_ACTION of channel c (R185, R192, R193). -/
def State.followAction (s : State) (c : Nat) : State :=
  match (s.chan c).supv.feDue with
  | none => s
  | some fe =>
    let s := s.followActs c
    if !s.followTrips c then s.noticeFollow c fe
    else if s.otherTrip c then s
    else (s.plausWithFollow c).trip c .follow fe

/-- PLAUS_ACTION of channel c (R191-R193). -/
def State.plausibilityAction (s : State) (c : Nat) : State :=
  match (s.chan c).supv.plDue with
  | none => s
  | some d =>
    if (s.chan c).supv.feDue.isSome && s.followTrips c && s.plausAction c d.1 = 2 then s.followAction c
    else
      let s := s.plausActs c
      match s.plausAction c d.1 with
      | 0 => s
      | 1 => s.noticePlaus c d
      | _ => if s.otherTrip c then s else s.trip c .plaus d.2

/-- The trip of a due plausibility action. -/
def State.plausTripDue (s : State) (c : Nat) (d : Option (Nat × Word)) : Option (Limit × Word) :=
  match d with
  | some d => if s.plausAction c d.1 = 2 then some (.plaus, d.2) else none
  | none => none

/-- The trip that is due on channel c from its last frame: a protection limit, else the thermal feedback, else the following
error, else plausibility (R193). -/
def State.tripDue (s : State) (c : Nat) : Option (Limit × Word) :=
  let x := (s.chan c).supv
  match s.protDue c with
  | some t => some t
  | none =>
    if s.thermDue c then some (.thermSrc, 0)
    else match x.feDue, x.plDue with
      | some fe, d => if s.followTrips c then some (.follow, fe) else s.plausTripDue c d
      | none, d => s.plausTripDue c d

/-- CROSS_TIME of channel c: in compliance for CROSS_TIME × 10 µs (R71). -/
def State.crossTime (s : State) (c : Nat) : State :=
  let n := s.rf .chan c 8 31 16
  if n ≠ 0 && s.inCompliance c && n * 100 ≤ (s.chan c).compFrames && s.active c then
    let x := s.chan c
    s.trip c .crossTime (if s.forcesCurrent c then x.lastV else x.lastI)
  else s

/-- CHAN_EVENT_TRIP of channel c: its first frame at or after 10 core cycles from the delivery (R334); a protection limit
exceeded in the same frame is what the trip names (R359). -/
def State.chanEventTrip (s : State) (c : Nat) : State :=
  match (s.chan c).eventTrip with
  | some cyc =>
    if cyc ≤ s.chanCycle c && s.active c && (s.protDue c).isNone then
      (s.setChan c { s.chan c with eventTrip := none }).trip c .event
    else s
  | none => s

end Sys2Proof.Machine
end

