-- ==== Sys2Proof/Machine/Ranging.lean ====
section
/-!
DEFINITION. Range changes and auto-ranging (R133, R194-R219, R545).
-/

namespace Sys2Proof.Machine

/-! ## Range changes (R195-R206) -/

/-- The waiting change of a quantity. -/
def Chan.waiting (x : Chan) (current : Bool) : Option Nat := if current then x.waitI else x.waitV

/-- Let a range of a quantity wait, or no longer. -/
def Chan.setWaiting (x : Chan) (current : Bool) (r : Option Nat) : Chan :=
  if current then { x with waitI := r } else { x with waitV := r }

/-- The quantity whose waiting change starts first: the forced one; in MONITOR the voltage (R196). -/
def State.firstQty (s : State) (c : Nat) : Bool := s.forcesCurrent c

/-- A change of a quantity starts in the present frame of channel c (R195, R200, R201). -/
def State.startChange (s : State) (c : Nat) (current : Bool) (r : Nat) : State :=
  let s := (s.setTarget c current r).setRb .chan c 0x21 15 true
  let s := s.setChan c { s.chan c with change := some ⟨current, r, s.clock, s.arUp c⟩ }
  (s.fireChan c 3).pairsAtChange c current r

/-- A waiting change of one quantity leaves the queue: it starts unless its range is active already (R197). Says whether it
started. -/
def State.tryWaiting (s : State) (c : Nat) (current : Bool) : Bool × State :=
  match (s.chan c).waiting current with
  | none => (false, s)
  | some r =>
    let s := s.setChan c ((s.chan c).setWaiting current none)
    if r = s.activeRange c current then (false, s) else (true, s.startChange c current r)

/-- Start what waits, if no change is in progress and the applied CAL_SET is not FAULTED (R196, R545). -/
def State.startWaiting (s : State) (c : Nat) : State :=
  if (s.chan c).change.isSome || s.calBlocked c then s
  else
    let first := s.firstQty c
    let (started, s) := s.tryWaiting c first
    if started then s else (s.tryWaiting c (!first)).2

/-- The swap of R133 at the start of a frame. -/
def State.swapSet (s : State) (c : Nat) : State :=
  match (s.chan c).swap with
  | none => s
  | some j =>
    ((s.setRf .loop c 0x40 14 12 j).setRb .loop c 0x40 11 false).setChan c { s.chan c with swap := none }

/-- The range parity of a good fast block of an active channel: an inverted one ends the change in progress, and
with it the pairs of the range that is left (R201, R203, R456). -/
def State.rangeReport (s : State) (c : Nat) (rp : Bool) : State :=
  let x := s.chan c
  if rp = x.rp then s
  else
    let s := s.setChan c { x with rp := rp }
    match x.change with
    | none => s
    | some k =>
      let past := s.activeRange c k.current
      let s := (s.setActive c k.current k.target).setRb .chan c 0x21 15 false
      let forced := s.forced c == some k.current
      let x := s.chan c
      let auto (a : AutoRange) (q : Bool) : AutoRange := if q = k.current then { AutoRange.fresh with since := some s.clock } else a
      let s := s.setChan c { x with
        change := none,
        pairs := if past = k.target then x.pairs else eraseKey x.pairs (rangeKey k.current past), autoV := auto x.autoV false, autoI := auto x.autoI true,
        swap := if forced then some k.target else x.swap }
      let s := if forced then s.setRb .loop c 0x40 11 true else s
      ((s.showExtrap c).fireChan c 4).beginRecovery c

/-- RANGE_TIMEOUT of channel c (R205). -/
def State.rangeTimeout (s : State) (c : Nat) : State :=
  match (s.chan c).change with
  | some k =>
    if s.active c && k.since + 2 * s.overlap c k.current k.target * 100 + 20000 ≤ s.clock then
      s.trip c .range
    else s
  | none => s

/-! ## Auto-ranging (R208-R219) -/

/-- AutoRange of a quantity. -/
def Chan.auto (x : Chan) (current : Bool) : AutoRange := if current then x.autoI else x.autoV

/-- Replace AutoRange of a quantity. -/
def Chan.setAuto (x : Chan) (current : Bool) (a : AutoRange) : Chan :=
  if current then { x with autoI := a } else { x with autoV := a }

/-- DWELL of channel c in ns. -/
def State.dwell (s : State) (c : Nat) : Nat := s.rf .bank (bankOf c) 0x31 31 16 * 10000

/-- A judged value joins those of the last DWELL; an older value that is no greater can never be the largest again. -/
def AutoRange.see (a : AutoRange) (v : Word) (now dwell : Nat) : AutoRange :=
  { a with seen := (a.seen.filter fun e => decide (now < e.1 + dwell) && flt v e.2) ++ [(now, v)] }

/-- Judge one value of an auto-ranged quantity (R208, R215, R216). full says that the sample was at a full-scale code. -/
def State.judge (s : State) (c : Nat) (current : Bool) (v : Word) (full : Bool) : State :=
  let a := ((s.chan c).auto current).see v s.clock (s.dwell c)
  let above := (s.upBound c current (s.activeRange c current)).lt (val v)
  let a := if above then { a with upRun := a.upRun + 1, upMax := fmax v (if a.upRun = 0 then v else a.upMax),
                                  full := full || (a.upRun != 0 && a.full) }
    else { a with upRun := 0, full := false }
  s.setChan c ((s.chan c).setAuto current a)

/-- The value judged of the forced quantity (R214). -/
def State.forcedValue (s : State) (c : Nat) : Word :=
  if s.outerOn c then fabs (s.chan c).outer.inner else fmax (fabs (s.target c).1) (fabs (s.targetMove c).p)

/-- Evaluate auto-ranging on a frame that carries neither RANGING nor PREDICTED (R106 step 13, R208). -/
def State.judgeFrame (s : State) (c : Nat) (v i : Word) (fullV fullI : Bool) : State :=
  if s.ranging c then s
  else
    [(false, v, fullV), (true, i, fullI)].foldl (fun s q =>
      if !s.autoActs c q.1 then s
      else if s.forced c == some q.1 then s.judge c q.1 (s.forcedValue c) false
      else s.judge c q.1 (fabs q.2.1) q.2.2) s

/-- Where an up-range of a quantity must go now, if anywhere (R213, R215, R217). -/
def State.upRangeTo (s : State) (c : Nat) (current : Bool) : Option Nat :=
  let active := s.activeRange c current
  let l := s.eligible c current
  let a := (s.chan c).auto current
  let top := l.getLastD active
  let above (r : Nat) : Option Nat := if active < r then some r else none
  if s.forced c == some current then
    s.forcedUp c (if s.outerOn c then (s.chan c).outer.inner else s.wantedTarget c)
  else if s.isCompQty c current && active < s.compFloor c current then some (s.compFloor c current)
  else if a.upRun < s.rf .bank (bankOf c) 0x30 11 8 then none
  else if a.full then above top
  else above ((l.find? fun r => (val a.upMax).lt (s.upBound c current r)).getD top)

/-- The largest value judged over the last DWELL. -/
def AutoRange.largest (a : AutoRange) : Word := (a.seen.map Prod.snd).foldl fmax 0

/-- Where a down-range of a quantity may go now, if anywhere (R216, R219). -/
def State.downRangeTo (s : State) (c : Nat) (current : Bool) : Option Nat :=
  let active := s.activeRange c current
  let below := (s.eligible c current).filter fun r => decide (r < active)
  let a := (s.chan c).auto current
  let fits (r : Nat) : Bool := (val a.largest).lt (s.downBound c current r)
  match below.getLast? with
  | none => none
  | some r1 =>
    match a.since with
    | some t => if t + s.dwell c ≤ s.clock && !a.seen.isEmpty && fits r1 then below.find? fits else none
    | none => none

/-- Auto-ranging of a quantity may decide: on, not in a change, and the set not FAULTED (R208, R545). -/
def State.autoDecides (s : State) (c : Nat) (current : Bool) : Bool :=
  s.autoActs c current && s.active c && (s.chan c).change.isNone && !s.calBlocked c

/-- An auto-range decision: the change waits for the channel's next frame, in place of one of its quantity that waits already
(R196). -/
def State.decideRange (s : State) (c : Nat) (current : Bool) (r : Nat) : State :=
  let x := s.chan c
  s.setChan c ((x.setAuto current { x.auto current with upRun := 0, full := false }).setWaiting current (some r))

/-- UP_RANGE of a quantity of channel c. -/
def State.upRange (s : State) (c : Nat) (current : Bool) : State :=
  match s.upRangeTo c current with
  | some r => if s.autoDecides c current then s.decideRange c current r else s
  | none => s

/-- DOWN_RANGE of a quantity of channel c. -/
def State.downRange (s : State) (c : Nat) (current : Bool) : State :=
  match s.downRangeTo c current with
  | some r => if s.autoDecides c current then s.decideRange c current r else s
  | none => s

end Sys2Proof.Machine
end

