-- ==== Sys2Proof/Machine/Outer.lean ====
section
/-!
DEFINITION. Outer loops and the repetitive controller (R53, R72, R145-R169, R184, R193, R218).
-/

namespace Sys2Proof.Machine

/-! ## The averages (R148-R150) -/

/-- The regulated quantity of the outer loop in a frame (R149). -/
def State.outerValue (s : State) (c : Nat) (v i : Word) : Word :=
  match s.mode c with
  | 3 => fmul (fabs v) (fabs i)
  | 4 => fmul (fabs v) (frcp (fmax (fabs i) (s.reg .outer c 6)))
  | 5 => (s.thermal c).1
  | _ => v

/-- The present frame is a divider frame (R148). -/
def State.dividerFrame (s : State) (c : Nat) : Bool := s.now / 100 % s.divider c == s.rf .outer c 0 19 8

/-- The averages start afresh and no update is due. -/
def Outer.restart (o : Outer) : Outer := { o with sumY := 0, sumV := 0, sumI := 0, good := 0, due := false }

/-- A divider frame with outer target ro ends its period; judged says that it may be judged for following error, against the r_o
of the divider frame before it (R184, R186). -/
def Outer.divides (o : Outer) (ro : Word) (judged : Bool) : Outer :=
  { o with lastRo := some ro, feRo := if judged then o.lastRo else none }

/-- A frame of an active channel c reaches its outer loop: a good one joins the averages, and a divider frame ends the period
(R150) and, where the loop runs, makes the update due. What the loop left of an earlier period is gone by then. The ramp start
begins a period afresh (DESIGN CHOICE, log entry 117). -/
def State.outerFrame (s : State) (c : Nat) (v i : Word) (good : Bool) : State :=
  if !s.outerOn c then s
  else
    let o := (s.chan c).outer
    let o := if o.due then o.restart else o
    let o := if good then { o with
        sumY := fadd o.sumY (s.outerValue c v i), sumV := fadd o.sumV (fabs v), sumI := fadd o.sumI (fabs i),
        good := o.good + 1 } else o
    let o := if !s.dividerFrame c then o
      else if s.outerRuns c then { o.divides (s.targetMove c).p good with due := true }
      else o.restart.divides (s.targetMove c).p false
    s.setChan c { s.chan c with outer := o }

/-- A frame of channel c in HELD or in prediction hold reaches its outer loop, whose updates stand still: it is not good, and a
divider frame ends its period (R148, R150, R193). -/
def State.outerStands (s : State) (c : Nat) : State :=
  if s.outerOn c && s.dividerFrame c then
    s.setChan c { s.chan c with outer := (s.chan c).outer.restart.divides (s.targetMove c).p false }
  else s

/-- A mean of n values summed in the engine (R102; DEDUCED, log entry 97). -/
def meanEng (sum : Word) (n : Nat) : Word := fmul sum (frcp (ofInt n))

/-! ## The outer law (R151-R156) -/

/-- The feedforward term (R152, R153). -/
def State.feedforward (s : State) (c : Nat) (ro meanV meanI : Word) : Word :=
  let floor := s.reg .outer c 6
  if !s.rb .outer c 0 7 then 0
  else match s.mode c, s.forcesCurrent c with
    | 1, _ => ro
    | 3, false => fmul ro (frcp (fmax meanI floor))
    | 3, true => fmul ro (frcp (fmax meanV floor))
    | 4, false => fmul ro meanI
    | 4, true =>
      let top := s.reg .outer c 4
      if feq meanV 0 then 0 else if fle (fmul ro top) meanV then top else fquot meanV ro
    | _, _ => 0

/-- The quadrant of CP and CR is the negative one (R151). -/
def State.negQuadrant (s : State) (c : Nat) : Bool := (s.mode c == 3 || s.mode c == 4) && s.polarity c

/-- The update of a divider frame whose period holds a good frame (R151, R154, R156). -/
def State.outerLaw (s : State) (c : Nat) : State :=
  let o := (s.chan c).outer
  let div := s.divider c
  let y := meanEng o.sumY o.good
  let kp := s.reg .outer c 2
  let hi := s.reg .outer c 4
  let lo := s.reg .outer c 5
  let e := fsub o.ro y
  let base := fma kp e (s.feedforward c o.ro (meanEng o.sumV o.good) (meanEng o.sumI o.good))
  let integ := if o.adopt then fsub (if s.negQuadrant c then fneg o.inner else o.inner) base else s.reg .outer c 0x22
  let un := fadd base integ
  let hold := s.inCompliance c || s.forcedRising c ||
    (s.rb .outer c 0 5 && ((flt hi un && fpos e) || (flt un lo && flt e 0)))
  let integ := if hold then integ
    else fclamp lo hi (fadd integ (fmul (fmul (s.reg .outer c 3) (fmul (ofInt div) frame32)) e))
  let u := fadd base integ
  let clamped := flt u lo || flt hi u
  let u := fclamp lo hi u
  let ri := if s.negQuadrant c then fneg u else u
  let o := o.begins ri (if s.rb .outer c 0 6 then div else 1)
  let s := (((s.setReg .outer c 0x21 y).setReg .outer c 0x22 integ).setReg .outer c 0x23 u)
  let s := ((s.setRb .outer c 0x20 6 hold).setRb .outer c 0x20 5 clamped).setRb .outer c 0x20 4 o.ramps
  let s := s.setChan c { s.chan c with outer := { o.restart with adopt := false } }
  match (if s.followOn c then o.feRo else none) with
  | some last => s.evalFollow c (fsub last y)
  | none => s

/-- The feedback is recent enough for an update (R159). -/
def State.feedbackFresh (s : State) (c : Nat) : Bool := s.mode c != 5 || decide (s.thermalAge c ≤ s.maxAge c)

/-- OUTER_UPDATE of channel c, in the tail of a divider frame (R148-R156). -/
def State.outerUpdate (s : State) (c : Nat) : State :=
  let o := (s.chan c).outer
  if !(s.outerRuns c && o.due && s.feedbackFresh c) then s
  else
    let s := s.setRb .outer c 0x20 7 false
    let s := s.setChan c { s.chan c with outer := { o with lostSent := false } }
    if o.good = 0 then s.setChan c { s.chan c with outer := (s.chan c).outer.restart } else s.outerLaw c

/-- THERM_SRC_LOST of channel c: the feedback is too old at a divider frame (R159). Y_MEAN is not renewed there and no following
error is evaluated (DESIGN CHOICE, log entry 118). -/
def State.thermLost (s : State) (c : Nat) : State :=
  let o := (s.chan c).outer
  if !(s.outerRuns c && o.due) || s.feedbackFresh c then s
  else
    let s := (s.setRb .outer c 0x20 7 true).setChan c { s.chan c with outer := { o.restart with lostSent := true } }
    if o.lostSent then s else s.notify 0x0105 .chan c [s.sourceAge c]

/-- THERM_SRC_TRIP of channel c: the age has reached 2 × MAX_AGE (R159, R193). -/
def State.thermTrip (s : State) (c : Nat) : State :=
  if s.thermDue c then s.trip c .thermSrc else s

/-! ## The repetitive controller (R165-R169) -/

/-- N_BIN of channel c. -/
def State.nBin (s : State) (c : Nat) : Nat := s.rf .repet c 0 31 21 + 1

/-- DECIM of channel c. -/
def State.decim (s : State) (c : Nat) : Nat := s.rf .repet c 0 20 11 + 1

/-- Bin i. -/
def State.bin (s : State) (c i : Nat) : Word := s.reg .repet c (0x800 + i)

/-- The controller of channel c acts (R99). -/
def State.repetOn (s : State) (c : Nat) : Bool := s.repetEn c && closedLoop (s.mode c)

/-- The position runs: from the ramp start on (R165). -/
def State.repetRuns (s : State) (c : Nat) : Bool :=
  let st := if s.chState c = chHeld then (s.chan c).left else s.chState c
  st == chArmed || st == chDisarming

/-- The correction at a position (R166). -/
def State.correction (s : State) (c ph : Nat) : Word :=
  let n := s.nBin c
  let d := s.decim c
  let pl := (ph + s.rf .repet c 0 10 0) % (n * d)
  let i := pl / d
  fma (fquot (ofInt (pl % d : Nat)) (ofInt d)) (fsub (s.bin c ((i + 1) % n)) (s.bin c i)) (s.bin c i)

/-- A frame of channel c ends for its controller: E grows, a bin may complete, the position advances (R165, R167-R169). good
says that nothing in the frame keeps its bin from being learned. While the controller is off, u of a completed bin is the bin
(R97). -/
def State.repetFrame (s : State) (c : Nat) (e : Word) (good : Bool) : State :=
  if !s.repetRuns c then s
  else
    let r := (s.chan c).repet
    let d := s.decim c
    let ends := (r.ph + 1) % d == 0
    let next := (r.ph + 1) % (s.nBin c * d)
    let on := s.repetOn c
    let sum := if on then fadd r.sumE e else 0
    let clean := r.clean && good && on
    let j := r.ph / d
    let r := if !ends then { r with sumE := sum, clean := clean }
      else if on then { r with done := some (j, sum, clean), sumE := 0, clean := true }
      else { r with done := none, sumE := 0, clean := true, u1 := s.bin c j, u2 := s.bin c ((j + s.nBin c - 1) % s.nBin c) }
    let s := if next = 0 && s.rb .repet c 1 30 then s.setRb .repet c 0x20 20 true else s
    (s.setRf .repet c 0x20 31 21 (next / d)).setChan c { s.chan c with repet := { r with ph := next } }

/-- REPET_BIN_END of channel c (R167, R168). -/
def State.binEnd (s : State) (c : Nat) : State :=
  let r := (s.chan c).repet
  match r.done with
  | none => s
  | some (j, sum, clean) =>
    let learn := s.rb .repet c 1 31
    let learned := learn && clean
    let u := if learned then
        fma (fquot (s.reg .repet c 2) (ofInt (s.decim c))) sum (fmul (s.reg .repet c 3) (s.bin c j))
      else s.bin c j
    let v := fma (s.reg .repet c 5) (fadd r.u2 u) (fmul (s.reg .repet c 4) r.u1)
    let cap := s.reg .repet c 6
    let m := fclamp (fneg cap) cap v
    let s := s.setReg .repet c (0x800 + (j + s.nBin c - 1) % s.nBin c) m
    let s := s.setReg .repet c 0x23 (fmax (fabs m) (s.reg .repet c 0x23))
    let s := (s.setRb .repet c 0x20 19 learned).setRb .repet c 0x20 18 (flt cap (fabs v))
    let s := if learn && !learned then s.count .repet c 0x21 else s
    s.setChan c { s.chan c with repet := { r with done := none, u1 := u, u2 := r.u1 } }

/-- A controller at the start of its period: the bins before it count as not learned (DESIGN CHOICE, log entry 30). -/
def State.repetFrom0 (s : State) (c : Nat) : Repet :=
  let n := s.nBin c
  { Repet.fresh with u1 := s.bin c (n - 1), u2 := s.bin c (n - 2) }

/-- A frame of channel c begins: events delivered before it restart the period (R169); those delivered after its start wait for
the next frame. A bin that the last frame completed is
learned and the one behind it written first (R193), and where that was the last bin of the period its u goes on counting. -/
def State.repetResync (s : State) (c : Nat) : State :=
  let pending := (s.chan c).repet.resync
  let later := pending.filter fun cyc => decide (s.chanCycle c < cyc)
  if !(later != pending && s.repetRuns c) then s
  else
    let s := ((s.binEnd c).count .repet c 0x22).setRb .repet c 0x20 20 false
    let r := (s.chan c).repet
    let start := { s.repetFrom0 c with resync := later }
    (s.setRf .repet c 0x20 31 21 0).setChan c
      { s.chan c with repet := if r.ph = 0 then { start with u1 := r.u1, u2 := r.u2 } else start }

end Sys2Proof.Machine
end

