-- ==== Sys2Proof/Machine/Engine.lean ====
section
/-!
DEFINITION. The loop engines: one update of a channel and its frame on the line (R54-R56, R69, R70, R99, R102-R143, R171, R172,
R360, R449-R464, R533, R708, R717).
-/

namespace Sys2Proof.Machine

/-! ## Fast blocks (R449, R454-R459, R463, R464) -/

/-- RP, V and I of an upstream fast block by its sync header and payload; none where the header is invalid or the CRC-16
fails. vector selects the vector layout (R455). -/
def readFastBlock (vector : Bool) (header : Nat) (b : Block) : Option (Bool × Sample × Sample) :=
  let low := b.toNat % 2 ^ 48
  let i := if vector then bitsOf low 35 24 * 4096 else bitsOf low 47 24
  if fastBlockOk header b then some (header == 1, BitVec.ofNat 24 (low % 2 ^ 24), BitVec.ofNat 24 i) else none

/-- A downstream fast block (R458). -/
def fastBlock (hold safe : Bool) (slot rqV rqI frange : Nat) (relay : Bool) (force : Sample) : Block :=
  let low := hold.toNat * 2 ^ 47 + safe.toNat * 2 ^ 46 + slot % 16 * 2 ^ 42 + rqV % 16 * 2 ^ 38 + rqI % 16 * 2 ^ 34 +
    frange % 16 * 2 ^ 30 + relay.toNat * 2 ^ 29 + force.toNat
  BitVec.ofNat 64 (crc16Bits (bitsMsb 48 low) * 2 ^ 48 + low)

/-- The slot in which a downstream block begins whose first bit leaves D, in 1/16 ns, after the last bit of the upstream fast
block: slot m begins 2 + 10 m ns into the frame (R121, R452, R457). -/
def slotOf (d : Nat) : Nat := (d + 208) / 160

/-- The forced range of channel c: the current range where no quantity is forced (DESIGN CHOICE, log entry 31). -/
def State.frange (s : State) (c : Nat) : Nat := s.activeRange c ((s.forced c).getD true)

/-- Send an IDLE frame (R459). -/
def State.sendIdle (s : State) (c slot : Nat) : State :=
  s.sendFast c (fastBlock false true slot (s.targetRange c false) (s.targetRange c true) (s.frange c) false 0)

/-- Send a hold fast block, with the ranges of every downstream fast block: those requested, and that of the code the head holds
(R200). The head ignores its RELAY and FORCE (R459),
which are free values. -/
def State.sendHold (s : State) (c slot : Nat) : State :=
  let (k, s) := s.draw
  let w := Config.freeWord k
  s.sendFast c (fastBlock true false slot (s.targetRange c false) (s.targetRange c true) (s.chan c).codeRange (bitAt w 31)
    (fld w 23 0))

/-- Errors of a link within WINDOW (R483, R529). -/
def State.linkErrors (s : State) (c : Nat) : List Nat :=
  (findD s.faults.errors [] (16 * 65536 + c)).filter fun t => decide (s.clock < t + s.rf .chan c 0x51 15 0 * 10 ^ 6)

/-- The link errors of channel c have reached THRESH within WINDOW. -/
def State.linkErrorsDue (s : State) (c : Nat) : Bool := s.rf .chan c 0x51 31 16 ≤ (s.linkErrors c).length

/-- Count one link error (R483, R529). The error that makes the fault lasting is entered in the log by LINK_CRC_FAIL. -/
def State.linkError (s : State) (c : Nat) : State :=
  let times := s.linkErrors c ++ [s.clock]
  let s := { s with faults := { s.faults with errors := store s.faults.errors [] (16 * 65536 + c) times } }
  if s.linkErrorsDue c then s else s.logFault 0x0102 false (objCode .chan) c times.length

/-- A lost fast block counts, and is the one link error of its frame (R483, R486). -/
def State.fastBlockLost (s : State) (c : Nat) : State :=
  ((s.count .chan c 0x53).linkError c).setChan c { s.chan c with erred := true }

/-- Take the upstream fast block of channel c's frame. One that is absent, invalid or bad is lost and counted; within four
frames of a change of FQ every one counts as lost and as no link error (R125, R463, R483, R486). Its sync header counts for block lock,
and so does a missing one (R451). -/
def State.takeFastBlock (s : State) (c : Nat) (up : Option Received) : Option (Bool × Sample × Sample) × State :=
  let s := match up with
    | some r => s.hear c [r.header]
    | none => s.setLink c ((s.link c).hear 0)
  let x := s.chan c
  if x.fqFrames ≠ 0 then (none, s.setChan c { x with fqFrames := x.fqFrames - 1, erred := false })
  else match up with
    | none => (none, s.fastBlockLost c)
    | some r =>
      match readFastBlock (x.fq == 3) r.header (payloadIn r) with
      | some m => (some m, s.setChan c { x with erred := false })
      | none => (none, s.fastBlockLost c)

/-- The downstream frame carries FQ; a change makes four upstream fast blocks count as lost (R460, R463). -/
def State.sendFq (s : State) (c : Nat) : State :=
  let x := s.chan c
  if x.fq = s.fqOf c then s else s.setChan c { x with fq := s.fqOf c, fqFrames := 4 }

/-! ## Correction of samples (R132, R235, R360) -/

/-- The value of a sample of a quantity at the full scale of the range it is tagged with. -/
def State.convert (s : State) (c : Nat) (current : Bool) (x : Sample) : Word :=
  cvtsUp x (s.fullScale c current (s.activeRange c current))

/-- A sample of a quantity, corrected. -/
def State.correct (s : State) (c : Nat) (current : Bool) (x : Sample) : Word :=
  let p := (s.pairFor c current (s.activeRange c current)).1
  fma p.g (s.convert c current x) p.o

/-- The flags byte of a frame (R360). A vector pin shows the underrun of its bank sequencer too (R292, R317). -/
def State.frameFlags (s : State) (c : Nat) (predicted compliance sat : Bool) : Nat :=
  let uncal := (s.pairFor c false (s.activeRange c false)).2 || (s.pairFor c true (s.activeRange c true)).2
  predicted.toNat * 128 + (s.ranging c).toNat * 64 + compliance.toNat * 32 +
    (s.rb .chan c 0x21 14 && !s.uncal c).toNat * 16 + (uncal || s.uncal c).toNat * 8 +
    (s.inUnderrun (.chan c) || (s.mode c == 8 && s.inUnderrun (.bank (bankOf c)))).toNat * 4 + sat.toNat * 2

/-- The corrected values of a frame are kept; those of one that was not predicted renew the thermal feedback they serve (R126,
R158). -/
def State.keepSample (s : State) (c : Nat) (v i : Word) (lost : Bool) : State :=
  let x := s.chan c
  s.setChan c { x with
    lastV := v, lastI := i, goodV := if lost then x.goodV else v, goodAt := if lost then x.goodAt else s.clock }

/-- A frame is reported to acquisition and the sequencer (R105, R122, R273, R361). -/
def State.report (s : State) (c : Nat) (v i : Word) (flags cyc : Nat) (entered : Bool) : State :=
  let x := s.chan c
  let lost := flagBit flags 7
  let s := if lost then s.fireChan c 5 else s
  let s := s.seqFrame c v i (!lost && !flagBit flags 6) (flagBit flags 5)
  s.acqFrame c ⟨v, i, flags, x.delay, s.sampleInstant c, cyc, entered, s.noCurrent c⟩

/-- The delay record of the frame before reaches the engine (R122, R142). -/
def State.delayRecord (s : State) (c : Nat) : State :=
  match (s.chan c).delay with
  | none => s
  | some d =>
    let span := s.reg .loop c 0x42
    (s.setReg .loop c 0x41 (word (d * 65536))).setReg .loop c 0x42
      (word (min d (fld span 31 16) * 65536 + max d (fld span 15 0)))

/-- The sums of R232 over good frames. -/
def State.sumFrame (s : State) (c : Nat) (v i : Word) (good : Bool) : State :=
  let x := s.chan c
  if good then s.setChan c { x with
    sumI := dadd x.sumI (widen i), sumV := dadd x.sumV (widen v), goodFrames := x.goodFrames + 1 }
  else s

/-- A frame of a trained channel that is neither active nor HELD: its samples are corrected and reported, a lost one is counted,
and an IDLE frame is sent (R77, R122, R125, R126, R232, R715). A lost one is predicted in PRED_COUNT alone: STATUS speaks of the
last active frame (DESIGN CHOICE, log entry 98). -/
def State.passiveFrame (s : State) (c : Nat) (m : Option (Bool × Sample × Sample)) (cyc slot : Nat) : State :=
  let x := s.chan c
  let s := match m with
    | some (rp, _, _) => s.setChan c { x with rp := rp }
    | none => s.count .loop c 0x47
  let (v, i) := match m with
    | some (_, v, i) => (s.correct c false v, s.correct c true i)
    | none => (x.lastV, x.lastI)
  let s := ((s.keepSample c v i m.isNone).sumFrame c v i (m.isSome && !s.ranging c)).delayRecord c
  let s := (s.report c v i (s.frameFlags c m.isNone false false) cyc false)
  ((s.setChan c { s.chan c with delay := none }).sendIdle c slot).sendFq c

/-! ## Coefficient sets (R130, R133, R138-R141) -/

/-- STATUS.ACTIVE_SET. -/
def State.activeSet (s : State) (c : Nat) : Nat := s.rf .loop c 0x40 14 12

/-- Word w of field k (0 CFG, 1 REG_COEF, 2 CMP_COEF, 3 U_LIMIT, 4 AUX_COEF) of the active set. -/
def State.coef (s : State) (c k w : Nat) : Word := s.regAt .loop c (8 * s.activeSet c + k) w

/-- PRED_MAX of the active set. -/
def State.predMax (s : State) (c : Nat) : Nat := fld (s.coef c 0 0) 25 22

/-! ## The compensators and notches (R109-R116, R171) -/

/-- The states of a compensator after a frame, in transposed direct form II (R109). order3 marks the 3-pole/3-zero form. The
product with w is added to the carried state first and the product with e last, and s3 is 0 while a 2-pole/2-zero set is in use
(DESIGN CHOICE, log entry 100). -/
def compensate (co : Nat → Word) (order3 : Bool) (s2 s3 e w : Word) : Word × Word × Word :=
  (fma (co 1) e (fma (fneg (co 4)) w s2), fma (co 2) e (fma (fneg (co 5)) w (if order3 then s3 else 0)),
   if order3 then fma (co 3) e (fmul (fneg (co 6)) w) else 0)

/-- One notch section: output and new states (R171). -/
def notchSection (co : Nat → Word) (s1 s2 x : Word) : Word × Word × Word :=
  let y := fma (co 0) x s1
  (y, fma (co 1) x (fma (fneg (co 3)) y s2), fma (co 2) x (fmul (fneg (co 4)) y))

/-- The notch sections of the octet, section 0 first (R171): output, and the states of both. -/
def State.notches (s : State) (c : Nat) (k : LoopCopy) (x : Word) : Word × LoopCopy :=
  let o := octetOf c
  if !s.notchEn c then (x, k)
  else
    let (x, k) := if s.rb .notch o 0 31 then
        let (y, a, b) := notchSection (s.regAt .notch o 1) k.n1 k.n2 x
        (y, { k with n1 := a, n2 := b })
      else (x, k)
    if s.rb .notch o 0 30 then
      let (y, a, b) := notchSection (s.regAt .notch o 2) k.m1 k.m2 x
      (y, { k with m1 := a, m2 := b })
    else (x, k)

/-- What an update gives: the loop state, the head DAC code (none where the last one is sent again, R708), y_r and y_c, e_r, and the flags of LOOP.STATUS. -/
structure Update where
  copy : LoopCopy
  code : Option Sample
  yr : Word
  yc : Word
  e : Word
  sat : Bool
  outSat : Bool
  cmpSel : Bool
  deriving DecidableEq, Repr

/-- The code of a command at the full scale of the active forced range, and whether it saturated; none for a NaN, which sends
the last code (R117, R132, R235, R708). -/
def State.outputCode (s : State) (c : Nat) (u : Word) : Option (Sample × Bool) :=
  let q := s.forcesCurrent c
  let n := s.activeRange c q
  let p := (s.pairFor c q n).1
  let v := fma p.gf u p.fo
  if isNan v then none else some (cvtsDown v (s.fullScale c q n))

/-- The active limit by the compliance quantity of a frame (R112): the limit, and whether it is the upper one. -/
def State.chooseLimit (s : State) (c : Nat) (yc : Word) : Word × Bool :=
  let x := s.chan c
  let high := fle (fmul 0x3F000000 (fadd x.limPos.p x.limNeg.p)) yc
  (if high then x.limPos.p else x.limNeg.p, high)

/-- The offset with which the precomputed reference of a quantity was formed in the frame before, for the range its sample is
tagged with (R106 step 3, R202); that of the pair in effect where that frame formed none (R717). -/
def State.refOffset (s : State) (c : Nat) (k : LoopCopy) (current : Bool) : Word :=
  let n := s.activeRange c current
  (find k.offs (rangeKey current n)).getD (s.pairFor c current n).1.o

/-- A frame that computes no w: w of the frame before counts for it too (R124; DESIGN CHOICE, log entry 102). -/
def LoopCopy.wAgain (k : LoopCopy) : LoopCopy := { k with w1 := k.w, w2 := k.w1 }

/-- The critical section and the state update of a closed-loop frame (R106 steps 2 to 9, R109-R117, R708, R717). m holds the
samples of the regulated and of the compliance quantity, none in a predicted frame. Of two equal outputs, and where one of them is
a NaN, the regulating one is selected (DESIGN CHOICE, log entry 101). A frame without a code leaves the states of step 9 as they
were (R708). -/
def State.closedFrame (s : State) (c : Nat) (k : LoopCopy) (m : Option (Sample × Sample)) (first : Bool) : Update :=
  let x := s.chan c
  let q := s.forcesCurrent c
  let pr := (s.pairFor c q (s.activeRange c q)).1
  let pc := (s.pairFor c (!q) (s.activeRange c (!q))).1
  let (yr, yc) := match m with
    | some (a, b) => (fma pr.g (s.convert c q a) pr.o, fma pc.g (s.convert c (!q) b) pc.o)
    | none => (k.pr, k.pc)
  let k := if first then let (l, h) := s.chooseLimit c yc; { k with lim := l, limHi := h } else k
  let (e, ec) := match m with
    | some (a, b) =>
      (fma (fneg pr.g) (s.convert c q a) (fsub x.ref (s.refOffset c k q)),
       fma (fneg pc.g) (s.convert c (!q) b) (fsub k.lim (s.refOffset c k (!q))))
    | none => (fsub x.ref yr, fsub k.lim yc)
  let vr := fma (s.coef c 1 0) e (fadd k.r1 k.q)
  let vc := fma (s.coef c 2 0) ec k.c1
  let cmpSel := if k.limHi then flt vc vr else flt vr vc
  let u := if cmpSel then vc else vr
  let hi := s.coef c 3 0
  let lo := s.coef c 3 1
  let ua := fclamp lo hi u
  let sat := flt u lo || flt hi u
  let (un, kn) := s.notches c k ua
  match s.outputCode c un with
  | none => ⟨{ k.wAgain with yr := yr, yc := yc }, none, yr, yc, e, sat, true, cmpSel⟩
  | some (code, outSat) =>
    let aw := bitAt (s.coef c 0 0) 27
    let wr := if aw then ua else vr
    let (r1, r2, r3) := compensate (s.coef c 1) (fld (s.coef c 0 0) 31 30 == 2) k.r2 k.r3 e wr
    let (c1, c2, c3) := compensate (s.coef c 2) (fld (s.coef c 0 0) 29 28 == 2) k.c2 k.c3 ec (if aw then ua else vc)
    ⟨{ kn with r1 := r1, r2 := r2, r3 := r3, c1 := c1, c2 := c2, c3 := c3, yr := yr, yc := yc, u := ua, w := wr, w1 := k.w,
               w2 := k.w1 }, some code, yr, yc, e, sat, outSat, cmpSel⟩

/-- An open-loop frame (R54): the set-point through the force correction. A lost sample repeats the last (R126). -/
def State.openFrame (s : State) (c : Nat) (k : LoopCopy) (yr yc : Word) : Update :=
  let x := s.chan c
  let k := { k with yr := yr, yc := yc, u := x.ref }
  match s.outputCode c x.ref with
  | none => ⟨k, none, yr, yc, 0, false, true, false⟩
  | some (code, outSat) => ⟨k, some code, yr, yc, 0, false, outSat, false⟩

/-! ## The tail (R106 steps 10 to 13) -/

/-- The delay compensation term formed in the tail (R124): D of the frame before, w of that frame and of the one before. -/
def State.delayTerm (s : State) (c : Nat) (k : LoopCopy) : Word :=
  match (s.chan c).delay with
  | some d =>
    if bitAt (s.coef c 0 0) 26 then
      fmul (fmul (s.coef c 4 0) (toEng ((numOf ((d : Int) - fld (s.coef c 0 0) 15 0) 0).mul (val 0x2E89705F)))) (fsub k.w1 k.w2)
    else 0
  | none => 0

/-- q of the next frame: its delay term and, with REPET_EN = 1, the correction at the position it will have (R106 step 12, R110,
R111, R166): 0 where an event that restarts the period has been delivered by now. The frame in which the ramp starts has no
correction yet (DESIGN CHOICE, log entry 116). -/
def State.nextQ (s : State) (c : Nat) (k : LoopCopy) : Word :=
  let r := (s.chan c).repet
  let z := s.delayTerm c k
  if s.repetOn c && s.repetRuns c then fadd (s.correction c (if r.resync.isEmpty then r.ph else 0)) z else z

/-- Step 12: q, L, the references' offsets and the predictions of the next frame, from y and u of this frame and the
frame before (R111, R112, R126, R129, R202). fresh says that the histories are set to this frame's values. -/
def State.prepare (s : State) (c : Nat) (before k : LoopCopy) (fresh : Bool) : LoopCopy :=
  let (l, h) := s.chooseLimit c k.yc
  let a := s.coef c 4 1
  let yr0 := if fresh then k.yr else before.yr
  let yc0 := if fresh then k.yc else before.yc
  { k with
    q := s.nextQ c k, lim := l, limHi := h,
    offs := (s.rangesInUse c).foldl (fun l r => insertKey l (rangeKey r.1 r.2) (s.pairFor c r.1 r.2).1.o) [],
    pr := fma (s.coef c 4 2) (fsub k.u before.u) (fma a (fsub k.yr yr0) k.yr), pc := fma a (fsub k.yc yc0) k.yc }

/-- Compliance state of a closed-loop frame (R70, R114): entry, and the run of frames without selection. Says whether the
channel entered compliance. -/
def State.complianceFrame (s : State) (c : Nat) (sel limHi : Bool) : Bool × State :=
  let x := s.chan c
  if s.inCompliance c then
    (false, s.setChan c { x with exitRun := if sel then 0 else x.exitRun + 1, compFrames := x.compFrames + 1 })
  else if sel then
    let s := (s.setRb .chan c 0x21 12 true).count .chan c 0x23
    let tell := s.rb .chan c 8 15 && !x.compNoticed
    let s := s.setChan c { x with exitRun := 0, compFrames := 1, compNoticed := x.compNoticed || tell }
    let s := if tell then s.notify 0x0102 .chan c [(!limHi).toNat] else s
    (true, s.fireChan c 0)
  else (false, s)

/-- COMPLIANCE_EXIT of channel c (R114, R189). -/
def State.complianceExit (s : State) (c : Nat) : State :=
  let x := s.chan c
  if s.inCompliance c && 16 ≤ x.exitRun then
    let s := (s.setRb .chan c 0x21 12 false).setChan c { x with exitRun := 0, compFrames := 0 }
    (s.fireChan c 1).beginRecovery c
  else s

/-- LOOP.STATUS bits of a frame. -/
def State.loopStatus (s : State) (c : Nat) (predicting cmpSel sat outSat : Bool) : State :=
  (((s.setRb .loop c 0x40 9 predicting).setRb .loop c 0x40 8 cmpSel).setRb .loop c 0x40 7 sat).setRb .loop c 0x40 6 outSat

/-- The relay is commanded open once the set-point has come to 0 and no range change is in progress (R90, R209, R331). -/
def State.openRelay (s : State) (c : Nat) : State :=
  let x := s.chan c
  let atZero := s.mode c == 7 || s.mode c == 8 ||
    (if s.outerOn c then feq x.innerMove.p 0 && feq x.innerMove.v 0
     else feq (s.targetMove c).p 0 && feq (s.targetMove c).v 0)
  if s.chState c = chDisarming && x.undoing == .moving && atZero && x.change.isNone then
    s.setChan c { x with undoing := .opening s.clock, relayCmd := false }
  else s

/-- The copy a frame is computed from (R532, R533); a lasting error, or one in both copies, commands the channel safe. -/
def State.readCopy (s : State) (c : Nat) (r : StateRead) : Option LoopCopy × State :=
  match r with
  | .good => (some (s.chan c).cur, s)
  | .current =>
    let (lasting, s) := s.countFault .stateEcc c
    if lasting then (none, s.tripSafe c .state 0 0x0301) else (some (s.chan c).other, s)
  | .both => (none, (s.countFault .stateEcc c).2.tripSafe c .state 0 0x0301)

/-- A frame in prediction hold (R128, R193): the last code again, the states of step 9 frozen, outer loop, learning, profile and
supervision standing still. Step 12 goes on from the predicted values, so that the first frame after the hold has the active
limit they choose (DESIGN CHOICE, log entry 102). The run of frames without compliance is neither counted nor broken
(DESIGN CHOICE, log entry 119). -/
def State.holdFrame (s : State) (c : Nat) (k : LoopCopy) (cyc : Nat) (delay : Option Nat) : State :=
  let x := s.chan c
  let q := s.forcesCurrent c
  let closed := closedLoop (s.mode c)
  let yr := if closed then k.pr else if q then x.lastI else x.lastV
  let yc := if closed then k.pc else if q then x.lastV else x.lastI
  let (v, i) := if q then (yc, yr) else (yr, yc)
  let s := s.loopStatus c true false false false
  let s := s.setChan c { x with compFrames := if s.inCompliance c then x.compFrames + 1 else x.compFrames }
  let s := ((s.outerStands c).phaseWaits c 100).repetFrame c 0 false
  let s := s.profileStands c
  let k' := s.prepare c k { k.wAgain with yr := yr, yc := yc } false
  let s := (s.keepSample c v i true).delayRecord c
  let s := s.report c v i (s.frameFlags c true (s.inCompliance c) false) cyc false
  let y := s.chan c
  s.setChan c { y with
    cur := k', other := y.cur, wrote := true, delay := delay, sentActive := y.sentActive || delay.isSome }

/-- A computed frame of an active channel (R106). -/
def State.engineFrame (s : State) (c : Nat) (k : LoopCopy) (m : Option (Bool × Sample × Sample)) (cyc : Nat)
    (delay : Option Nat) : State :=
  let x := s.chan c
  let q := s.forcesCurrent c
  let lost := m.isNone
  let mode := s.mode c
  let closed := closedLoop mode
  let fresh := !lost && (!x.started || x.rehist || s.rb .loop c 0x40 10)
  let resumed := !lost && s.rb .loop c 0x40 10
  let samples := m.map fun t => if q then (t.2.2, t.2.1) else (t.2.1, t.2.2)
  let (lastR, lastC) := if q then (x.lastI, x.lastV) else (x.lastV, x.lastI)
  let yr := match samples with
    | some (a, _) => s.correct c q a
    | none => lastR
  let yc := match samples with
    | some (_, b) => s.correct c (!q) b
    | none => lastC
  let u : Update := if closed then s.closedFrame c k samples (!x.started)
    else if mode = 6 then s.openFrame c k yr yc
    else ⟨{ k with yr := yr, yc := yc }, some 0, yr, yc, 0, false, false, false⟩
  let v := if q then u.yc else u.yr
  let i := if q then u.yr else u.yc
  let s := (s.loopStatus c lost u.cmpSel u.sat u.outSat).setRb .loop c 0x40 10 (s.rb .loop c 0x40 10 && lost)
  let s := if u.sat then s.count .loop c 0x46 else s
  let (entered, s) := if closed then s.complianceFrame c u.cmpSel u.copy.limHi else (false, s)
  let flags := s.frameFlags c lost (s.inCompliance c) u.sat
  let good := !lost && !s.ranging c
  let s := s.keepSample c v i lost
  let s := if resumed then s.beginRecovery c else s
  let s := if lost then s else s.protectFrame c v i
  let s := s.sumFrame c v i good
  let s := s.outerFrame c v i (!lost)
  let fe := fsub x.ref2 u.yr
  let s := s.profileStep c
  let s := s.repetFrame c u.e (good && !s.inCompliance c)
  let k' := s.prepare c k u.copy fresh
  let s := s.delayRecord c
  let s := if !lost && (mode = 1 || mode = 2) && !s.outerOn c && s.followOn c then s.evalFollow c fe else s
  let s := if lost then s else s.evalPlaus c v i
  let fullCode (y : Sample) : Bool := y == 0x7FFFFF || y == 0x800000
  let s := match m with
    | some (_, a, b) => s.judgeFrame c v i (fullCode a) (fullCode b)
    | none => s
  let s := s.report c v i flags cyc entered
  let y := s.chan c
  s.setChan c { y with
    cur := k', other := y.cur, wrote := true, started := true, rehist := y.rehist && lost,
    code := u.code.getD (if y.sentActive then y.code else 0),
    codeRange := if u.code.isSome || !y.sentActive then s.frange c else y.codeRange, delay := delay,
    sentActive := y.sentActive || delay.isSome }

/-- FORCE of an active fast block: the code of the frame; in MONITOR and VECTOR, where no set-point is converted, the manual states no
code, so that it is a free value (DESIGN CHOICE, log entry 112). -/
def State.forceCode (s : State) (c : Nat) : Sample × State :=
  if s.mode c = 7 || s.mode c = 8 then
    let (k, s) := s.draw
    (BitVec.ofNat 24 (Config.freeWord k).toNat, s)
  else ((s.chan c).code, s)

/-- The frame of an active channel: what begins with it, the update, and the active fast block with its result (R106, R120,
R200, R458). A result that left in no fast block has no delay record (R122, R123). -/
def State.activeFrame (s : State) (c : Nat) (m : Option (Bool × Sample × Sample)) (cyc : Nat) (delay : Option Nat)
    (r : StateRead) : State :=
  match s.readCopy c r with
  | (none, s) => s.passiveFrame c m cyc ((delay.map slotOf).getD 8)
  | (some k, s) =>
    let s := ((s.swapSet c).startWaiting c).repetResync c
    let s := match m with
      | some (rp, _, _) => (s.rangeReport c rp).setChan c { (s.rangeReport c rp).chan c with predRun := 0 }
      | none => (s.count .loop c 0x47).setChan c { s.chan c with predRun := (s.chan c).predRun + 1 }
    let s := if m.isNone && s.rb .loop c 0x40 10 then s.holdFrame c k cyc delay else s.engineFrame c k m cyc delay
    let s := s.openRelay c
    let s := match delay with
      | some d =>
        let (force, s) := s.forceCode c
        s.sendFast c (fastBlock false false (slotOf d) (s.targetRange c false) (s.targetRange c true)
          (s.chan c).codeRange (s.chan c).relayCmd force)
      | none => s
    s.sendFq c

/-- A frame of a link that is not trained: training blocks in TRAINING; in DESCRIPTOR and CHANGED an IDLE frame, the fast block of
the upstream frame being counted and its samples not used; nothing in the other states (R463, R472, R473, R487; DESIGN CHOICE, log
entry 129). -/
def State.untrainedFrame (s : State) (c : Nat) (up : Option Received) : State :=
  match s.linkState c with
  | 2 => s.sendTraining c
  | 3 | 6 => ((s.takeFastBlock c up).2.sendIdle c 8).sendFq c
  | _ => s

/-- LOOP_UPDATE of channel c (R104-R144): its upstream fast block of the present frame as sync header and payload, none where
its slot held none; the core cycle at which the sample was available; the delay record of the result, none where it left in
no fast block; the read of the loop state. -/
def State.loopUpdate (s : State) (c : Nat) (up : Option Received) (cyc : Nat) (delay : Option Nat) (r : StateRead) :
    State :=
  if !s.trained c then s.untrainedFrame c up
  else if s.chState c = chHeld then s
  else
    let (m, s) := s.takeFastBlock c up
    if s.active c then s.activeFrame c m cyc delay r else s.passiveFrame c m cyc ((delay.map slotOf).getD 8)

/-- PREDICTION_HOLD of channel c: PRED_MAX predicted frames in a row (R128). -/
def State.predictionHold (s : State) (c : Nat) : State :=
  if s.active c && s.predMax c ≤ (s.chan c).predRun && !s.rb .loop c 0x40 10 then
    (s.setRb .loop c 0x40 10 true).count .loop c 0x48
  else s

end Sys2Proof.Machine
end

