-- ==== Sys2Proof/Machine/Requests.lean ====
section
/-!
DEFINITION. What requests have in common: sets of objects, named groups, apply times, locks, and admission to the commit path
(R47, R48, R553, R555, R603-R606, R625, R626, R634, R637).
-/

namespace Sys2Proof.Machine

/-! ## Sets of objects, groups and times in requests -/

/-- A set of objects as a request names it (R625): the numbers, in order. -/
def parseSet (l : List Word) : Except Denial (List Nat) :=
  match l with
  | [] => refuse .format
  | h :: body =>
    let n := fld h 15 0
    if fld h 29 16 ≠ 0 then refuse .reserved
    else match fld h 31 30 with
      | 0 =>
        if n < 1 || 512 < n || body.length ≠ ceilDiv n 2 then refuse .format
        else .ok ((body.flatMap fun w => [fld w 31 16, fld w 15 0]).take n)
      | 1 =>
        if n ≠ 0 || body.length ≠ 1 then refuse .format
        else
          let first := fld (wget body 0) 31 16
          let last := fld (wget body 0) 15 0
          if last < first then refuse .format else .ok ((upto (last + 1 - first)).map (· + first))
      | 2 =>
        if n < 1 || 32 < n || body.length ≠ n then refuse .format
        else .ok ((upto (32 * n)).filter fun i => bitAt (wget body (i / 32)) (i % 32))
      | _ => refuse .format

/-- A set of objects of one type, with the checks of R626. -/
def objectSet (o : Obj) (l : List Word) : Except Denial (List Nat) := do
  let r ← parseSet l
  require (!r.isEmpty && noRepeat r) .format
  checkAll r fun n => demand (n < objCount o) { err := .noObject, obj := objCode o, inst := n }
  return r

/-- The flags word and the object set of a command (R637); allowed marks the flag bits the command has. -/
def flagsAndSet (o : Obj) (allowed : Nat) (body : List Word) : Except Denial (Word × List Nat) :=
  match body with
  | [] => refuse .format
  | f :: l =>
    if f.toNat &&& (2 ^ 32 - 1 - allowed) ≠ 0 then refuse .reserved
    else do
      let r ← objectSet o l
      return (f, r)

/-- One named group (R634). -/
def groupOfWord (w : Word) : Except Denial GroupRef :=
  let d (e : Err) : Denial := { err := e, obj := fld w 31 24, group := fld w 18 16, inst := fld w 15 0 }
  match objOfCode (fld w 31 24) with
  | none => .error (d .noField)
  | some o =>
    if fld w 23 19 ≠ 0 then .error (d .reserved)
    else if objCount o ≤ fld w 15 0 then .error (d .noObject)
    else .ok ⟨o, fld w 15 0, fld w 18 16⟩

/-- The groups a COMMIT or DISCARD names (R634): 1 to 64, none twice. -/
def groupsOf (body : List Word) : Except Denial (List GroupRef) :=
  match body with
  | [] => refuse .format
  | h :: l =>
    if fld h 31 16 ≠ 0 then refuse .reserved
    else if fld h 15 0 < 1 || 64 < fld h 15 0 || l.length ≠ fld h 15 0 || !noRepeat l then refuse .format
    else l.zipIdx.mapM fun p => ofItem p.2 (groupOfWord p.1)

/-- Device time of meridian m (R508): m meridian periods, which count in 100 ns. A commit that names a meridian keeps the boundary it has
by the PERIOD applied when it is accepted, also where a SYNC ticket admitted before it will change PERIOD (R51, R501; DESIGN CHOICE, log
entry 123). -/
def State.meridianTime (s : State) (m : Nat) : Nat := m * s.rf .sync 0 1 23 0 * 100

/-- A request names its time as a meridian (R603). -/
def byMeridian (e : Envelope) : Bool := bitsOf e.ctl.toNat 15 14 == 2

/-- The apply time a request carries (R603): none, or a device frame boundary at most 3,600 s ahead. Where device time is
about to jump, the boundary named is one of the time after the jump (R51, R508, R528); it is answered in the time before
it, in which all waiting work is kept. -/
def State.applyTime (s : State) (e : Envelope) : Except Denial (Option Nat) :=
  let t := if bitsOf e.ctl.toNat 15 14 = 2 then s.meridianTime e.atField.toNat else e.atField.toNat
  if bitsOf e.ctl.toNat 15 14 = 0 then .ok none
  else if t % 100 ≠ 0 || s.shown s.now + 3600 * 10 ^ 9 < t then refuse .limit
  else .ok (some ((t : Int) - s.timeJump).toNat)

/-! ## The commit path (R47, R48, R605, R628) -/

/-- When lead work begun after all admitted work, and not before a given time, ends. -/
def State.leadEnds (s : State) (notBefore lead : Nat) : Nat := max (max s.now s.commits.pathBusy) notBefore + lead

/-- The almanac has room for one more timed request (R605). -/
def State.almanacRoom (s : State) : Except Denial Unit :=
  let n := (s.commits.timed.filter fun q => q.timed).length + (s.commits.tickets.filter fun t => t.timed).length
  demand (n < 4096) { err := .notAdmitted, resource := 0x0E, need := 1, avail := 4096 - n }

/-- A timed request fits if its lead work ends strictly before its apply time (R47). -/
def State.admitLead (s : State) (notBefore lead t : Nat) : Except Denial Unit :=
  let ends := s.leadEnds notBefore lead
  demand (ends < t)
    { err := .tooLate, resource := 0x01, need := lead, avail := t - (ends - lead), earliest := s.shown (nextMultiple 100 ends) }

/-! ## Locks (R553, R555) -/

/-- Whether a lock's lease runs: it ends with its time, which no later renewal undoes (R554, R569). -/
def Lock.leased (l : Lock) (clock : Nat) : Bool := l.leaseEnds.any fun t => decide (clock < t)

/-- Whether an object is locked against a session: by another session, or ORPHANED. -/
def State.lockedAgainst (s : State) (session : Nat) (o : Obj) (n : Nat) : Bool :=
  s.faults.locks.any fun e =>
    e.2.obj == o && e.2.inst == n && (!e.2.leased s.clock || e.2.owner != sessionMaster session)

/-- E_LOCKED where an object is locked against a session. -/
def State.demandUnlocked (s : State) (session : Nat) (o : Obj) (n : Nat) : Except Denial Unit :=
  demand (!s.lockedAgainst session o n) { err := .locked, obj := objCode o, inst := n }

/-! ## Pending groups, and what status fields show of sessions and of the ring -/

/-- The earlier pending tickets that name a group, oldest first. -/
def State.ticketsNaming (s : State) (g : GroupRef) : List Ticket :=
  s.commits.tickets.filter fun t => t.snapshot.any fun b => b.ref == g

/-- Write the staged words of a group into the applied copy. -/
def State.writeGroup (s : State) (g : GroupRef) (ws : List FieldWord) : State :=
  s.each ws fun s w => s.setRegAt g.obj g.inst w.field w.idx w.value

/-- The states that the pending tickets of a group will make of it, one after the other. -/
def State.pendingViews (s : State) (g : GroupRef) : List State :=
  ((s.ticketsNaming g).foldl (fun (acc : State × List State) t =>
    let t := acc.1.each (t.snapshot.filter fun b => b.ref == g) fun s b => s.writeGroup b.ref b.words
    (t, acc.2 ++ [t])) (s, [])).2

/-- SESSIONS.OPEN (R613). -/
def State.openSessions (s : State) : Nat := (s.host.sessions.map fun e => 2 ^ (e.1 - 1)).sum

end Sys2Proof.Machine
end

