-- ==== Sys2Proof/Machine/Arming.lean ====
section
/-!
DEFINITION. Arming and disarming channels, and CHAN.CLEAR (R82-R93, R131, R143, R209, R221, R569, R628, R631, R637-R639,
R714).
-/

namespace Sys2Proof.Machine

/-! ## What ARM asks of a channel (R82, R131) -/

/-- The coefficient sets of the forced ranges that channel c can reach have a regulating order (R131, R199). -/
def State.regReady (s : State) (c : Nat) : Bool :=
  !closedLoop (s.mode c) || (s.reachable c (s.forcesCurrent c)).all fun j => s.rf .loop c (8 * j) 31 30 != 0

/-- They have both orders (R131, R139). -/
def State.coefReady (s : State) (c : Nat) : Bool :=
  s.regReady c &&
    (!closedLoop (s.mode c) || (s.reachable c (s.forcesCurrent c)).all fun j => s.rf .loop c (8 * j) 29 28 != 0)

/-- The calibration condition of R82. -/
def State.calReady (s : State) (c : Nat) : Bool := s.calCovers (s.calSetOf c) c

/-- The conditions of ARM on channel c: the error of the first that fails. -/
def State.armCheck (s : State) (c : Nat) (uncal : Bool) : Except Denial Unit := do
  let d : Denial := { err := .notReady, obj := objCode .chan, inst := c }
  demand (s.chState c == chReady) d
  demand (uncal || s.calReady c) { d with err := .noCal }
  demand (s.coefReady c) { d with err := .noCoef }

/-! ## HELD (R80, R535, R536, R569) -/

/-- An active channel of an octet without an engine enters HELD, the loop state that a frame wrote and no self-check has passed
discarded (R532), unless its last good frame exceeded a protection limit, or
tripped it as if it had (R159, R192): then it is commanded safe (R535, R569). Its last delay record is still to come (R122). -/
def State.enterHeld (s : State) (c : Nat) : State :=
  if !s.active c then s
  else match s.tripDue c with
    | some (l, v) => (if l = .follow then s.plausWithFollow c else s).tripSafe c l v
    | none =>
      let x := s.chan c
      (s.setChan c { x with
        cur := if x.wrote then x.other else x.cur, wrote := false, left := s.chState c, heldSince := s.clock, overRuns := [0, 0, 0, 0, 0] }).setChState c chHeld

/-! ## ARM takes effect (R82-R89, R143, R185, R221, R714, R717) -/

/-- The range the arming rule requests of a quantity (R221): in every mode by the magnitude of the source value. -/
def State.armingRange (s : State) (c : Nat) (current : Bool) : Nat :=
  if !s.autoActs c current then s.selRange c current
  else if s.forced c == some current then s.forcedRangeFor c current (s.sourceValue c)
  else if s.isCompQty c current then max (s.selRange c current) (s.compFloor c current)
  else s.selRange c current

/-- The fields ARM sets (R83, R86, R143). ACTIVE_SET names the active forced range modulo 8: a range above 7 has no set (DESIGN
CHOICE, log entry 120). -/
def State.armFields (s : State) (c : Nat) (uncal : Bool) : State :=
  let s := s.setChan c { s.chan c with uncalArm := uncal, lacking := none }
  let s := [0x23, 0x24, 0x25].foldl (fun s f => s.setReg .chan c f 0) s
  let s := ((s.setRb .chan c 0x21 12 false).setRb .chan c 0x21 11 false).setRb .chan c 0x21 13 uncal
  let s := [0x46, 0x47, 0x48].foldl (fun s f => s.setReg .loop c f 0) s
  let s := s.setReg .loop c 0x42 (resetWord .loop c 0x42 0)
  let s := s.setReg .loop c 0x40 (word (s.activeRange c (s.forcesCurrent c) % 8 * 4096))
  let s := [0x20, 0x21, 0x22, 0x23, 0x24, 0x25].foldl (fun s f => s.setReg .profile c f 0) s
  let s := (s.setReg .outer c 0x20 0).setReg .outer c 0x22 0
  (s.setReg .repet c 0x23 0).setRf .repet c 0x20 31 18 0

/-- Channel c becomes ARMING (R82-R89); rampAt is the ramp start under SYNC_RAMP. A range the head last reported connected is
requested, but is no change (R221). Until the ramp start the phase is test, as at every other time of an armed channel; MONITOR
is in start-up from now on (R189; DEDUCED, log entry 121). -/
def State.armChannel (s : State) (c : Nat) (uncal : Bool) (rampAt : Option Nat) : State :=
  let s := s.armFields c uncal
  let monitor := s.mode c == 7
  let want (q : Bool) : Option Nat := let r := s.armingRange c q; if r = s.connected c q then none else some r
  let s := s.pairsAtArming c uncal [(false, s.armingRange c false), (true, s.armingRange c true)]
  let x := s.chan c
  let rest (v : Word) : Move := ⟨v, 0, 0⟩
  let s := s.setChan c { x with
    cur := .fresh, other := .fresh, wrote := false, started := false, rehist := false, predRun := 0, code := 0,
    sentActive := false, ref := 0, ref1 := 0, ref2 := 0, exitRun := 0, compFrames := 0, compNoticed := false,
    extrapNoticed := false, overRuns := [0, 0, 0, 0, 0], eventTrip := none, zero := false,
    ramp := match rampAt with
      | some t => .sync t
      | none => .relay,
    relayBy := s.clock + s.descField c 4 63 48 * 1000, relayCmd := !monitor, undoing := .none, disarmHeld := none,
    change := none, waitV := want false, waitI := want true, swap := none, autoV := .fresh, autoI := .fresh,
    codeRange := s.frange c, acc := 0, target := 0, heldTarget := none, innerMove := .rest, limPos := rest (s.reg .chan c 2),
    limNeg := rest (s.reg .chan c 3), outer := .fresh, repet := .fresh, supv := .fresh }
  let s := s.each [false, true] fun s q =>
    if s.armingRange c q = s.connected c q then s.setTarget c q (s.armingRange c q) else s
  let s := s.setChState c chArming
  if monitor then s.beginStartUp c else s.setRf .profile c 0x20 7 6 2

/-- A channel that fails the second check of an ARM (R85). -/
def State.armFailure (s : State) (c : Nat) (uncal : Bool) : Option Nat :=
  match s.armCheck c uncal with
  | .ok _ => none
  | .error d => some (if d.err = .notReady then 3 else 4)

/-- ARM acts at the boundary now on the named channels (R85-R87). A channel of an octet that no engine serves is HELD from
then on (DESIGN CHOICE, log entry 33). -/
def State.armActs (s : State) (l : List Nat) (flags : Word) : State :=
  let uncal := bitAt flags 31
  let close := (l.map fun c => s.descField c 4 63 48 * 1000).foldl max 0
  let rampAt := if bitAt flags 30 then some (ceilDiv (s.now + close) 100 * 100) else none
  s.each l fun s c =>
    match s.armFailure c uncal with
    | none =>
      let s := s.armChannel c uncal rampAt
      if (s.engineOf (octetOf c)).isNone then s.enterHeld c else s
    | some reason => s.notify 0x0103 .chan c [reason]

/-! ## Ramp start and failure to arm (R87-R89, R198) -/

/-- Ranges the arming requested are still unreported. -/
def State.rangesOutstanding (s : State) (c : Nat) : Bool :=
  let x := s.chan c
  x.change.isSome || x.waitV.isSome || x.waitI.isSome

/-- The relay is as the ramp start needs it: reported closed; MONITOR closes none (R56, R87). -/
def State.relayReady (s : State) (c : Nat) : Bool := s.mode c == 7 || (s.chan c).relay == 2

/-- The ramp of channel c is to start at the boundary now (R87). -/
def State.rampDue (s : State) (c : Nat) : Bool :=
  s.chState c == chArming && match (s.chan c).ramp with
    | .none => false
    | .relay => s.relayReady c
    | .sync t => decide (t ≤ s.now)

/-- RAMP_START of channel c (R89, R155, R165, R189). -/
def State.rampStart (s : State) (c : Nat) : State :=
  if s.rampDue c && s.relayReady c && !s.rangesOutstanding c then
    let s := s.setChState c chArmed
    let s := (s.setTargetMove c .rest).setReg .outer c 0x22 0
    let x := s.chan c
    let s := s.setChan c { x with
      ramp := .none, innerMove := .rest, outer := .fresh, repet := s.repetFrom0 c,
      autoV := { x.autoV with since := some s.clock }, autoI := { x.autoI with since := some s.clock } }
    if s.mode c = 7 then s else s.beginStartUp c
  else s

/-- Arming of channel c fails: it is disarmed at once and N_ARM_FAILED names it (R88, R198). -/
def State.armFails (s : State) (c reason : Nat) : State :=
  ((s.stopRun c).setChState c chReady).notify 0x0103 .chan c [reason]

/-- RELAY_CLOSE_TIMEOUT of channel c: its relay is not reported closed within RELAY_CLOSE or by the synchronised ramp start,
or its ranges are not reported by its ramp start (R88, R198). -/
def State.relayCloseTimeout (s : State) (c : Nat) : State :=
  let x := s.chan c
  if s.chState c ≠ chArming || x.ramp == .none then s
  else if !s.relayReady c && (decide (x.relayBy ≤ s.clock) || s.rampDue c) then s.armFails c 1
  else if s.rampDue c && s.relayReady c && s.rangesOutstanding c then s.armFails c 2
  else s

/-! ## DISARM (R90-R92, R569, R638) -/

/-- DISARM acts on channel c in its present frame. -/
def State.disarmChannel (s : State) (c : Nat) (immediate : Bool) : State :=
  if s.chState c = chHeld then s.setChan c { s.chan c with disarmHeld := some (immediate || (s.chan c).disarmHeld == some true) }
  else if !s.active c then s
  else if immediate then (s.stopRun c).setChState c chReady
  else if s.chState c = chDisarming then s
  else
    let x := s.chan c
    let x := if s.chState c = chArming then { x with waitV := none, waitI := none } else x
    (s.setChan c { x with ramp := .none, undoing := .moving, zero := false }).setChState c chDisarming

/-- DISARM acts on the named channels. -/
def State.disarmActs (s : State) (l : List Nat) (flags : Word) : State :=
  s.each l fun s c => s.disarmChannel c (bitAt flags 31)

/-- DISARM_COMPLETE of channel c: the head reports its relay open, or RELAY_OPEN has passed (R90). -/
def State.disarmComplete (s : State) (c : Nat) : State :=
  match (s.chan c).undoing with
  | .opening since =>
    if s.chState c = chDisarming &&
        ((s.chan c).relay == 0 || decide (since + s.descField c 4 47 32 * 1000 ≤ s.clock)) then
      (s.stopRun c).setChState c chReady
    else s
  | _ => s

/-! ## Commands that name instances of pending timed ones (R93, R631) -/

/-- The object type whose instances a timed command names. -/
def TimedKind.obj : TimedKind → Obj
  | .arm | .disarm => .chan
  | .seqRun | .seqStop | .seqResume => .seq
  | .bseqRun | .bseqStop | .bseqResume => .bseq
  | .acqArm | .acqStop | .acqForce => .acq

/-- No admitted timed command names one of the instances (R631). -/
def State.noTimed (s : State) (o : Obj) (l : List Nat) : Except Denial Unit :=
  checkAll l fun n =>
    demand (!s.commits.timed.any fun q => q.timed && q.kind.obj == o && q.insts.contains n)
      { err := .busy, obj := objCode o, inst := n }

/-- Every named instance is unlocked for the requesting session (R553, R555). -/
def State.allUnlocked (s : State) (session : Nat) (o : Obj) (l : List Nat) : Except Denial Unit :=
  checkAll l fun n => s.demandUnlocked session o n

/-- Of an ARM and a DISARM of a channel at one boundary the one accepted later decides: the earlier loses the channel
(R93). -/
def State.overrule (s : State) (kind : TimedKind) (l : List Nat) (boundary : Nat) : State :=
  let other := if kind = .arm then TimedKind.disarm else .arm
  let timed := s.commits.timed.map fun q =>
    if q.kind == other && q.boundary == boundary then { q with insts := q.insts.filter fun c => !l.contains c } else q
  { s with commits := { s.commits with timed := timed.filter fun q => !q.insts.isEmpty } }

/-- Put an accepted command behind those that wait. -/
def State.await (s : State) (r : Req) (kind : TimedKind) (l : List Nat) (flags : Word) (timed : Bool) (boundary : Nat) :
    State :=
  let q : TimedReq := ⟨s.commits.accepted, r.env.session.toNat, kind, l, flags, timed, boundary, r.env.src.port, byMeridian r.env⟩
  { s with commits := { s.commits with timed := s.commits.timed ++ [q], accepted := s.commits.accepted + 1 } }

/-- Accept a command of R628 that is not refused: an untimed one acts at the first boundary after a delay; a timed one is admitted
with its lead work and acts at its promised boundary (R47, R603-R605). -/
def State.submit (s : State) (r : Req) (kind : TimedKind) (l : List Nat) (flags : Word) (lead : Nat) (delay : Nat := 0) :
    Work := do
  let at? ← s.applyTime r.env
  match at? with
  | none =>
    let b := nextMultiple 100 (s.now + delay)
    return { state := s.await r kind l flags false b, time := some b }
  | some t =>
    s.almanacRoom
    s.admitLead 0 lead t
    let s := { s with commits := { s.commits with pathBusy := s.leadEnds 0 lead } }
    return { state := s.await r kind l flags true t, time := some t }

/-- Lead work of ARM and DISARM (R628). -/
def armLead (l : List Nat) : Nat := 10000 + 20 * l.length

/-- ARM (R82-R85, R131, R628, R637). -/
def armChannels (s : State) (r : Req) : Work := do
  let (f, l) ← flagsAndSet .chan 0xC0000000 r.body
  s.allUnlocked r.env.session.toNat .chan l
  s.noTimed .chan l
  checkAll l fun c => s.armCheck c (bitAt f 31)
  let d ← s.submit r .arm l f (armLead l)
  return d

/-- DISARM (R90-R93, R628, R631, R637, R638). -/
def disarmChannels (s : State) (r : Req) : Work := do
  let (f, l) ← flagsAndSet .chan 0x80000000 r.body
  s.allUnlocked r.env.session.toNat .chan l
  if bitAt f 31 then pure () else s.noTimed .chan l
  let at? ← s.applyTime r.env
  let s := s.overrule .disarm l (at?.getD s.nextBoundary)
  s.submit r .disarm l f (armLead l)

/-- CHAN.CLEAR of one channel (R75, R189, R639). -/
def State.clearChannel (s : State) (c : Nat) : State :=
  if s.chState c = chTripped then s.setChState c chReady
  else if s.chState c = chArmed && (s.chan c).zero then
    (s.setChan c { s.chan c with zero := false }).beginRecovery c
  else s

/-- CHAN.CLEAR (R631, R637, R639). -/
def clearChannels (s : State) (r : Req) : Work := do
  let (_, l) ← flagsAndSet .chan 0 r.body
  s.allUnlocked r.env.session.toNat .chan l
  s.noTimed .chan l
  return { state := s.each l State.clearChannel }

end Sys2Proof.Machine
end

