-- ==== Sys2Proof/Machine/Failover.lean ====
section
/-!
DEFINITION. Engines that fail: late results, self-checks, HELD frames, failover to the bank's spare (R80, R123, R532-R543, R569,
R641, R711).
-/

namespace Sys2Proof.Machine

/-! ## Retiring an engine (R535, R541) -/

/-- The octet engine n serves, if any (R144). -/
def State.serves (s : State) (n : Nat) : Option Nat :=
  match s.rf .engine n 0 3 0 with
  | 0 => some n
  | 2 => some (s.rf .engine n 0 15 8)
  | _ => none

/-- The channels of an octet. -/
def octetChannels (o : Nat) : List Nat := (upto 8).map fun k => 8 * o + k

/-- Engine n is fenced and retired; the active channels of its octet enter HELD. -/
def State.retire (s : State) (n : Nat) : State :=
  let octet := s.serves n
  let s := (s.setReg .engine n 0 (word (0xFF03))).raiseFault 31
  let s := { s with faults := { s.faults with retired := s.faults.retired ++ [n] } }
  match octet with
  | some o => s.each (octetChannels o) State.enterHeld
  | none => s

/-- One error of an engine; a lasting fault retires it (R529, R535). -/
def State.engineError (s : State) (f : FaultSource) (n : Nat) : State :=
  let (lasting, s) := s.countFault f n
  if lasting then s.retire n else s

/-- ENGINE.RETIRE (R541, R641). -/
def retireEngine (s : State) (r : Req) : Work := do
  require (r.body.length == 1) .format
  require (fld (wget r.body 0) 31 16 == 0) .reserved
  let n := fld (wget r.body 0) 15 0
  demand (n < objCount .engine) { err := .noObject, obj := objCode .engine, inst := n }
  demand (s.rf .engine n 0 3 0 == 0) { err := .limit, obj := objCode .engine, inst := n }
  demand (s.rf .engine (64 + n / 8) 0 3 0 == 1) { err := .busy, obj := objCode .engine, inst := n }
  return { state := s.retire n }

/-! ## Frames of an engine (R123, R532) -/

/-- LATE_RESULT of channel c: a hold fast block leaves in the given slot, and the error counts against the engine (R123). -/
def State.lateResult (s : State) (c slot : Nat) : State :=
  if !s.active c then s
  else match s.engineOf (octetOf c) with
    | some n => (s.sendHold c slot).engineError .engineLate n
    | none => s

/-- A double-bit error in a crossing: link to core 0-7 and core to link 8-15 by bank, then the others in the order of R18 (R548;
DESIGN CHOICE, log entry 15). -/
def State.crossingError (s : State) (n : Nat) : State :=
  let (lasting, s) := s.countFault .crossingDed n
  if lasting then s.raiseFault 29 else s

/-- LOOP_UPDATE of channel c with what its crossings did (R548): a word lost on the way to the core is a lost upstream fast
block, one lost on the way to the link a late result. -/
def State.loopFrame (s : State) (c : Nat) (up : Option Received) (cyc : Nat) (delay : Option Nat) (r : StateRead)
    (x : Crossing) : State :=
  match x with
  | .ok => s.loopUpdate c up cyc delay r
  | .toCore => (s.crossingError (bankOf c)).loopUpdate c none cyc delay r
  | .toLink slot => (((s.crossingError (8 + bankOf c)).loopUpdate c up cyc none r)).lateResult c slot

/-- What a self-check leaves of a channel's copies: a failed one discards what the frame wrote (R532). -/
def State.settleCopy (s : State) (pass : Bool) (c : Nat) : State :=
  let x := s.chan c
  if !x.wrote then s
  else s.setChan c { x with wrote := false, cur := if pass then x.cur else x.other }

/-- ENGINE_FRAME of engine n, with the outcome of its known-answer self-check (R532). A failure of an engine that is retired already
is not counted (DESIGN CHOICE, log entry 122). -/
def State.engineCheck (s : State) (n : Nat) (pass : Bool) : State :=
  let l := match s.serves n with
    | some o => octetChannels o
    | none => []
  let s := s.each l fun s c => s.settleCopy pass c
  if pass || s.rf .engine n 0 3 0 = 3 then s else (s.count .engine n 2).engineError .engineSelfchk n

/-! ## HELD frames (R536, R543) -/

/-- Quiet NaN, V and I of a HELD frame (R536). -/
def quietNan : Word := 0x7FC00000

/-- Whether a raw sample lies above or below the protection codes of its range (R542, R543). -/
def Chan.beyondCodes (x : Chan) (current : Bool) (n : Nat) (y : Sample) : Bool × Bool :=
  match find x.codes (rangeKey current n) with
  | some (lo, hi) => (decide (hi < y.toInt), decide (y.toInt < lo))
  | none => (false, false)

/-- The range a sample of a HELD channel is tagged with: an inverted parity marks the target of the change in progress. -/
def State.taggedRange (s : State) (c : Nat) (current rp : Bool) : Nat :=
  let x := s.chan c
  match x.change with
  | some k => if k.current == current && rp != x.rp then k.target else s.activeRange c current
  | none => s.activeRange c current

/-- The link island compares the samples of a HELD frame with the protection codes (R543). -/
def State.heldCompare (s : State) (c : Nat) (rp : Bool) (v i : Sample) : State :=
  let x := s.chan c
  let (vh, vl) := x.beyondCodes false (s.taggedRange c false rp) v
  let (ih, il) := x.beyondCodes true (s.taggedRange c true rp) i
  s.setChan c { x with overRuns :=
    [runOf x.overRuns 0 vh, runOf x.overRuns 1 vl, runOf x.overRuns 2 (ih || il), 0, 0] }

/-- HELD_FRAME of channel c: its upstream fast block, the core cycle at which the sample was available, the slot of the hold
fast block (R536). The first one still reports the delay record of the last active frame (R122); the position goes on, and the
delay term that a frame after it uses has no record, or that one (R124, R165). Its sample does not renew the thermal feedback it
serves, the bits of LOOP.STATUS that speak of the last frame keep those of the last active one, and the run of frames without
compliance is neither counted nor broken (DESIGN CHOICE, log entries 98, 118 and 119). -/
def State.heldFrame (s : State) (c : Nat) (up : Option Received) (cyc slot : Nat) : State :=
  if s.chState c ≠ chHeld || !s.trained c then s
  else
    let (m, s) := s.takeFastBlock c up
    let s := match m with
      | some (rp, v, i) => s.heldCompare c rp v i
      | none => s
    let s := ((((s.sendHold c slot).outerStands c).profileStands c).repetResync c).repetFrame c 0 false
    let k := (s.chan c).cur.wAgain
    let s := s.setChan c { s.chan c with cur := { k with q := s.nextQ c k } }
    let compl := s.inCompliance c
    let flags := s.frameFlags c false compl false + 1
    let s := (s.delayRecord c).seqFrame c quietNan quietNan false compl
    let record := (s.chan c).delay
    (s.setChan c { s.chan c with delay := none }).acqFrame c
      ⟨quietNan, quietNan, flags, record, s.sampleInstant c, cyc, false, s.noCurrent c⟩

/-- HELD_PROTECTION_TRIP of channel c (R543). The link island has no corrected value to name. -/
def State.heldProtectionTrip (s : State) (c : Nat) : State :=
  let x := s.chan c
  let due (k : Nat) : Bool := 0 < x.overRuns.getD k 0 && s.rf .chan c 7 31 16 ≤ x.overRuns.getD k 0
  if s.chState c ≠ chHeld then s
  else if due 0 then s.tripSafe c .vHi
  else if due 1 then s.tripSafe c .vLo
  else if due 2 then s.tripSafe c .current
  else s

/-! ## Failover (R537-R539) -/

/-- A HELD channel returns to the state it left, its arming or disarming going on from the frame at which it was held (R80,
R538); a DISARM that waited acts (R569). A ramp start under SYNC_RAMP keeps its device time (R87; DESIGN CHOICE, log entry 103). -/
def State.releaseChannel (s : State) (c : Nat) : State :=
  let x := s.chan c
  if s.chState c ≠ chHeld then s
  else
    let away := s.clock - x.heldSince
    let s := s.setChan c { x with
      rehist := true, overRuns := [0, 0, 0, 0, 0], relayBy := x.relayBy + away, disarmHeld := none,
      undoing := match x.undoing with
        | .opening t => .opening (t + away)
        | u => u }
    let s := ((s.setChState c x.left).phaseWaits c away).beginRecovery c
    match x.disarmHeld with
    | some immediate => s.disarmChannel c immediate
    | none => s

/-- The HELD channels of an octet are commanded safe (R530, R539, R568). -/
def State.noSpare (s : State) (o : Nat) : State :=
  let s := (s.logFault 0x0203 true (objCode .octet) o 1).raiseFault 31
  s.each (octetChannels o) fun s c => if s.chState c = chHeld then s.tripSafe c .engine 0 0x0203 else s

/-- The elapsed time at which the first HELD channel of an octet entered HELD. -/
def State.octetHeldSince (s : State) (o : Nat) : Option Nat :=
  (((octetChannels o).filter fun c => s.chState c == chHeld).map fun c => (s.chan c).heldSince).foldl
    (fun m t => some (match m with
      | some u => min u t
      | none => t)) none

/-- An octet takes its bank's spare: of the octets of a bank that have lost their engines, the first (R569). -/
def State.takesSpare (s : State) (o : Nat) : Bool :=
  match s.faults.retired.find? fun n => decide (n < 64) && n / 8 == o / 8 with
  | some n => n == o
  | none => true

/-- The firmware cannot do its part of an octet's failover: its restart began before the octet was HELD, or no channel of it is. A restart
that begins later leaves the hardware's steps to complete (R537, R569). -/
def State.firmwareGone (s : State) (o : Nat) : Bool :=
  match s.faults.restart, s.octetHeldSince o with
  | some t, some h => decide (t < h)
  | some _, none => true
  | none, _ => false

/-- FAILOVER of octet o at a device frame boundary, with the outcome of the spare's known-answer test: the spare takes the
octet and its channels are released (R537, R538). A spare that fails its known-answer test keeps MODE 0x1, and the failure is not
counted in SELFCHK (DESIGN CHOICE, log entry 122). -/
def State.failover (s : State) (o : Nat) (pass : Bool) : State :=
  let spare := 64 + o / 8
  if 64 ≤ o || (s.engineOf o).isSome || s.rf .engine spare 0 3 0 ≠ 1 || s.firmwareGone o then s
  else if !pass || !s.takesSpare o then s.noSpare o
  else
    let held := s.clock - (s.octetHeldSince o).getD s.clock
    if 50000 < held then s else
    let s := s.setReg .engine spare 0 (word (o * 256 + 2))
    let s := s.each (octetChannels o) State.releaseChannel
    s.notify 0x0502 .engine o [o, spare, held]

/-- FAILOVER_TIMEOUT of octet o: no spare is free, or the octet is still HELD after 50 µs (R539). -/
def State.failoverTimeout (s : State) (o : Nat) : State :=
  match s.octetHeldSince o with
  | some t =>
    if (s.engineOf o).isNone && (s.rf .engine (64 + o / 8) 0 3 0 != 1 || !s.takesSpare o || decide (t + 50000 ≤ s.clock)) then s.noSpare o
    else s
  | none => s

end Sys2Proof.Machine
end

