-- ==== Sys2Proof/Machine/Link.lean ====
section
/-!
DEFINITION. Head links: clock and reset lines, training, the capability descriptor, status, messages, failures (R72, R81,
R444-R488, R640, R713, R716).
-/

namespace Sys2Proof.Machine

/-! ## Clock and reset lines of a bank (R444-R446) -/

/-- Lines from power-up: HRST_N low, LCLK running since then. -/
def BankLines.fresh : BankLines := ⟨false, 0, 0, 0⟩

/-- The lines of bank b. -/
def State.lines (s : State) (b : Nat) : BankLines := findD s.bankLines BankLines.fresh b

/-- Replace the lines of bank b. -/
def State.setLines (s : State) (b : Nat) (l : BankLines) : State :=
  { s with bankLines := store s.bankLines BankLines.fresh b l }

/-- LCLK of bank b runs. -/
def State.lclkOn (s : State) (b : Nat) : Bool := s.rb .bank b 0x40 30

/-- LINK_CTRL.LINK_EN of channel c. -/
def State.linkEn (s : State) (c : Nat) : Bool := s.rb .chan c 0x50 31

/-- The conditions under which the link of channel c trains (R471). -/
def State.linkReady (s : State) (c : Nat) : Bool :=
  let l := s.lines (bankOf c)
  s.linkEn c && l.high && decide (l.changed + 2000000 ≤ s.clock) && s.lclkOn (bankOf c) &&
    decide (l.lclkAt + 1000000 ≤ s.clock)

/-- Write LINK_STATUS.STATE. -/
def State.setLinkState (s : State) (c v : Nat) : State := s.setRf .chan c 0x52 31 28 v

/-- STATE of a link that is not training, trained or waiting for ACCEPT_NEW (R487). -/
def State.restLink (s : State) (c : Nat) : State :=
  s.setLinkState c (if !s.linkEn c then 0 else if !(s.lines (bankOf c)).high || !s.lclkOn (bankOf c) then 1 else 5)

/-! ## Requests on the message lane (R447, R466, R467, R469) -/

/-- Put a request of the controller on the message lane of channel c (R466, R467). -/
def State.queueMsg (s : State) (c : Nat) (isWrite : Bool) (addr : Nat) (words : List Block) (count : Nat)
    (host : Option (Nat × Req)) : State :=
  let l := s.link c
  s.setLink c { l with
    nextTag := (l.nextTag + 1) % 256, msgs := l.msgs ++ [⟨l.nextTag, isWrite, addr, words, count, 1, s.clock, host, true⟩] }

/-- Answer a host request whose work has ended, if its session is still open. -/
def State.answer (s : State) (n : Nat) (r : Req) (status time : Nat) (body : List Word) : State :=
  match s.session n with
  | some x => if x.executing.contains r.env.seq.toNat then s.reply n x.key r status time body else s
  | none => s

/-- Refuse a host request whose work has ended. -/
def State.answerDenied (s : State) (n : Nat) (r : Req) (d : Denial) : State := s.answer n r d.err.code s.now d.body

/-- Take a request off the message lane. -/
def State.endMsg (s : State) (c tag : Nat) : State :=
  s.setLink c { s.link c with msgs := (s.link c).msgs.filter fun m => m.tag != tag }

/-- FAULT of a head as N_HEAD_ALERT names it: what the READ brought; one that could not be read is not known (DESIGN CHOICE, log entry
1). -/
def State.faultWords (s : State) (c : Nat) (v : Option Block) : List Nat × State :=
  match v with
  | some w => ([c, w.toNat / 2 ^ 32, w.toNat % 2 ^ 32], s)
  | none =>
    let (k, s) := s.draw
    let (m, s) := s.draw
    ([c, (Config.freeWord k).toNat, (Config.freeWord m).toNat], s)

/-- The READ of FAULT with a tag on the link of channel c has ended, with a word or without: the notice that waits for it keeps what it
brought, and is sent when it was the last (R447). -/
def State.alertRead (s : State) (c tag : Nat) (v : Option Block) : State :=
  match s.alerts.find? fun a => a.reads.any fun r => r.1 == c && r.2.1 == tag with
  | none => s
  | some a =>
    let (w, s) := s.faultWords c v
    let got : Block := block ((w.getD 1 0) * 2 ^ 32 + w.getD 2 0)
    let a' : AlertNotice := { a with
      reads := a.reads.map fun r => if r.1 = c ∧ r.2.1 = tag then (c, tag, some got) else r }
    if a'.reads.all fun r => r.2.2.isSome then
      let s := { s with alerts := s.alerts.filter (· != a) }
      s.notify 0x010B .bank a.bank (a.reads.length ::
        a'.reads.flatMap fun r => [r.1, (r.2.2.getD 0).toNat / 2 ^ 32, (r.2.2.getD 0).toNat % 2 ^ 32])
    else { s with alerts := s.alerts.map fun x => if x = a then a' else x }

/-- A request on the link of channel c has failed: the host's is answered with E_HEAD_TIMEOUT, and FAULT stays unknown (R467, R469). -/
def State.msgFails (s : State) (c : Nat) (m : HeadMsg) : State :=
  match m.host with
  | some (n, r) => s.answerDenied n r { err := .headTimeout, obj := objCode .chan, inst := c }
  | none => s.alertRead c m.tag none

/-- The requests on the link of channel c fail with it (R487; DESIGN CHOICE, log entry 130). -/
def State.dropMessages (s : State) (c : Nat) : State :=
  let l := s.link c
  (s.setLink c { l with msgs := [], inbox := [] }).each l.msgs fun s m => s.msgFails c m

/-! ## Training (R471-R475, R485) -/

/-- Training starts: TS1 in every slot. The receiver looks for block lock afresh (DESIGN CHOICE, log entry 129). -/
def State.beginTraining (s : State) (c : Nat) : State :=
  (s.setLink c { s.link c with
    step := 0, since := s.clock, retry := false, offered := [], descRead := [], levels := [], pinLevels := [], locked := false,
    heard := [] }).setLinkState c 2

/-- A training attempt fails with a cause of R484, and the channel enters LINK_DOWN; the first attempt is told (R81, R475, R484, R485,
R568). An error count that reached THRESH has entered its own fault (R529). -/
def State.trainingFails (s : State) (c cause : Nat) : State :=
  let first := (s.link c).first
  let s := (s.setRf .chan c 0x52 27 24 cause).dropMessages c
  let s := s.setLink c { s.link c with retry := true, since := s.clock, first := false, offered := [], descRead := [] }
  let s := s.restLink c
  let s := if cause = 2 then s else s.logFault (0x0100 + cause) true (objCode .chan) c 1
  let s := if s.chState c = chLinkDown then s else (s.setChState c chLinkDown).fireChan c 6
  let s := s.raiseFault 22
  if first then s.notify 0x0109 .chan c [cause] else s

/-- The descriptor has been read whole: its LEN_M1 + 1 words are there (R476). -/
def Link.descDone (l : Link) : Bool := !l.descRead.isEmpty && decide (descBits l.descRead 0 39 32 < l.descRead.length)

/-- The next READ of the descriptor: six words, or what is left (R466, R473, R476, R487). -/
def State.readDescriptor (s : State) (c : Nat) : State :=
  let got := (s.link c).descRead
  let left := if got.isEmpty then 6 else min 6 (descBits got 0 39 32 + 1 - got.length)
  s.queueMsg c false got.length [] left none

/-- LINK_TRAINING_START of channel c: the conditions hold and no retry interval runs (R471). -/
def State.trainingStart (s : State) (c : Nat) : State :=
  if s.linkState c = 5 && !(s.link c).retry && s.linkReady c then s.beginTraining c else s

/-- TRAINING_RETRY of channel c: 10 ms after a failed attempt (R471). -/
def State.trainingRetry (s : State) (c : Nat) : State :=
  let l := s.link c
  if s.linkState c = 5 && l.retry && decide (l.since + 10000000 ≤ s.clock) && s.linkReady c then s.beginTraining c else s

/-- The bound of the step training waits for, in ns from its start (R473): in DESCRIPTOR, that the descriptor is delivered, then that it is
checked. -/
def State.trainingBound (s : State) (c : Nat) : Nat :=
  if s.linkState c = 3 then if (s.link c).descDone then 2000000 else 1000000
  else [220000, 222000, 230000, 232000, 240000].getD (s.link c).step 240000

/-- The step training waits for has missed its bound. -/
def State.boundMissed (s : State) (c : Nat) : Bool := decide ((s.link c).since + s.trainingBound c < s.clock)

/-- Training of channel c waits for a step. -/
def State.trainsAt (s : State) (c step : Nat) : Bool := s.linkState c == 2 && (s.link c).step == step

/-- A step ends well, unless it missed its bound. -/
def State.stepDone (s : State) (c : Nat) (f : State → State) : State :=
  if s.boundMissed c then s.trainingFails c 3 else (f s).setLink c { (f s).link c with step := ((f s).link c).step + 1 }

/-- What a received training block of a type says in training at a step: the echo of another CHAN fails the attempt, and any other block
is not the echo (R472, R473, R475). -/
def State.trainingEcho (s : State) (c step kind : Nat) (r : Received) (ok : TrainingBlock → Bool) : State :=
  match readTraining r with
  | some b =>
    if !s.trainsAt c step || b.kind != kind then s
    else if b.chan ≠ c then s.trainingFails c 3
    else if ok b then s.stepDone c id
    else s
  | none => s

/-- TS1_ECHO of channel c: upstream block lock, then the CHAN echo (R451, R473, R475). -/
def State.ts1Echo (s : State) (c : Nat) (heard : Heard) : State :=
  if !s.trainsAt c 0 then s
  else
    let s := s.hear c (heard.headers ++ [heard.block.header])
    if (s.link c).locked then s.trainingEcho c 0 0xE1 heard.block fun _ => true else s

/-- TS2_ECHO of channel c (R473). -/
def State.ts2Echo (s : State) (c : Nat) (r : Received) : State :=
  if !s.trainsAt c 1 then s else (s.hear c [r.header]).trainingEcho c 1 0xE2 r fun _ => true

/-- ONE_WAY in 1/16 ns of 64 round trips that add up to n unit intervals; the manual states no rounding, so that either
neighbour is taken (R474). -/
def oneWay (n k : Nat) : Nat := if n * 5 % 264 = 0 then n * 5 / 264 else n * 5 / 264 + Config.choice k % 2

/-- ADV in 1/16 unit interval, to the nearest (R474): RT + 2 ns. -/
def advance (n : Nat) : Nat := (n * 5 + 4224 + 10) / 20

/-- RT_MEASURED of channel c: the unit intervals of 64 round trips, added up (R473-R475). FLIGHT.ONE_WAY keeps its old value where
the round trip is too long (DESIGN CHOICE, log entry 105). -/
def State.rtMeasured (s : State) (c n : Nat) : State :=
  if !s.trainsAt c 2 then s
  else if 640 * 264 < n * 5 then s.trainingFails c 4
  else s.stepDone c fun s =>
    let (k, s) := s.draw
    let s := s.setRf .loop c 0x43 15 0 (oneWay n k)
    s.setLink c { s.link c with adv := advance n, apply := (s.clock / 100 + 16) % 256 }

/-- TS3_ECHO of channel c: TS3 that echoes ADV (R473); another ADV is not the echo. -/
def State.ts3Echo (s : State) (c : Nat) (r : Received) : State :=
  if !s.trainsAt c 3 then s
  else (s.hear c [r.header]).trainingEcho c 3 0xE3 r fun b => b.adv == (s.link c).adv % 65536

/-- ALIGNMENT_CHECK of channel c: whether the upstream frame start lay within ±1 UI over 64 frames. Then IDLE frames begin,
the descrambler being whatever the training blocks have left, a free value (R450), and the descriptor is read (R473, R475, R487). -/
def State.alignmentCheck (s : State) (c : Nat) (ok : Bool) : State :=
  if !s.trainsAt c 4 then s
  else if !ok then s.trainingFails c 5
  else s.stepDone c fun s =>
    let s := (s.setChan c { s.chan c with rp := false, fq := s.fqOf c, fqFrames := 0 }).setLinkState c 3
    let (k, s) := s.draw
    let (m, s) := s.draw
    let s := s.setLink c { s.link c with tx := Config.freeWord k ++ (Config.freeWord m).setWidth 26, descRead := [] }
    (s.readDescriptor c).sendIdle c 8

/-- TRAINING_TIMEOUT of channel c (R473, R475). -/
def State.trainingTimeout (s : State) (c : Nat) : State :=
  if (s.linkState c == 2 || s.linkState c == 3) && s.boundMissed c then s.trainingFails c 3 else s

/-! ## The descriptor (R476-R478) -/

/-- The bytes of descriptor words, most significant first. -/
def blockBytes (l : List Block) : List Byte := l.flatMap fun b => bytesOf 8 b.toNat

/-- Bits of a range entry of a descriptor as one 128-bit number. -/
def descRange (d : List Block) (current : Bool) (n : Nat) : Nat :=
  (d.getD (rangeWord current n) 0).toNat * 2 ^ 64 + (d.getD (rangeWord current n + 1) 0).toNat

/-- The full scales of a quantity. -/
def descScales (d : List Block) (current : Bool) : List Word :=
  (upto (descRanges d current)).map fun n => word (bitsOf (descRange d current n) 127 96)

/-- The declared ranges of a quantity are well-formed, and the entries beyond them read 0. -/
def descRangesOk (d : List Block) (current : Bool) : Bool :=
  let k := descRanges d current
  ((upto 16).all fun n =>
    let e := descRange d current n
    if k ≤ n then e == 0
    else
      let fs := word (bitsOf e 127 96)
      isFin fs && fpos fs && bitsOf e 63 48 != 0 && bitsOf e 31 30 != 0) && rising (descScales d current)

/-- Whether the controller accepts a descriptor (R477). -/
def descOk (d : List Block) : Bool :=
  let n := descBits d 0 39 32
  decide (72 ≤ n) && d.length == n + 1 && descBits d 0 63 48 == 0x4844 && descBits d 0 47 40 == 1 &&
    crc32 (blockBytes (d.take n)) == descBits d n 31 0 && descRangesOk d false && descRangesOk d true &&
    decide (descBits d 3 54 52 ≤ 4) && decide (50 ≤ descBits d 5 63 48) && decide (descBits d 5 63 48 ≤ 10000) &&
    decide (descBits d 2 15 0 ≤ 1600) && descBits d 4 15 15 == 1

/-- The head's CURFEW is written: LINK_CTRL.CURFEW, or CURFEW_DEF where that is 0 (R482). -/
def State.writeCurfew (s : State) (c : Nat) : State :=
  let own := s.rf .chan c 0x50 15 0
  s.queueMsg c true 0x00010000 [BitVec.ofNat 64 (if own = 0 then s.descField c 5 63 48 else own)] 1 none

/-- The link of channel c becomes trained with a descriptor (R78, R81, R473, R716): err is the first check of R716 that the
applied values fail under it. -/
def State.linkTrained (s : State) (c : Nat) (d : List Block) (err : Option Err) : State :=
  let s := { s with descs := insertKey s.descs c d }
  let s := (s.setLink c { s.link c with first := false, offered := [] }).setLinkState c 4
  let s := s.setChan c { s.chan c with tempValid := false, rxErr := none }
  let s := s.writeCurfew c
  let s := s.setChState c (if s.mode c = 0 || err.isSome then chUnconfigured else chReady)
  s.notify 0x0108 .chan c [match err with
    | some e => e.code
    | none => 0]

/-- DESCRIPTOR_CHECK of channel c, whose descriptor d has been read whole. verify gives the first check of R716 that the applied values
fail once the descriptor counts as accepted (R473, R475-R478). -/
def State.descriptorCheck (s : State) (c : Nat) (d : List Block) (verify : State → Option Err) : State :=
  if s.linkState c ≠ 3 || !(s.link c).descDone || d != (s.link c).descRead then s
  else if s.boundMissed c then s.trainingFails c 3
  else if !descOk d then s.trainingFails c 6
  else
    let differs := match s.desc c with
      | some old => old != d
      | none => false
    if differs then
      let s := (s.setLink c { s.link c with offered := d }).setLinkState c 6
      s.notify 0x010A .chan c [descBits d 0 31 16 * 65536 + descBits d 0 15 0, descBits d 1 63 32]
    else s.linkTrained c d (verify { s with descs := insertKey s.descs c d })

/-- ACCEPT_NEW acts (R478). -/
def State.acceptNew (s : State) (c : Nat) (verify : State → Option Err) : State :=
  let d := (s.link c).offered
  if s.linkState c = 6 then s.linkTrained c d (verify { s with descs := insertKey s.descs c d }) else s

/-! ## Failure of a link (R72, R81, R209, R372, R484, R485) -/

/-- The trained link of channel c fails with a cause of R484; it retrains at once if the conditions hold (R471). -/
def State.linkFails (s : State) (c cause : Nat) : State :=
  if !s.trained c then s
  else
    let s := ((s.setRf .chan c 0x52 27 24 cause).count .chan c 0x57).dropMessages c
    let s := s.restLink c
    let s := if s.linkReady c then s.beginTraining c else s
    let s := if cause = 2 then s else s.logFault (0x0100 + cause) true (objCode .chan) c 1
    let s := ((s.stopRun c).acqAbort c).setChState c chLinkDown
    let s := (s.delayRecord c).setChan c { s.chan c with delay := none, fqFrames := 0 }
    ((s.notify 0x0109 .chan c [cause]).raiseFault 22).fireChan c 6

/-- Frames flow on the link of channel c that is not trained: DESCRIPTOR or CHANGED (R487). -/
def State.linkIdles (s : State) (c : Nat) : Bool := [3, 6].contains (s.linkState c)

/-- The link of channel c fails with a cause of R484: a trained one, or an attempt to train it. -/
def State.linkOrTrainingFails (s : State) (c cause : Nat) : State :=
  if s.trained c then s.linkFails c cause
  else if s.linkState c = 2 || s.linkIdles c then s.trainingFails c cause
  else s

/-- LINK_CRC_FAIL of channel c: the errors within WINDOW reach THRESH (R483, R485, R529). -/
def State.linkCrcFail (s : State) (c : Nat) : State :=
  if !((s.trained c || s.linkIdles c) && s.linkErrorsDue c) then s
  else
    let n := (s.linkErrors c).length
    let s := { s with faults := { s.faults with errors := store s.faults.errors [] (16 * 65536 + c) [] } }
    let s := (s.logFault 0x0102 true (objCode .chan) c n).notify 0x0501 .chan c [0x0102, n]
    s.linkOrTrainingFails c 2

/-- BLOCK_LOCK_LOST of channel c: 16 of the last 64 blocks had an invalid sync header (R451, R484). A training that still waits for its
first lock has none to lose. -/
def State.blockLockLost (s : State) (c : Nat) : State :=
  if (s.link c).locked || s.trainsAt c 0 then s else s.linkOrTrainingFails c 1

/-- TRAINING_BLOCK_RECEIVED on the link of channel c (R472, R484). -/
def State.trainingBlock (s : State) (c : Nat) (r : Received) : State :=
  if (readTraining r).isSome then (s.hear c [r.header]).linkFails c 1 else s

/-- The link of channel c is stopped by its controls: a trained one, or an attempt to train it, fails with a cause (R484, R487,
R488). -/
def State.stopLink (s : State) (c cause : Nat) : State :=
  let s := s.linkOrTrainingFails c cause
  (s.setLink c { s.link c with retry := false, offered := [] }).restLink c

/-- The channels of a bank. -/
def bankChannels (b : Nat) : List Nat := (upto 64).map fun k => 64 * b + k

/-- BANK LINK_CTRL takes effect, old being its value before (R444-R446, R471, R484, R487). A stop of LCLK loses the block lock
of every trained link (DEDUCED, log entry 34). -/
def State.bankLinkWritten (s : State) (b : Nat) (old : Word) : State :=
  let new := s.reg .bank b 0x40
  let s := if bitAt new 31 && (s.lines b).high then s.setLines b { s.lines b with high := false, changed := s.clock } else s
  let s := if bitAt new 30 && !bitAt old 30 then s.setLines b { s.lines b with lclkAt := s.clock } else s
  if bitAt new 31 && !bitAt old 31 then s.each (bankChannels b) fun s c => s.stopLink c 7
  else if !bitAt new 30 && bitAt old 30 then s.each (bankChannels b) fun s c => s.stopLink c 1
  else if new.toNat / 2 ^ 30 != old.toNat / 2 ^ 30 then
    s.each (bankChannels b) fun s c => if [0, 1, 5].contains (s.linkState c) then s.restLink c else s
  else s

/-- HRST_N_RISE of bank b: HRST is 0 and the line has been low for 10 µs (R445, R485). -/
def State.hrstRise (s : State) (b : Nat) : State :=
  let l := s.lines b
  if s.rb .bank b 0x40 31 || l.high || s.clock < l.changed + 10000 then s
  else
    let s := s.setLines b { l with high := true, changed := s.clock }
    s.each (bankChannels b) fun s c => (s.setLink c { s.link c with first := true, retry := false }).restLink c

/-- CHAN LINK_CTRL takes effect, old being its value before (R482, R484, R485, R487). -/
def State.chanLinkWritten (s : State) (c : Nat) (old : Word) (verify : State → Option Err) : State :=
  let new := s.reg .chan c 0x50
  let s := if bitAt new 30 then (s.acceptNew c verify).setRb .chan c 0x50 30 false else s
  let s := if bitAt new 31 && !bitAt old 31 then (s.setLink c { s.link c with first := true, retry := false }).restLink c
    else if !bitAt new 31 && bitAt old 31 then s.stopLink c 7
    else s
  if s.trained c then s.writeCurfew c else s

/-! ## Upstream status and alerts (R447, R461, R462, R465, R483, R713) -/

/-- The 68 bytes the CRC-32 of blocks 1 to 9 runs over (R465). -/
def statusBytes (l : List Block) : List Byte :=
  ((l.flatMap fun b => (bytesOf 8 b.toNat).reverse)).take 68

/-- Blocks 1 to 9 of an upstream frame pass their CRC-32. -/
def statusOk (l : List Block) : Bool :=
  l.length == 9 && crc32 (statusBytes l) == (l.getD 8 0).toNat / 2 ^ 32

/-- An alert of bank b acts as ALERT_ACT selects, and is told once FAULT of each head that shows ALERT has been read over the message
lane; with none, it is told at once (R447, R448). -/
def State.headAlert (s : State) (b : Nat) : State :=
  let l := (bankChannels b).filter fun c => s.trained c && (s.chan c).alert
  let s : State := if l.isEmpty then s.notify 0x010B .bank b [0]
    else { s with alerts := s.alerts ++ [⟨b, l.map fun c => (c, (s.link c).nextTag, none)⟩] }
  let s := s.each l fun s c => s.queueMsg c false 0x00010001 [] 1 none
  let hit : List Nat := match s.rf .bank b 0x40 29 28 with
    | 1 => l
    | 2 => bankChannels b
    | _ => []
  s.each hit fun s c => if s.chState c = chHeld then s.tripSafe c .alert else s.trip c .alert

/-- Block 1 of a good upstream frame: relay, ranges, temperature, ALERT and RX_ERR, with its other fields (R461, R483). While XFER is set
the block names the target of a change in progress, so outside a run the active ranges are taken with XFER clear. -/
def State.takeStatus (s : State) (c : Nat) (b : Block) : State :=
  let n := b.toNat
  let x := s.chan c
  let rx := bitsOf n 39 36
  let advanced := match x.rxErr with
    | some r => (rx + 16 - r) % 16
    | none => 0
  let s := s.countBy .chan c 0x56 advanced
  let s := s.each (upto advanced) fun s _ => s.linkError c
  let tempV := bitsOf n 57 57 == 1
  let s := s.setChan c { s.chan c with
    upBlock := b, connV := bitsOf n 55 52, connI := bitsOf n 51 48, relay := bitsOf n 63 62, alert := bitsOf n 58 58 == 1, rxErr := some rx,
    temp := if tempV then bitsOf n 31 16 else x.temp, tempValid := x.tempValid || tempV,
    tempAt := if tempV then s.clock else x.tempAt }
  if s.busyChan c || bitsOf n 61 61 = 1 then s
  else
    let s := (s.setActive c false (bitsOf n 55 52)).setActive c true (bitsOf n 51 48)
    (s.setTarget c false (s.activeRange c false)).setTarget c true (s.activeRange c true)

/-- A response in a good upstream frame, to a request that waits for it, is kept (R466, R467). -/
def State.takeResponse (s : State) (c : Nat) (blocks : List Block) : State :=
  let l := s.link c
  match readResponse blocks with
  | some r =>
    if l.msgs.any fun m => m.tag == r.tag && !m.waits && m.isWrite == r.isWrite then
      s.setLink c { l with inbox := l.inbox.filter (fun x => x.tag != r.tag) ++ [r] }
    else s
  | none => s

/-- UPSTREAM_STATUS of channel c: blocks 1 to 9 of its upstream frame as received, sync headers and payloads, and the payload bits received
before them (R447, R449, R461, R465, R483, R713). Where they fail their CRC-32, the frame counts one link error, unless its lost fast
block has counted it already, and carries no status and no message. -/
def State.upstreamStatus (s : State) (c : Nat) (received : List (Nat × Block)) (before : BitVec 58) : State :=
  let blocks := descrambleAll before (received.map Prod.snd)
  if !(s.trained c || s.linkIdles c) then s
  else
    let s := s.hear c (received.map Prod.fst)
    if !statusOk blocks then
      let s := s.count .chan c 0x54
      if (s.chan c).erred then s else s.linkError c
    else
      let s := s.takeResponse c blocks
      if !s.trained c then s
      else
        let alerted := (s.chan c).alert
        let s := s.takeStatus c (blocks.headD 0)
        if (s.chan c).alert && !alerted then s.headAlert (bankOf c) else s

/-- HALERT_FALL of bank b, the line staying low for a number of ns; a line that is low already does not fall (R447, R448). -/
def State.halertFall (s : State) (b low : Nat) : State :=
  if s.clock < (s.lines b).lowUntil then s
  else ((s.count .bank b 0x42).setLines b { s.lines b with lowUntil := s.clock + low }).headAlert b

/-! ## The message lane (R466-R469, R640) -/

/-- Words of the descriptor have come; a READ that the head refuses, or that brings other than the words it asked for, has failed (R473,
R484). -/
def State.takeDescriptor (s : State) (c count status : Nat) (words : List Block) : State :=
  if status ≠ 0 || words.length ≠ count then s.trainingFails c 6
  else
    let l := { s.link c with descRead := (s.link c).descRead ++ words }
    let s := s.setLink c l
    if l.descDone then s else s.readDescriptor c

/-- HEAD_MESSAGE_RESPONSE on the link of channel c: a response that blocks 1 to 9 of a good frame brought completes its request (R466,
R467, R469, R640). -/
def State.headResponse (s : State) (c tag status : Nat) (words : List Block) : State :=
  let l := s.link c
  match l.msgs.find? fun m => m.tag == tag with
  | none => s
  | some m =>
    let r : HeadReply := ⟨m.isWrite, tag, status, words⟩
    if !l.inbox.contains r then s
    else
      let s := (s.setLink c { l with inbox := l.inbox.filter (· != r) }).endMsg c tag
      match m.host with
      | none =>
        if s.linkState c = 3 then s.takeDescriptor c m.count status words
        else s.alertRead c tag (if status = 0 then words.head? else none)
      | some (n, r) =>
        if status ≠ 0 then s.answerDenied n r { err := .headRefused, obj := objCode .chan, inst := c, need := status }
        else s.answer n r 0 s.nextBoundary (if m.isWrite then [] else words.flatMap fun w => wordsOf 2 w.toNat)

/-- HEAD_MESSAGE_TIMEOUT of a request on the link of channel c: without a response 4 µs after the frame that carried it, it is repeated, up
to three times, and then fails, and with a READ of the descriptor the training (R467, R469, R484). -/
def State.headTimeout (s : State) (c tag : Nat) : State :=
  match (s.link c).msgs.find? fun m => m.tag == tag with
  | none => s
  | some m =>
    if m.waits || s.clock < m.sentAt + 4000 then s
    else if m.tries ≤ 3 then
      s.setLink c { s.link c with
        msgs := (s.link c).msgs.map fun k => if k.tag == tag then { k with tries := k.tries + 1, waits := true } else k }
    else
      let s := (s.endMsg c tag).msgFails c m
      if s.linkState c = 3 && m.host.isNone then s.trainingFails c 6 else s

/-- The channel, address and count of a head request (R640). -/
def headRequest (s : State) (r : Req) : Except Denial (Nat × Nat × Nat) := do
  require (2 ≤ r.body.length) .format
  let w := wget r.body 0
  require (fld w 15 3 == 0) .reserved
  let c := fld w 31 16
  let n := fld w 2 0
  require (1 ≤ n && n ≤ 6) .format
  demand (c < 512) { err := .noObject, obj := objCode .chan, inst := c }
  return (c, (wget r.body 1).toNat, n)

/-- CHAN.HEAD_READ (R469, R640): the reply follows the head's response. -/
def headRead (s : State) (r : Req) : Work := do
  let (c, addr, n) ← headRequest s r
  require (r.body.length == 2) .format
  demand (s.trained c) { err := .notReady, obj := objCode .chan, inst := c }
  return { state := s.queueMsg c false addr [] n (some (r.env.session.toNat, r)), later := true }

/-- CHAN.HEAD_WRITE (R469, R553, R640). -/
def headWrite (s : State) (r : Req) : Work := do
  let (c, addr, n) ← headRequest s r
  require (r.body.length == 2 + 2 * n) .format
  s.demandUnlocked r.env.session.toNat .chan c
  require (2 ^ 31 ≤ addr) .limit
  demand (s.trained c) { err := .notReady, obj := objCode .chan, inst := c }
  let words := (upto n).map fun i => BitVec.ofNat 64 (dword r.body (2 + 2 * i))
  return { state := s.queueMsg c true addr words n (some (r.env.session.toNat, r)), later := true }

end Sys2Proof.Machine
end

