-- ==== Sys2Proof/Machine/Arrivals.lean ====
section
/-!
DEFINITION. Arrivals at the router's consumers, TRIG pins, and SYNC event slots (R333, R334, R343-R346, R353-R358, R381, R510).
-/

namespace Sys2Proof.Machine

/-! ## TRIG inputs (R353-R355, R381) -/

/-- CFG.EDGE of a pin selects a rising or a falling edge. -/
def State.edgeSelected (s : State) (k : Nat) (rising : Bool) : Bool :=
  bitsOf (s.rf .trigpin k 0 30 29) (if rising then 0 else 1) (if rising then 0 else 1) == 1

/-- TRIG_INPUT_EDGE at pin k: its level after the edge, the core cycle in which a selected edge fires the source, and the time
of the crossing at the ball in 1/128 ns. -/
def State.trigEdge (s : State) (k : Nat) (high : Bool) (cyc stamp : Nat) : State :=
  let level := high != s.rb .trigpin k 0 28
  if s.rb .trigpin k 0 31 || level == s.rb .trigpin k 0x20 31 then s
  else
    let s := s.setRb .trigpin k 0x20 31 level
    if !s.edgeSelected k level then s
    else
      let s := s.count .trigpin k 0x21
      let source := mkId 1 k
      let s := if s.rearming source cyc then s
        else
          let s := s.setWords .trigpin k 0x22 (wordsOf 2 (stamp / 128) ++ [word (stamp % 128 * 2 ^ 25)])
          { s with stamps := (s.stamps.filter fun e => decide (cyc ≤ e.2.1 + 4096)) ++ [(k, cyc, stamp)] }
      s.fire source cyc

/-! ## TRIG outputs (R354, R356) -/

/-- An activation of output pin k in core cycle cyc: 3 cycles later the pin toggles, or a pulse begins after those that have not ended
(R356). Toggles that have come are part of the level by now. -/
def State.activatePin (s : State) (k cyc : Nat) : State :=
  if !s.rb .trigpin k 0 31 then s
  else if s.rf .trigpin k 0 27 26 = 1 then
    let later := (findD s.events.toggles [] k).filter fun t => decide (cyc < t)
    { s with events := { s.events with
      trigOut := store s.events.trigOut false k (s.toggled k cyc)
      toggles := store s.events.toggles [] k (later ++ [cyc + 3]) } }
  else
    let p := findD s.events.pulse [] k ++ [(cyc + 3, cyc + 3 + s.rf .trigpin k 0 15 0)]
    { s with events := { s.events with pulse := store s.events.pulse [] k p } }

/-- TRIG_PULSE_END of pin k in core cycle cyc: the pulses whose PULSE cycles have been driven end. -/
def State.pulseEnds (s : State) (k cyc : Nat) : State :=
  { s with events := { s.events with
    pulse := store s.events.pulse [] k ((findD s.events.pulse [] k).filter fun p => decide (cyc < p.2)) } }

/-! ## SYNC event slots (R357, R503, R504, R510) -/

/-- ROLE of the device on SYNC: 0 none, 1 origin, 2 follower. -/
def State.syncRole (s : State) : Nat := s.rf .sync 0 0 31 30

/-- CRC-8 of R503 over bits, first bit first. -/
def crc8Bits (l : List Bool) : Nat :=
  l.foldl (fun c b => let c2 := c * 2 % 256; if (bitsOf c 7 7 == 1) != b then c2 ^^^ 7 else c2) 0

/-- A SYNC word of a type and a payload. -/
def syncWord (type payload : Nat) : BitVec 48 :=
  let high := type % 16 * 2 ^ 36 + payload % 2 ^ 36
  BitVec.ofNat 48 (high * 256 + crc8Bits (bitsMsb 40 high))

/-- TYPE and PAYLOAD of a received word; none where its CRC-8 fails. -/
def readSyncWord (w : BitVec 48) : Option (Nat × Nat) :=
  let n := w.toNat
  if crc8Bits (bitsMsb 40 (n / 256)) = n % 256 then some (n / 2 ^ 44, n / 256 % 2 ^ 36) else none

/-- How many frames before frame f do not begin at a meridian, which comes every p frames. -/
def wordFrames (p f : Nat) : Nat := f - ceilDiv f p

/-- The frame before which k frames do not begin at a meridian, and which is one itself. -/
def wordFrame (p k : Nat) : Nat := k + k / (p - 1) + 1

/-- The time at which a word begun at time t has ended: its 49 symbols leave out the frames that carry MARK (R503, R504). -/
def wordEnd (p t : Nat) : Nat := (wordFrame p (wordFrames p (t / 100) + 48) + 1) * 100

/-- The time at which a word laid at time t launches its START: the frame after, where the frame at t carries MARK (R504). -/
def wordStart (p t : Nat) : Nat := if p != 0 && t / 100 % p == 0 then t + 100 else t

/-- Lay words one behind the other from a boundary on, for a meridian period of p frames. -/
def layWords (p : Nat) : Nat → List (BitVec 48) → List (Nat × BitVec 48)
  | _, [] => []
  | t, w :: r => (wordStart p t, w) :: layWords p (wordEnd p (wordStart p t)) r

/-- Put words on the SYNC line: those already started run on, an EVENT word goes ahead of the others (R504). -/
def State.sendWords (s : State) (ws : List (BitVec 48)) (first : Bool) : State :=
  let p := s.rf .sync 0 1 23 0
  let started := s.time.out.filter fun e => decide (e.1 ≤ s.now && s.now < wordEnd p e.1)
  let waiting := (s.time.out.filter fun e => decide (s.now < e.1)).map Prod.snd
  let base := match started.getLast? with
    | some e => max (s.now + 100) (wordEnd p e.1)
    | none => s.now + 100
  { s with time := { s.time with out := started ++ layWords p base (if first then ws ++ waiting else waiting ++ ws) } }

/-- The hop window of the calibration run that is under way, counted from 1, and the frame of it (R511). -/
def State.calWindowNow (s : State) : Option (Nat × Nat) :=
  match s.time.calRun with
  | some (_, first, _) =>
    if first ≤ s.now then some ((s.now - first) / 819200 + 1, (s.now - first) / 100 % 8192) else none
  | none => none

/-- SEG_POS. -/
def State.segPos (s : State) : Nat := s.rf .sync 0 0 28 24

/-- The symbol launched on SYNC_OUT in the frame that begins at the last boundary (R502-R505): the origin's MARK at a meridian, the
next symbol of its word, or DATA0 between words; what a follower with REPEAT relaunches. In a calibration run the line carries no
symbols; a measuring device launches an edge, as of DATA0, in each of the first 4,096 frames of its window and then releases SYNC_OUT
(R512, R513; DESIGN CHOICE, log entry 132). -/
def State.syncOut (s : State) : Option SyncSymbol :=
  let p := s.rf .sync 0 1 23 0
  match s.calWindowNow with
  | some (j, frame) => if s.syncRole = 2 ∧ s.segPos + 1 = j ∧ frame < 4096 then some .data0 else none
  | none =>
  match s.syncRole with
    | 1 =>
      if p != 0 && s.now / 100 % p == 0 then some .mark
      else
        let w := (s.time.out.filter fun e => decide (e.1 ≤ s.now && s.now < wordEnd p e.1)).head?
        match w with
        | some (t, w) =>
          let k := wordFrames p (s.now / 100) - wordFrames p (t / 100)
          if k = 0 then some .start else if w.toNat.testBit (48 - k) then some .data1 else some .data0
        | none => some .data0
    | 2 =>
      match s.time.relayed with
      | some (t, y) => if t = s.now then some y else none
      | none => none
    | _ => none

/-- When the falling edge of a symbol is launched after its frame boundary, in ns (R502). -/
def symbolFall : SyncSymbol → Nat
  | .start => 20 | .data0 => 40 | .data1 => 60 | .mark => 80

/-- The EVENT word that has not started yet, taken off the line, with the mask of its slots. -/
def State.takeEventWord (s : State) : Nat × State :=
  let events := s.time.out.filter fun e => decide (s.now < e.1) && e.2.toNat / 2 ^ 44 == 1
  (events.foldl (fun m e => m ||| e.2.toNat / 2 ^ 36 % 256) 0, { s with time := { s.time with out := s.time.out.filter fun e => !events.contains e } })

/-- An activation of SYNC slot SEk at the origin in core cycle cyc: all slots activated before the EVENT word starts share it and
its target, which is that of the latest (R510; DESIGN CHOICE, log entry 35). -/
def State.broadcast (s : State) (k cyc : Nat) : State :=
  if s.syncRole ≠ 1 then s
  else
    let target := ceilDiv (s.fineTime cyc + s.rf .sync 0 2 15 0 * 128000) 12800 * 100
    let (mask, s) := s.takeEventWord
    let mask := mask ||| 2 ^ k
    let slots := (upto 8).filter fun i => bitsOf mask i i == 1
    let s := s.each slots fun s i =>
      { s with events := { s.events with syncTarget := insertKey s.events.syncTarget i target } }
    s.sendWords [syncWord 1 (mask * 2 ^ 28 + target / 100 % 2 ^ 28)] true

/-- SYNC_EVENT_FIRE of slot k: its target has come (R357, R510). -/
def State.syncFire (s : State) (k : Nat) : State :=
  match find s.events.syncTarget k with
  | some t =>
    if t ≤ s.now then
      (({ s with events := { s.events with syncTarget := eraseKey s.events.syncTarget k } }).busyEnds (mkId 2 (k + 1))
        s.frameCycle).fire (mkId 2 (k + 1)) s.frameCycle
    else s
  | none => s

/-! ## Arrival groups (R333, R343-R346) -/

/-- Whether a consumer is busy in core cycle cyc, its last busy cycle included (R344); a pin in toggle mode never is (R356). -/
def State.consumerBusy (s : State) (i cyc : Nat) : Bool :=
  let x := idIndex i
  s.lastBusy i cyc || match idClass i with
  | 0x1 => s.rf .trigpin x 0 27 26 != 1 && s.pulsing x cyc
  | 0x2 => (find s.events.syncTarget (x - 1)).isSome || s.time.calRun.isSome
  | 0x6 => s.acqState x == 2 || s.acqState x == 3
  | 0xA => s.hk.conv.isSome
  | 0xC => x % 2 == 0 && s.aoutStartBusy (x / 2)
  | _ => false

/-- What an activation with an arrival count does. Virtual events fire in the same cycle; an activation of the housekeeping
converter is on its way to the aux island. -/
def State.activate (s : State) (i cyc n : Nat) : State :=
  let x := idIndex i
  match idClass i with
  | 0x1 => s.activatePin x cyc
  | 0x2 => s.broadcast (x - 1) cyc
  | 0x3 => let q := SeqRef.chan (x / 4); if s.seqRuns q then s.latch q (2 ^ (3 + x % 4)) else s
  | 0x4 => let q := SeqRef.bank (x / 4); if s.seqRuns q then s.latch q (2 ^ (3 + x % 4)) else s
  | 0x5 => if s.rb .repet x 1 30 then
      s.setChan x { s.chan x with repet := { (s.chan x).repet with resync := (s.chan x).repet.resync ++ [cyc] } }
    else s
  | 0x6 => s.acqEvent x cyc n
  | 0x8 => s.fire (mkId 8 x) cyc
  | 0xA => { s with hk := { s.hk with urgent := s.hk.urgent ++ [(x, n, cyc)] } }
  | 0xC => if x % 2 = 0 then (if s.aoutMode (x / 2) = 0 then s else s.requestStart (x / 2) (ceilDiv (s.fineTime cyc) 128))
      else s.requestStop (x / 2) (ceilDiv (s.fineTime cyc) 128)
  | 0xD => if s.active x then
      s.setChan x { s.chan x with eventTrip := some (match (s.chan x).eventTrip with
        | some t => min t (cyc + 10)
        | none => cyc + 10) }
    else s
  | _ => s

/-- An arrival group of n deliveries meets a busy consumer (R344, R346). -/
def State.overrun (s : State) (i cyc n : Nat) : State :=
  let k := s.sink i
  let s := s.setSink i { k with overrun := true, overruns := min (2 ^ 32 - 1) (k.overruns + n), noticed := true }
  if k.noticed then s else s.notifyAt (s.timeOfCycle cyc) 0x0303 .dev 0 [i]

/-- Whether an activation of a consumer is counted as it arrives; the converter counts its own when they reach the aux island (R673). An
acquisition unit in IDLE or DONE is activated without effect (R343, R370). -/
def countedHere (i : Nat) : Bool := idClass i != 0xA

/-- EVENT_DELIVERY: the deliveries that reach consumer i in core cycle cyc make one arrival group (R343, R344). -/
def State.eventDelivery (s : State) (i cyc : Nat) : State :=
  let group := s.events.deliveries.filter fun d => d.consumer == i && d.cycle == cyc
  let n := group.length
  if n = 0 then s
  else
    let s := { s with events := { s.events with
      deliveries := s.events.deliveries.filter fun d => !(d.consumer == i && d.cycle == cyc) } }
    if idClass i != 0xA && s.consumerBusy i cyc then s.overrun i cyc n
    else
      let k := s.sink i
      let s := if countedHere i then
          s.setSink i { k with coincident := decide (2 ≤ n), lastCount := n, activations := min (2 ^ 32 - 1) (k.activations + 1) }
        else s
      s.activate i cyc n

/-- The deliveries to the event inputs of sequencer q that are due in the core cycle of its boundary: they are honoured at a decision there
(R274, R278, R359). -/
def State.eventsAt (s : State) (q : SeqRef) : State :=
  s.each (upto 4) fun s k => s.eventDelivery (mkId (if q.isBank then 4 else 3) (4 * q.num + k)) (s.bndCycle q)

/-! ## ROUTE.SINK_READ and SINK_CLEAR (R345, R641) -/

/-- The consumer a command of R641 names. -/
def consumerOf (r : Req) : Except Denial Nat := do
  require (r.body.length == 1) .format
  require (fld (wget r.body 0) 31 16 == 0) .reserved
  let i := fld (wget r.body 0) 15 0
  require (isConsumer i) .noObject
  return i

/-- ROUTE.SINK_READ (R345). -/
def readSink (s : State) (r : Req) : Work := do
  let i ← consumerOf r
  let k := s.sink i
  let w := word (k.overrun.toNat * 2 ^ 31 + k.coincident.toNat * 2 ^ 30 + (s.consumerBusy i s.frameCycle).toNat * 2 ^ 29 +
    min 1024 k.lastCount * 2 ^ 18)
  return { state := s, body := [w, word k.activations, word k.overruns] }

/-- ROUTE.SINK_CLEAR (R345, R346). -/
def clearSink (s : State) (r : Req) : Work := do
  let i ← consumerOf r
  return { state := s.setSink i { s.sink i with overrun := false, overruns := 0, noticed := false } }

end Sys2Proof.Machine
end

