-- ==== Sys2Proof/Machine/Clocks.lean ====
section
/-!
DEFINITION. Device time and its sources, REFCLK, the SYNC line, skew calibration, PTP (R489-R514, R528, R645).
-/

namespace Sys2Proof.Machine

/-! ## Device time and its correction (R491-R495) -/

/-- The device is quiet (R492). -/
def State.quiet (s : State) : Bool :=
  (upto 512).all (fun c => !s.busyChan c && !s.seqRuns (.chan c) && !s.acqRuns c) &&
    (upto 8).all (fun b => !s.seqRuns (.bank b)) &&
    !s.commits.timed.any (fun q => q.timed) && !s.commits.tickets.any fun t => t.timed

/-- SOURCE: 0 FREE, 1 PTP, 2 SYNC. -/
def State.timeSource (s : State) : Nat := s.rf .time 0 0 31 30

/-- Write STATUS.STATE of TIME: 0 FREE, 1 ACQUIRING, 2 LOCKED, 3 HOLDOVER, 4 FAULT. -/
def State.setTimeState (s : State) (v : Nat) : State := s.setRf .time 0 0x21 31 28 v

/-- TIME_FAULT is set and told, once (R495, R507). -/
def State.timeFault (s : State) (err : Int) : State :=
  if s.rb .time 0 0x21 26 then s
  else
    let s := (s.setRb .time 0 0x21 26 true).setTimeState 4
    let s := (s.logFault 0x0402 true (objCode .time) 0 1).raiseFault 26
    s.notify 0x0401 .time 0 [twosOf 32 (clampInt (-(2 ^ 31 : Int)) (2 ^ 31 - 1) err)]

/-- STATUS of TIME as it reads: REF_OK is set while REFCLK is present, from the first frame on (R491, R496; DEDUCED, log entry 131). -/
def State.timeStatus (s : State) : Word := putBit (s.reg .time 0 0x21) 27 (s.time.refOk && !s.time.holdover)

/-- OFFSET as a signed number. -/
def State.timeOffset (s : State) : Int := signedOf 32 (s.reg .time 0 0x22).toNat

/-- No needed correction is left undone: TIME_FAULT clears. When ACQUIRING becomes LOCKED the manual does not say (DESIGN CHOICE, log entry
1). -/
def State.timeTracks (s : State) : State :=
  if s.time.timeOpen || s.time.phaseOpen then s
  else
    let s := s.setRb .time 0 0x21 26 false
    if s.time.holdover then s.setTimeState 3
    else
      let (k, s) := s.draw
      s.setTimeState (if s.timeSource = 0 then 0 else pick k [1, 2])

/-- A correction by an error in 1/128 ns (R495): what a quiet device steps by at the next boundary, what is to be slewed in 1/16 ps, and
whether it is above 1 µs and cannot be made. -/
def State.timeCorrection (s : State) (err : Int) : Option Int × Int × Bool :=
  if err = 0 then (none, 0, false)
  else if s.quiet then (some err, 0, false)
  else if err.natAbs ≤ 128000 then (none, err * 125, false)
  else (none, 0, true)

/-- What follows from a correction: the fault of one that cannot be made; after a step TIME_FAULT clears at the boundary (R495). -/
def State.corrected (s : State) (stepped impossible : Bool) (err : Int) : State :=
  if impossible then s.timeFault err else if stepped then s else s.timeTracks

/-- Device time is corrected by an error, device time less source in 1/128 ns (R495). -/
def State.correctTime (s : State) (err : Int) : State :=
  let s := s.setReg .time 0 0x22 (word (twosOf 32 (clampInt (-(2 ^ 31 : Int)) (2 ^ 31 - 1) err)))
  let (step, slew, impossible) := s.timeCorrection err
  State.corrected { s with time := { s.time with step := step, slew := slew, timeOpen := impossible } } step.isSome impossible err

/-- The frame phase is corrected by an error, this device less SYNC in 1/128 ns (R495, R506). -/
def State.correctPhase (s : State) (err : Int) : State :=
  let (step, slew, impossible) := s.timeCorrection err
  State.corrected { s with time := { s.time with phaseStep := step, phaseSlew := slew, phaseOpen := impossible } } step.isSome impossible
    err

/-- Towards 0 by at most a cut. -/
def towardZero (cut x : Int) : Int := if x.natAbs ≤ cut.natAbs then 0 else if x < 0 then x + cut else x - cut

/-- A time kept by the firmware moves with a step of device time. -/
def moveTime (d : Int) (t : Nat) : Nat := ((t : Int) + d).toNat

/-- Device time moves by d ns on a quiet device: what still waits by device time waits as long as before. -/
def State.moveTimes (s : State) (d : Int) : State :=
  let m := moveTime d
  { s with
    now := m s.now,
    commits := { s.commits with
      tickets := s.commits.tickets.map fun t => { t with leadEnd := m t.leadEnd, boundary := m t.boundary },
      liveWrites := s.commits.liveWrites.map fun w => { w with boundary := m w.boundary },
      timed := s.commits.timed.map fun q => { q with boundary := m q.boundary },
      pathBusy := m s.commits.pathBusy },
    hk := { s.hk with
      due := s.hk.due.map m, conv := s.hk.conv.map fun c => { c with started := m c.started } },
    aouts := s.aouts.map fun e => (e.1, { e.2 with
      startAt := e.2.startAt.map m, stopAt := e.2.stopAt.map m, levelAt := e.2.levelAt.map m,
      faultAt := e.2.faultAt.map m }),
    time := { s.time with
      marked := m s.time.marked, out := s.time.out.map fun e => (m e.1, e.2),
      relayed := s.time.relayed.map fun e => (m e.1, e.2) } }

/-- The times of a sequencer move by d ns. -/
def Seq.moveTimes (d : Int) (x : Seq) : Seq :=
  let m := moveTime d
  { x with
    phaseAt := m x.phaseAt, waitFrom := m x.waitFrom, released := x.released.map m, next := m x.next,
    tsetNext := x.tsetNext.map fun t => (t.1, m t.2), issued := x.issued.map fun v => { v with time := m v.time },
    placed := x.placed.map fun p => { p with time := m p.time }, levelBefore := x.levelBefore.map fun l => (m l.1, l.2) }

/-- Device time passes the end of its 64 bits and counts on from 0 (R10; DESIGN CHOICE, log entry 93): everything that waits by
device time waits as long as before, on a device that is not quiet too. -/
def State.timeWraps (s : State) : State :=
  if s.now < timeSpan then s
  else
    let d : Int := -(timeSpan : Int)
    let m := moveTime d
    let s := s.moveTimes d
    { s with
      seqs := s.seqs.map fun e => (e.1, e.2.moveTimes d),
      bseqs := s.bseqs.map fun e => (e.1, e.2.moveTimes d),
      chans := s.chans.map fun e => (e.1, { e.2 with
        pairWaits := e.2.pairWaits.map fun w => { w with due := m w.due },
        ramp := match e.2.ramp with
          | .sync t => .sync (m t)
          | r => r }),
      events := { s.events with syncTarget := s.events.syncTarget.map fun e => (e.1, m e.2) },
      time := { s.time with
        calRun := s.time.calRun.map fun r => (r.1, m r.2.1, r.2.2) } }

/-- What happens to device time at a boundary: a loaded time is taken, a step is made, a slew goes on by n frames of 1 ps, that of the
time before that of the phase (R489, R493, R495; DESIGN CHOICE, log entry 133). -/
def State.timeBoundary (s : State) (frames : Nat) : State :=
  let s : State := match s.time.load with
    | some v => ({ s with time := { s.time with load := none } }).moveTimes ((v : Int) - s.now)
    | none => s
  let s : State := if !s.steps then s
    else
      let d := steppedTime s.now s.stepError - s.now
      let s := { s with time := { s.time with step := none, phaseStep := none } }
      ((s.moveTimes d).count .time 0 0x23).timeTracks
  let s := s.timeWraps
  let t := s.time
  let cut : Int := 16 * frames
  let forPhase := max 0 (cut - t.slew.natAbs)
  { s with time := { t with slew := towardZero cut t.slew, phaseSlew := towardZero forPhase t.phaseSlew, refOk := true } }

/-- TIME.LOAD (R493, R645). -/
def loadTime (s : State) (r : Req) : Work := do
  require (r.body.length == 2) .format
  let t := dword r.body 0
  require (t % 100 == 0) .limit
  require (s.timeSource == 0) .timeSource
  require s.quiet .busy
  return { state := { s with time := { s.time with load := some t } } }

/-! ## Meridians and the words of the origin (R503, R504, R508) -/

/-- MER_PERIOD in ns. -/
def State.meridianNs (s : State) : Nat := s.rf .sync 0 1 23 0 * 100

/-- MERIDIAN at the boundary now (R332, R504, R508): its source fires; the origin launches MARK and its words, but in a calibration run
(R513). -/
def State.meridian (s : State) : State :=
  if s.meridianNs = 0 || s.now % s.meridianNs ≠ 0 then s
  else
    let s := s.fire (mkId 2 0) s.frameCycle
    if s.syncRole ≠ 1 || s.calWindowNow.isSome then s
    else
      let s := { s with time := { s.time with marked := s.now } }
      s.sendWords [syncWord 2 (s.now / 2 ^ 32 % 2 ^ 32 * 16), syncWord 3 (s.now % 2 ^ 32 * 16),
        syncWord 4 (s.rf .sync 0 1 23 0 * 2 ^ 12)] false

/-! ## Words received by a follower (R503-R507, R510) -/

/-- An EVENT word, whole at device time t in 1/128 ns: each slot fires at the target, unless the word came later than 100 ns before it,
which counts once and is told of each slot (R500, R510). -/
def State.eventWord (s : State) (mask frame t : Nat) : State :=
  let ahead := (frame + 2 ^ 28 - s.now / 100 % 2 ^ 28) % 2 ^ 28
  let target := s.now / 100 * 100 + ahead * 100
  let slots := (upto 8).filter fun k => bitsOf mask k k == 1
  if 2 ^ 27 ≤ ahead || target * 128 < t + 12800 then
    (s.count .sync 0 0x26).each slots fun s k => s.notify 0x0404 .sync 0 [k]
  else s.each slots fun s k =>
    { s with events := { s.events with syncTarget := insertKey s.events.syncTarget k target } }

/-- The time of the meridian marked last, as the origin broadcasts it, against the time the follower held there (R507). -/
def State.timeWord (s : State) (t : Nat) : State :=
  if s.timeSource ≠ 2 then s else s.correctTime (((s.time.marked : Int) - t) * 128)

/-- PERIOD or MARK disagrees with the follower's own: TIME_FAULT stands until a time is found right (R495, R507; DESIGN CHOICE, log entry
133). -/
def State.syncDisagrees (s : State) : State :=
  State.timeFault { s with time := { s.time with timeOpen := true } } s.timeOffset

/-- SYNC_WORD: a complete word, whole in core cycle cyc (R503, R505, R507, R510, R511). -/
def State.syncWordIn (s : State) (w : BitVec 48) (cyc : Nat) : State :=
  if s.syncRole ≠ 2 then s
  else match readSyncWord w with
    | none => s.count .sync 0 0x25
    | some (1, p) => s.eventWord (p / 2 ^ 28) (p % 2 ^ 28) (s.fineTime cyc)
    | some (2, p) => { s with time := { s.time with hi := some (p / 16) } }
    | some (3, p) =>
      match s.time.hi with
      | some h => ({ s with time := { s.time with hi := none } }).timeWord (h * 2 ^ 32 + p / 16)
      | none => s
    | some (4, p) => if p / 2 ^ 12 = s.rf .sync 0 1 23 0 then s else s.syncDisagrees
    | some (5, p) =>
      let ahead := (p % 2 ^ 31 + 2 ^ 31 - s.now / 100 % 2 ^ 31) % 2 ^ 31
      ({ s with time := { s.time with
        calRun := some (p / 2 ^ 31, s.now / 100 * 100 + ahead * 100, 0), turnSum := 0, turns := 0, answerAt := none } }).setRb .sync 0 0x20 29 true
    | some _ => s

/-! ## Edges (R502, R505-R507, R509) -/

/-- A filter of unstated law gives back what it already holds where it is fed that, and an unknown value otherwise (DESIGN CHOICE, log entry
1). -/
def State.filtered (s : State) (old new : Word) : Word × State :=
  if old = new then (old, s) else let (k, s) := s.draw; (Config.freeWord k, s)

/-- PHASE_ERR and what follows from it (R506). -/
def State.phaseEdge (s : State) (diff : Int) : State :=
  let (w, s) := s.filtered (s.reg .sync 0 0x21) (word (twosOf 32 diff))
  let err := signedOf 32 w.toNat
  let run := if err.natAbs ≤ 6 then min 4096 (s.time.alignRun + 1) else 0
  let s := { s.setReg .sync 0 0x21 w with time := { s.time with alignRun := run } }
  let s := if 4096 ≤ run then s.setRb .sync 0 0x20 30 true
    else if 12 < err.natAbs then s.setRb .sync 0 0x20 30 false else s
  s.correctPhase err

/-- The follower's check of a symbol against its own meridian (R507). -/
def State.markCheck (s : State) (y : SyncSymbol) : State :=
  let frame := s.now - 100 * s.rf .sync 0 0 28 24
  let own := s.meridianNs != 0 && frame % s.meridianNs == 0
  let s := if y == .mark then { s with time := { s.time with marked := frame } } else s
  if own == (y == .mark) then s else s.syncDisagrees

/-- The stamp of the first core cycle at least 40 ns after a stamp, in 1/128 ns of device time (R489, R512). -/
def State.answerTo (s : State) (stamp : Nat) : Nat :=
  let frame := s.now * 128
  frame + ceilDiv ((stamp + 5120 - frame) * 3) 256 * 256 / 3

/-- An edge reaches a follower in a calibration run: the successor of the measuring device answers it on the same pair, and keeps its
turnaround; to no device is it an edge to align to (R512, R513). -/
def State.calEdge (s : State) (j stamp : Nat) : State :=
  if s.segPos ≠ j then s
  else
    let t := s.answerTo stamp
    { s with time := { s.time with answerAt := some t, turnSum := s.time.turnSum + (t - stamp), turns := s.time.turns + 1 } }

/-- SYNC_IN_EDGE: a rising edge stamped in 1/128 ns of device time, and the symbol it begins. -/
def State.syncEdge (s : State) (stamp : Nat) (y : SyncSymbol) : State :=
  let s := s.setWords .sync 0 0x27 (wordsOf 2 (stamp / 128) ++ [word (stamp % 128 * 2 ^ 25)])
  let s := s.setRb .sync 0 0x20 31 true
  let s := { s with time := { s.time with lastEdge := some s.clock, lostAt := none } }
  let diff : Int := (stamp : Int) - s.now * 128
  match s.syncRole, s.calWindowNow with
  | 1, _ =>
    let (w, s) := s.filtered (s.reg .sync 0 0x22) (word (twosOf 32 diff))
    s.setReg .sync 0 0x22 w
  | 2, some (j, _) => s.calEdge j stamp
  | 2, none =>
    let s := (s.phaseEdge (diff - (s.reg .sync 0 3).toNat)).markCheck y
    if s.rb .sync 0 0 29 then { s with time := { s.time with relayed := some (s.nextBoundary, y) } } else s
  | _, _ => s

/-- SYNC_LOST: no edge for 8 frames (R509, R528). -/
def State.syncLost (s : State) : State :=
  match s.time.lastEdge with
  | some t =>
    if s.rb .sync 0 0x20 31 && decide (t + 800 ≤ s.clock) then
      let s := s.setRb .sync 0 0x20 31 false
      let s := { s with time := { s.time with lostAt := some s.clock, slew := 0, phaseSlew := 0, alignRun := 0 } }
      ((s.logFault 0x0403 true (objCode .sync) 0 1).raiseFault 26).notify 0x0403 .sync 0 []
    else s
  | none => s

/-- ALIGNED_EXPIRY: one second after SYNC was lost (R509). -/
def State.alignedExpiry (s : State) : State :=
  match s.time.lostAt with
  | some t => if t + 10 ^ 9 ≤ s.clock then s.setRb .sync 0 0x20 30 false else s
  | none => s

/-! ## Skew calibration (R511, R512, R528, R645) -/

/-- SYNC.CALIBRATE: the first frame of the run is the device's to choose (DESIGN CHOICE, log entry 1). -/
def calibrateSync (s : State) (r : Req) : Work := do
  require (r.body.length == 1) .format
  require (fld (wget r.body 0) 31 5 == 0) .reserved
  let w := fld (wget r.body 0) 4 0
  require (w != 0) .limit
  require (s.syncRole == 1 && s.events.syncTarget.isEmpty && s.time.calRun.isNone) .busy
  let (k, s) := s.draw
  let first := s.nextBoundary + 100 * Config.choice k
  let s := s.sendWords [syncWord 5 (w * 2 ^ 31 + first / 100 % 2 ^ 31)] false
  let s := ({ s with time := { s.time with calRun := some (w, first, 0), turnSum := 0, turns := 0, answerAt := none } }).setRb .sync 0 0x20 29 true
  return { state := s }

/-- The mean over 4,096 edges of times that add up to a sum in 1/128 ns, to a neighbouring unit, since the manual states no rounding; of
another number of edges the manual states none (R512; DESIGN CHOICE, log entry 132). -/
def State.calMean (s : State) (sum edges : Nat) : Word × State :=
  let (k, s) := s.draw
  (if edges ≠ 4096 then Config.freeWord k
   else if sum % 4096 = 0 then word (sum / 4096)
   else word (sum / 4096 + Config.choice k % 2), s)

/-- CALIBRATION_WINDOW: the present hop window ends; the measuring device has stamped a number of answers, whose round trips add up to a sum
in 1/128 ns; its successor has kept its turnarounds. -/
def State.calWindow (s : State) (sum answers : Nat) : State :=
  match s.time.calRun with
  | none => s
  | some (w, first, done) =>
    if s.now < first + (done + 1) * 819200 then s
    else
      let follower := s.syncRole == 2
      let record (s : State) (f sum edges : Nat) : State :=
        let (v, s) := s.calMean sum edges
        (s.setReg .sync 0 f v).setRb .sync 0 0x20 28 true
      let s : State := if follower && s.segPos == done then record s 0x23 sum answers else s
      let s : State := if follower && s.segPos == done + 1 then record s 0x24 s.time.turnSum s.time.turns else s
      if w ≤ done + 1 then ({ s with time := { s.time with calRun := none } }).setRb .sync 0 0x20 29 false
      else { s with time := { s.time with calRun := some (w, first, done + 1) } }

/-! ## REFCLK (R496, R528) -/

/-- REFCLK_LOST: no edge for four periods. -/
def State.refclkLost (s : State) : State :=
  if s.time.holdover then s
  else
    let s := ({ s with time := { s.time with holdover := true } }.setTimeState 3).count .time 0 0x24
    let s := if s.time.calRun.isSome then
        ((({ s with time := { s.time with calRun := none } }).setRb .sync 0 0x20 29 false).setRb .sync 0 0x20 28 false)
      else s
    let s := if s.time.lostAt.isSome then s.setRb .sync 0 0x20 30 false else s
    ((s.logFault 0x0401 true (objCode .time) 0 1).raiseFault 26).notify 0x0402 .time 0 []

/-- REFCLK_RELOCK: REFCLK has been present for 10 ms. -/
def State.refclkRelock (s : State) : State :=
  if !s.time.holdover then s
  else ({ s with time := { s.time with holdover := false } }).setTimeState (if s.rb .time 0 0x21 26 then 4 else if s.timeSource = 0 then 0 else 1)

/-! ## PTP (R497, R498) -/

/-- PTP_ROLE: 0 off, 1 slave-only, 2 master-capable. -/
def State.ptpRole (s : State) : Nat := s.rf .time 0 0 29 28

/-- The ordinary clock follows a master. -/
def State.ptpSlave (s : State) : Bool := s.ptpRole == 1 || (s.ptpRole == 2 && s.ptp.master.isSome)

/-- The messageType of a PTP message. -/
def ptpType : PtpKind → Nat
  | .sync => 0 | .delayReq => 1 | .followUp => 8 | .delayResp => 9 | .announce => 11

/-- Event messages, which the clock stamps as they pass (R573). -/
def eventPtp : PtpKind → Bool
  | .sync | .delayReq => true
  | _ => false

/-- The UDP port of a PTP message: 319 of event messages, 320 of general ones (R497; which is which PRESUMED, log entry 135). -/
def ptpPort (k : PtpKind) : Nat := if eventPtp k then 319 else 320

/-- The group addresses PTP messages are sent to, link-layer and IP (PRESUMED, log entry 135). -/
def ptpGroup : PtpCarriage → Nat × Nat
  | .udp4 => (0x01005E000181, 0xE0000181)
  | .udp6 => (0x333300000181, 0xFF0E * 2 ^ 112 + 0x181)
  | .ether => (0x011B19000000, 0)

/-- Bytes of MAC client data of a PTP message the device sends (PRESUMED, log entry 135). -/
def ptpBytes (c : PtpCarriage) (k : PtpKind) : Nat :=
  (match k with
    | .delayResp => 54
    | .announce => 64
    | _ => 44) +
  match c with
    | .udp4 => 28
    | .udp6 => 48
    | .ether => 0

/-- The frame in which the device sends a PTP message to an address (R497, R579, R584, R585). -/
def State.ptpFrame (s : State) (c : PtpCarriage) (k : PtpKind) (dst : Nat × Nat) (vlan : Option Nat) : PtpFrame :=
  ⟨s.ownMac, dst.1, c, dst.2, if c = .ether then 0 else ptpPort k, vlan, ptpBytes c k⟩

/-- Send a PTP message of the ordinary clock out of port A: event messages at the highest priority, the others with the device's replies
(R497, R573; DESIGN CHOICE, log entry 135). -/
def State.sendPtp (s : State) (f : PtpFrame) (m : PtpMsg) : State :=
  s.send .a (if eventPtp m.kind then 1 else 3) (.ptp .a false (ptpType m.kind) f m)

/-- A message of the ordinary clock (R497): it is two-step in the clock's domain and announces clockClass 248 with its priority1
from PRIO1. -/
def State.ownPtp (s : State) (k : PtpKind) (seq : Nat) (time correction : Int) (requesting : Nat) : PtpMsg :=
  ⟨k, Config.ptpIdentity.toNat, k == .sync, s.rf .time 0 0 27 20, seq, time, correction, s.rf .time 0 0 19 12, 248, requesting⟩

/-- How the clock's periodic messages go: as its master's come, or, with none, in a carriage of the device's choice (DESIGN CHOICE, log entry
135). -/
def State.ptpCarriage (s : State) : PtpCarriage × State :=
  match s.ptp.master with
  | some x => (x.carriage, s)
  | none =>
    let (k, s) := s.draw
    (match pick k [0, 1, 2] with
      | 0 => .udp4
      | 1 => .udp6
      | _ => .ether, s)

/-- Send a message to every clock. -/
def State.groupPtp (s : State) (c : PtpCarriage) (m : PtpMsg) : State := s.sendPtp (s.ptpFrame c m.kind (ptpGroup c) none) m

/-- The clock knows its offset from a complete Sync and the mean path delay, and disciplines device time (R495, R497). -/
def State.ptpOffset (s : State) : State :=
  match s.ptp.t1, s.ptp.t2, s.ptp.meanDelay with
  | some (a, t1), some (b, t2), some d =>
    if a = b && s.timeSource = 1 then s.correctTime (t2 - t1 - d) else s
  | _, _, _ => s

/-- What stands against an announced master: the one followed, or the device itself where it is master-capable. -/
def State.ptpRival (s : State) (m : PtpMsg) : Option (Nat × Nat) :=
  let own := if s.ptpRole = 2 then some (s.rf .time 0 0 19 12, 248) else none
  match s.ptp.master with
  | some x => if x.source = m.source then own else some (x.priority, x.clockClass)
  | none => own

/-- An Announce: the better master by priority1, then clockClass, is followed, and between equal ones the choice is free; a master that
has become worse than the device itself is followed no more (R497; DESIGN CHOICE, log entry 79). -/
def State.ptpAnnounce (s : State) (c : PtpCarriage) (m : PtpMsg) : State :=
  let follow (s : State) := { s with ptp := { s.ptp with master := some ⟨m.priority, m.clockClass, m.source, c⟩ } }
  match s.ptpRival m with
  | none => follow s
  | some (p, k) =>
    if m.priority < p ∨ m.priority = p ∧ m.clockClass < k then follow s
    else if m.priority = p ∧ m.clockClass = k then
      let (n, s) := s.draw
      if pick n [0, 1] = 0 then s else follow s
    else if s.ptp.master.any (fun x => x.source == m.source) then { s with ptp := { s.ptp with master := none } }
    else s

/-- The device is a slave and a message is its master's. -/
def State.fromMaster (s : State) (m : PtpMsg) : Bool := s.ptpSlave && s.ptp.master.any fun x => x.source == m.source

/-- A message of the ordinary clock's domain reaches it at device time rx. A Sync's own correctionField counts in both kinds of Sync; a
Delay_Resp goes to the address its Delay_Req came from, with its tag (R497, R584, R585). -/
def State.ptpHandle (s : State) (f : PtpFrame) (m : PtpMsg) (rx : Int) : State :=
  let p := s.ptp
  match m.kind with
  | .announce => s.ptpAnnounce f.carriage m
  | .sync =>
    if !s.fromMaster m then s
    else
      let p := { p with t2 := some (m.seq, rx - m.correction) }
      if m.twoStep then { s with ptp := p }
      else ({ s with ptp := { p with t1 := some (m.seq, m.time) } }).ptpOffset
  | .followUp =>
    if s.fromMaster m then ({ s with ptp := { p with t1 := some (m.seq, m.time + m.correction) } }).ptpOffset else s
  | .delayReq =>
    if s.ptpRole == 2 && !s.ptpSlave then
      let dst := if f.carriage = .ether then ptpGroup .ether else (f.src, f.ip)
      s.sendPtp (s.ptpFrame f.carriage .delayResp dst f.vlan) (s.ownPtp .delayResp m.seq rx m.correction m.source)
    else s
  | .delayResp =>
    match p.t1, p.t2, p.t3 with
    | some (a, t1), some (b, t2), some (n, t3) =>
      if s.fromMaster m && a == b && n == m.seq && m.requesting == Config.ptpIdentity.toNat then
        ({ s with ptp := { p with meanDelay := some ((t2 - t1 + (m.time - m.correction) - t3) / 2) } }).ptpOffset
      else s
    | _, _, _ => s

/-- Whether a Sync passed on is the one a message belongs to. -/
def PtpHeld.of (m : PtpMsg) (h : PtpHeld) : Bool := h.source == m.source && h.domain == m.domain && h.seq == m.seq

/-- What the transparent clock adds to a message's correctionField (R498): the residence time of a one-step Sync and of a Delay_Req, and
in a Follow_Up that of its Sync. -/
def State.ptpAdds (s : State) (m : PtpMsg) (residence : Int) : Int :=
  match m.kind with
  | .sync => if m.twoStep then 0 else residence
  | .delayReq => residence
  | .followUp => match s.ptp.held.find? (PtpHeld.of m) with
    | some h => h.residence
    | none => 0
  | _ => 0

/-- The transparent clock keeps the residence time of a two-step Sync until its Follow_Up has passed (R498). -/
def State.ptpKeep (s : State) (m : PtpMsg) (residence : Int) : State :=
  let others := s.ptp.held.filter fun h => !PtpHeld.of m h
  match m.kind with
  | .sync => if m.twoStep then { s with ptp := { s.ptp with held := others ++ [⟨m.source, m.domain, m.seq, residence⟩] } } else s
  | .followUp => { s with ptp := { s.ptp with held := others } }
  | _ => s

/-- A message received on port p is passed on by R571 where it is not addressed to the device alone, with its residence time where TC_EN is 1
(R498, R573). -/
def State.ptpForward (s : State) (p : Port) (f : PtpFrame) (m : PtpMsg) (residence : Int) : State :=
  if f.dst = s.ownMac then s
  else
    let out (t : State) (m : PtpMsg) : State :=
      t.passFrame p (if eventPtp m.kind then 1 else 4) (.ptp (otherPort p) true (ptpType m.kind) f m)
    if s.rb .time 0 0 11 then out (s.ptpKeep m residence) { m with correction := m.correction + s.ptpAdds m residence }
    else out s m

/-- PTP_MESSAGE on a port in a frame, at device time rx, with its residence time in the device; times in 1/128 ns (R497, R498, R570,
R571). -/
def State.ptpMessage (s : State) (p : Port) (f : PtpFrame) (m : PtpMsg) (rx residence : Int) : State :=
  s.takeFrame p f.src f.length fun s =>
    let s := s.ptpForward p f m residence
    if p == .a && s.reaches f.dst && s.ptpRole != 0 && m.domain == s.rf .time 0 0 27 20 then s.ptpHandle f m rx else s

/-- PTP_TRANSMIT of a periodic message at device time tx in 1/128 ns: a master sends Sync with its Follow_Up, and Announce; a
slave sends Delay_Req (R497). -/
def State.ptpTransmit (s : State) (k : PtpKind) (tx : Int) : State :=
  let master := s.ptpRole == 2 && !s.ptpSlave
  match k with
  | .sync =>
    if !master then s
    else
      let (c, s) := s.ptpCarriage
      let n := s.ptp.syncSeq
      let s := { s with ptp := { s.ptp with syncSeq := (n + 1) % 65536 } }
      (s.groupPtp c (s.ownPtp .sync n 0 0 0)).groupPtp c (s.ownPtp .followUp n tx 0 0)
  | .announce =>
    if !master then s
    else
      let (c, s) := s.ptpCarriage
      let n := s.ptp.announceSeq
      let s := { s with ptp := { s.ptp with announceSeq := (n + 1) % 65536 } }
      s.groupPtp c (s.ownPtp .announce n 0 0 0)
  | .delayReq =>
    if !s.ptpSlave then s
    else
      let (c, s) := s.ptpCarriage
      let n := s.ptp.reqSeq
      let s := { s with ptp := { s.ptp with reqSeq := (n + 1) % 65536, t3 := some (n, tx) } }
      s.groupPtp c (s.ownPtp .delayReq n 0 0 0)
  | _ => s

end Sys2Proof.Machine
end

