-- ==== Sys2Proof/Machine/Arbiter.lean ====
section
/-!
DEFINITION. The DRAM arbiter: requests, slots, grants, starvation, the slot tables and their swap, ARB.READ and ARB.CLEAR
(R515-R526, R528, R549, R641). Slots are numbered from power-up; slot 256 n begins a table cycle (DESIGN CHOICE, log entry 36).
-/

namespace Sys2Proof.Machine

/-! ## Classes, time and shares (R515, R516) -/

/-- The arbiter class of a master identifier. -/
def arbClass (master : Nat) : Option Nat :=
  match master / 4096 with
  | 3 => some 0 | 4 => some 1 | 6 => some 2 | 7 => some 3 | 8 => some 4 | 0xA => some 5 | 9 => some 6 | 0xB => some 7
  | 2 => some 8 | _ => none

/-- The sequencer a master identifier names. -/
def sequencerOf (master : Nat) : Option SeqRef :=
  if master / 4096 = 3 then some (.chan (master % 4096))
  else if master / 4096 = 4 then some (.bank (master % 4096)) else none

/-- The time n slots take, in ns. -/
def slotNs (n : Nat) : Nat := n * 25 / 64

/-- The slot that begins at the last boundary. -/
def State.slotNow (s : State) : Nat := s.clock * 64 / 25

/-- The class a slot names in the live table. -/
def State.slotClass (s : State) (i : Nat) : Nat :=
  let k := i % 256
  s.rf .arb 0 (0x100 + k / 8) (4 * (k % 8) + 3) (4 * (k % 8))

/-- Quads moved to a class. -/
def State.movedOf (s : State) (k : Nat) : Moved := findD s.arb.moved ⟨0, none, 0⟩ k

/-- The quads a class holds: MIN_Q and those moved to it. -/
def State.classQuads (s : State) (k : Nat) : Nat := s.rf .arb 0 (1 + k) 23 16 + (s.movedOf k).count

/-- The quads FREE holds. -/
def State.freeQuads (s : State) : Nat := 64 - ((upto 9).map s.classQuads).sum

/-- The starvation bound of a class, ns. -/
def State.starveBound (s : State) (k : Nat) : Nat := s.rf .arb 0 (1 + k) 15 0

/-- What the arbiter keeps of a master. -/
def State.arbMaster (s : State) (m : Nat) : ArbMaster := findD s.arb.masters ⟨0, 0, 0, 0, false, 0, [], false⟩ m

/-- Replace what the arbiter keeps of a master. -/
def State.setArbMaster (s : State) (m : Nat) (x : ArbMaster) : State :=
  { s with arb := { s.arb with masters := store s.arb.masters ⟨0, 0, 0, 0, false, 0, [], false⟩ m x } }

/-! ## The tables (R517, R519, R520) -/

/-- Insert a class with its quads before the first that is to be placed after it: powers of two come first, and of these
the larger. -/
def placeClass (a : Nat × Nat) : List (Nat × Nat) → List (Nat × Nat)
  | [] => [a]
  | b :: r =>
    let key := fun (n : Nat) => if [64, 32, 16, 8, 4, 2, 1].contains n then 64 + n else n
    if key b.2 < key a.2 then a :: b :: r else b :: placeClass a r

/-- The classes in the order in which they take positions. -/
def State.placing (s : State) : List (Nat × Nat) :=
  let all := ([0, 1].map fun k => (k, s.classQuads k)) ++ [(0xF, s.freeQuads)] ++
    [3, 6, 4, 7, 8, 2, 5].map fun k => (k, s.classQuads k)
  (all.filter fun a => a.2 != 0).foldl (fun l a => placeClass a l) []

/-- Insert a class before the first that holds fewer quads. -/
def placeLarger (a : Nat × Nat) : List (Nat × Nat) → List (Nat × Nat)
  | [] => [a]
  | b :: r => if b.2 < a.2 then a :: b :: r else b :: placeLarger a r

/-- The positions of a class of n quads on each stack, from an offset on: their gaps differ by at most one (R520). -/
def seats (n j : Nat) : List Nat := (upto n).map fun k => (64 * k + j) / n

/-- Seat classes one after the other at the first offset at which all positions are free; none where one finds no such offset. The
answer pairs positions with classes. -/
def seatAll : List (Nat × Nat) → List (Nat × Nat) → Option (List (Nat × Nat))
  | [], taken => some taken
  | (c, n) :: r, taken =>
    match (upto 64).find? fun j => (seats n j).all fun p => !taken.any fun e => e.1 == p with
    | some j => seatAll r (taken ++ (seats n j).map fun p => (p, c))
    | none => none

/-- Seat classes at the first free positions from their even places on. -/
def seatNear (order : List (Nat × Nat)) : List (Nat × Nat) :=
  order.foldl (fun taken a =>
    (seats a.2 0).foldl (fun taken p =>
      match ((upto 64).map fun d => (p + d) % 64).find? fun q => !taken.any fun e => e.1 == q with
      | some q => taken ++ [(q, a.1)]
      | none => taken) taken) []

/-- A class that takes positions one after the other: its code and quads, how many are still to be placed, and its first and last
position so far. -/
structure Seat where
  cls : Nat
  quads : Nat
  left : Nat
  ends : Option (Nat × Nat)
  deriving DecidableEq, Repr

/-- The largest gap of a class whose gaps differ by at most one. -/
def Seat.wide (a : Seat) : Nat := ceilDiv 64 a.quads

/-- The last position at which a class must take its next place. -/
def Seat.due (a : Seat) : Nat :=
  match a.ends with
  | some (_, z) => z + a.wide
  | none => a.wide - 1

/-- Whether a class may take position p. -/
def Seat.may (a : Seat) (p : Nat) : Bool :=
  a.left != 0 && match a.ends with
    | some (_, z) => decide (z + 64 / a.quads ≤ p)
    | none => true

/-- A class takes position p. -/
def Seat.take (a : Seat) (p : Nat) : Seat :=
  { a with left := a.left - 1, ends := some ((a.ends.map Prod.fst).getD p, p) }

/-- The gaps of a class that has all its places close well over the end of the cycle. -/
def Seat.closes (a : Seat) : Bool :=
  match a.ends with
  | some (f, z) => a.quads == 1 || (decide (64 / a.quads ≤ 64 - z + f) && decide (64 - z + f ≤ a.wide))
  | none => true

/-- Put a class among others in the order of their due positions. -/
def placeDue (a : Seat) : List Seat → List Seat
  | [] => [a]
  | b :: r => if a.due ≤ b.due then a :: b :: r else b :: placeDue a r

/-- What can stand at position p for classes that have taken places before it: one of the classes that may, the most urgent first, or
FREE where enough positions are left; nothing where a class has missed its place. -/
def seatChoices (p : Nat) (classes : List Seat) : List (Option Nat) :=
  if classes.any fun a => a.left != 0 && decide (a.due < p) then []
  else
    (((classes.filter fun a => a.may p).foldr placeDue []).map fun a => some a.cls) ++
      if p + (classes.map fun a => a.left).sum < 64 then [none] else []

/-- Look for positions by which the gaps of every class differ by at most one (R520), position by position, the number bounding the
search. A half-built table is its next position, its classes, and the positions given. -/
def seatSearch : Nat → List (Nat × List Seat × List (Nat × Nat)) → Option (List (Nat × Nat))
  | 0, _ => none
  | _, [] => none
  | n + 1, (p, classes, taken) :: rest =>
    if p = 64 then
      if classes.all fun a => a.left == 0 && a.closes then some taken else seatSearch n rest
    else
      seatSearch n (((seatChoices p classes).map fun c => match c with
        | some c => (p + 1, classes.map fun a => if a.cls = c then a.take p else a, taken ++ [(p, c)])
        | none => (p + 1, classes, taken)) ++ rest)

/-- The positions given to the classes: with FREE among them, or with FREE taking what is left, or as a search finds them; where it finds
none, and for some shares there is none, near the even places (R520; DESIGN CHOICE, log entry 10). -/
def seating (order : List (Nat × Nat)) : List (Nat × Nat) :=
  let classes := order.filter fun a => a.1 != 0xF
  let byEven := (seatAll order []).orElse fun _ => (seatAll classes []).orElse fun _ =>
    seatAll (classes.foldl (fun l a => placeLarger a l) []) []
  (byEven.orElse fun _ => seatSearch 20000 [(0, classes.map fun a => ⟨a.1, a.2, a.2, none⟩, [])]).getD (seatNear classes)

/-- Word i of a table: slot 8 i + j lies at position (8 i + j) / 4 of its stack. -/
def tableWord (seating : List (Nat × Nat)) (i : Nat) : Word :=
  word ((upto 8).foldl (fun a j => a + findD seating 0xF ((8 * i + j) / 4) * 16 ^ j) 0)

/-- The firmware builds the shadow table from the shares in force and requests its swap in slot i; while a swap is pending it
waits for that one (R519, R528). -/
def State.rebuildTable (s : State) (i : Nat) : State :=
  if s.rb .arb 0 0x20 31 then { s with arb := { s.arb with rebuild := true } }
  else
    let places := seating s.placing
    let s := s.each (upto 32) fun s k => s.setReg .arb 0 (0x140 + k) (tableWord places k)
    ({ s with arb := { s.arb with rebuild := false, swapAt := some i } }).setRb .arb 0 0x20 31 true

/-- An applied ARB group returns every moved quad, and a table of the new shares follows (R520, R525). -/
def State.sharesApplied (s : State) : State :=
  ({ s with arb := { s.arb with moved := s.arb.moved.map fun (e : Nat × Moved) => (e.1, { e.2 with count := 0 }) } }).rebuildTable s.slotNow

/-! ## Starvation and late grants (R523-R525, R549) -/

/-- A class other than SEQ and BSEQ starved in slot i: one quad of FREE moves to it (R525). -/
def State.rebalance (s : State) (k i : Nat) : State :=
  let t := slotNs i
  let m := { s.movedOf k with starvedAt := t }
  let s := { s with arb := { s.arb with moved := insertKey s.arb.moved k m } }
  if k ≤ 1 || !s.rb .arb 0 0 31 || s.freeQuads = 0 || m.movedAt.any (fun u => decide (t < u + 10 ^ 6)) then s
  else
    let s := { s with arb := { s.arb with
      moved := insertKey s.arb.moved k { m with count := m.count + 1, movedAt := some t } } }
    s.rebuildTable i

/-- A request has waited past STARVE of its class in slot i (R524). -/
def State.starve (s : State) (q : ArbReq) (k i : Nat) : State :=
  let x := s.arbMaster q.master
  let first := !x.noticed
  let s := s.setArbMaster q.master
    { x with starved := true, starves := min 0xFFFF (x.starves + 1), noticed := true }
  let s := if first then s.notify 0x0506 .arb 0 [q.master, slotNs (i - q.since)] else s
  s.rebalance k i

/-- Whether a request must be granted within 1.2 µs: of a sequencer, or of RECOMP (R523). -/
def boundedClass (k : Nat) : Bool := k ≤ 1 || k == 7

/-- A request within grant has waited longer than 1.2 µs (R549). -/
def State.grantLate (s : State) (m : Nat) : State :=
  let (lasting, s) := s.countFault .arbGrant m
  if lasting then s.raiseFault 28 else s

/-- A request that waits in slot i: whether it has starved, whether it is late. -/
def State.overdue (s : State) (q : ArbReq) (k i : Nat) : Bool × Bool :=
  (decide (s.starveBound k < slotNs (i - q.since)) && !q.starved,
   boundedClass k && decide (3072 < i - q.since) && !q.late)

/-! ## Slots (R521, R522) -/

/-- The admitted slots of a master per 64 table cycles; none for a master without a grant. -/
def State.grantOf (s : State) (m : Nat) : Option Nat :=
  (sequencerOf m).map fun q => s.rf q.obj q.num 0x65 31 16

/-- The slots granted to a master, regenerations left out, in the 64 table cycles that end with slot i. -/
def ArbMaster.inWindow (x : ArbMaster) (i : Nat) : List Nat := x.recent.filter fun j => decide (i < j + 16384)

/-- A sequencer would exceed its grant: it is frozen and its requests are withdrawn (R301, R522, R550). -/
def State.grantViolation (s : State) (m : Nat) : State :=
  let s := match sequencerOf m with
    | some q => s.freezeSeq q
    | none => s
  s.freeze m 2

/-- Whether one more slot would take a master above its grant. -/
def State.exceeds (s : State) (m i : Nat) : Bool :=
  match s.grantOf m with
  | some g => decide (g ≤ ((s.arbMaster m).inWindow i).length)
  | none => false

/-- Whether request a goes before request b: the older, and at equal age the lower master. -/
def ArbReq.before (a b : ArbReq) : Bool :=
  decide (a.since < b.since) || (a.since == b.since && decide (a.master < b.master))

/-- The first of a list of requests to be granted. -/
def oldestReq : List ArbReq → Option ArbReq
  | [] => none
  | a :: r => match oldestReq r with
    | some b => some (if a.before b then a else b)
    | none => some a

/-- The request that slot i goes to. -/
def State.slotTaker (s : State) (i : Nat) : Option ArbReq :=
  let here := s.arb.queue.filter fun q => q.unit % 4 == i % 4
  match oldestReq (here.filter fun q => arbClass q.master == some (s.slotClass i)) with
  | some q => some q
  | none => oldestReq here

/-- A waiting request that a slot of its class passes by for the first time counts in WAITS (R526). -/
def State.passBy (s : State) (i : Nat) : State :=
  let missed := s.arb.queue.filter fun q => q.unit % 4 == i % 4 && arbClass q.master == some (s.slotClass i) && !q.passed
  let s := s.each missed fun s q =>
    let x := s.arbMaster q.master
    s.setArbMaster q.master { x with waits := min (2 ^ 32 - 1) (x.waits + 1) }
  { s with arb := { s.arb with queue := s.arb.queue.map fun q =>
      if q.unit % 4 == i % 4 && arbClass q.master == some (s.slotClass i) then { q with passed := true } else q } }

/-- A slot has carried a 576-bit unit of the point store for a master: a channel sequencer, or a firmware task that loads the caches of
sequencers that are to run (R242, R298). -/
def State.unitCarried (s : State) (m unit : Nat) : State :=
  let note (s : State) (q : SeqRef) : State :=
    let x := s.seqx q
    let hit := (x.wanted.filter fun k => s.storeGranule q.num k == unit / 4).map fun k => 4 * k + unit % 4
    if hit.isEmpty then s else s.setSeqx q { x with units := x.units ++ hit.filter fun u => !x.units.contains u }
  match m / 4096 with
  | 3 => note s (.chan (m % 4096))
  | 2 => s.each s.seqs fun s e => if s.seqRuns (.chan e.1) then s else note s (.chan e.1)
  | _ => s

/-- Slot i is granted to a request, whose wait is counted and whose unit it carries. -/
def State.grantSlot (s : State) (q : ArbReq) (i : Nat) : State :=
  let s := s.unitCarried q.master q.unit
  let s := { s with arb := { s.arb with
    queue := s.arb.queue.erase q, granted := (s.arb.granted.filter fun j => decide (i < j + 2560000)) ++ [i] } }
  let x := s.arbMaster q.master
  let recent := if q.regen then x.inWindow i else x.inWindow i ++ [i]
  let s := s.setArbMaster q.master { x with
    grants := (x.grants + 1) % 2 ^ 64, longest := min (2 ^ 32 - 1) (max x.longest (slotNs (i - q.since))),
    recent := recent, usedMax := max x.usedMax recent.length }
  match arbClass q.master with
  | some k =>
    let (starved, late) := s.overdue q k i
    let s := if starved then s.starve q k i else s
    if late then s.grantLate q.master else s
  | none => s

/-- Slot i goes to the first request within its grant: a sequencer whose request would exceed it is frozen, and the slot goes to
the next (R521, R522). The number bounds how many are turned away. -/
def State.giveSlot (i : Nat) : Nat → State → State
  | 0, s => s
  | fuel + 1, s =>
    match s.slotTaker i with
    | some q =>
      if !q.regen && s.exceeds q.master i then State.giveSlot i fuel (s.grantViolation q.master) else s.grantSlot q i
    | none => s

/-- Slot i is decided. -/
def State.decideSlot (s : State) (i : Nat) : State := (State.giveSlot i (s.arb.queue.length + 1) s).passBy i

/-- Decide the slots before slot i; slots in which nothing waits stay idle. -/
def State.runSlots (i : Nat) : Nat → State → State
  | 0, s => { s with arb := { s.arb with slot := max i s.arb.slot } }
  | fuel + 1, s =>
    if i ≤ s.arb.slot || s.arb.queue.isEmpty then { s with arb := { s.arb with slot := max i s.arb.slot } }
    else
      let k := s.arb.slot
      let s := s.decideSlot k
      State.runSlots i fuel { s with arb := { s.arb with slot := k + 1 } }

/-- Decide the slots before slot i: each waiting request takes at most four. -/
def State.slotsTo (s : State) (i : Nat) : State := State.runSlots i (4 * s.arb.queue.length + 4) s

/-! ## Events -/

/-- DRAM_REQUEST: a master asks for the burst of a 576-bit unit, whose number fixes the stack, in slot i (R515, R522). Units of the
point store are numbered from its first entry, four entries to a unit (R242). -/
def State.dramRequest (s : State) (m unit : Nat) (regen : Bool) (i : Nat) : State :=
  let s := s.slotsTo i
  if (arbClass m).isNone || s.isFrozen m then s
  else if !regen && s.exceeds m i then s.grantViolation m
  else { s with arb := { s.arb with queue := s.arb.queue ++ [⟨m, unit, i, regen, false, false, false⟩] } }

/-- Mark a waiting request. -/
def State.markReq (s : State) (q : ArbReq) (f : ArbReq → ArbReq) : State :=
  { s with arb := { s.arb with queue := s.arb.queue.map fun p => if p == q then f p else p } }

/-- ARB_GRANT_LATE by slot i: a waiting request of a master within its grant, or of RECOMP, is late. -/
def State.arbGrantLate (s : State) (m i : Nat) : State :=
  let s := s.slotsTo i
  match s.arb.queue.find? (fun q => q.master == m && (match arbClass m with
    | some k => (s.overdue q k i).2
    | none => false)) with
  | some q => (s.markReq q fun p => { p with late := true }).grantLate m
  | none => s

/-- STARVATION by slot i: a waiting request of a master has starved. -/
def State.starvation (s : State) (m i : Nat) : State :=
  let s := s.slotsTo i
  match arbClass m with
  | none => s
  | some k =>
    match s.arb.queue.find? (fun q => q.master == m && (s.overdue q k i).1) with
    | some q => (s.markReq q fun p => { p with starved := true }).starve q k i
    | none => s

/-- QUAD_RETURN by slot i: a quad moved to class k returns to FREE after REBAL_HOLD without starvation (R525). -/
def State.quadReturn (s : State) (k i : Nat) : State :=
  let s := s.slotsTo i
  let m := s.movedOf k
  if m.count = 0 || slotNs i < max (m.movedAt.getD 0) m.starvedAt + s.rf .arb 0 0 15 0 * 10 ^ 6 then s
  else
    let s := { s with arb := { s.arb with moved := insertKey s.arb.moved k { m with count := m.count - 1 } } }
    s.rebuildTable i

/-- TABLE_SWAP at the table-cycle boundary that begins slot i: the requested swap takes effect (R519, R528). -/
def State.tableSwap (s : State) (i : Nat) : State :=
  let s := s.slotsTo i
  match s.arb.swapAt with
  | none => s
  | some r =>
    if i % 256 ≠ 0 || i ≤ r then s
    else
      let s := s.each (upto 32) fun s k => s.setReg .arb 0 (0x100 + k) (s.reg .arb 0 (0x140 + k))
      let s := ({ s with arb := { s.arb with swapAt := none } }).setRb .arb 0 0x20 31 false
      let s := s.count .arb 0 0x21
      if s.arb.rebuild then s.rebuildTable i else s

/-! ## ARB.READ and ARB.CLEAR (R526, R641) -/

/-- Whether an identifier names a master of R24; a session only while it is open. -/
def State.isMaster (s : State) (m : Nat) : Bool :=
  let n := m % 4096
  match m / 4096 with
  | 1 => (s.session n).isSome
  | 2 => true
  | 3 => n < 512 | 4 => n < 8 | 5 => n < 72 | 6 => n < 8
  | 7 => n == 0 | 8 => n == 0 | 9 => n == 0 | 0xA => n == 0 | 0xB => n == 0
  | _ => false

/-- The master a command of R641 names. -/
def State.masterOf (s : State) (r : Req) : Except Denial Nat := do
  require (r.body.length == 1) .format
  require (fld (wget r.body 0) 31 16 == 0) .reserved
  let m := fld (wget r.body 0) 15 0
  demand (s.isMaster m) { err := .noObject, inst := m }
  return m

/-- ARB.READ (R526). -/
def readArb (s : State) (r : Req) : Work := do
  let m ← s.masterOf r
  let s := s.slotsTo s.slotNow
  let x := s.arbMaster m
  return { state := s,
           body := wordsOf 2 x.grants ++ [word x.waits, word x.longest,
             word (x.starves * 2 ^ 16 + x.starved.toNat * 2 ^ 15), word ((s.grantOf m).getD 0 * 2 ^ 16 + min 0xFFFF x.usedMax)] }

/-- ARB.CLEAR (R524, R526). USED_MAX counts anew from the slots of the present window. -/
def clearArb (s : State) (r : Req) : Work := do
  let m ← s.masterOf r
  let s := s.slotsTo s.slotNow
  let x := s.arbMaster m
  let used := (x.inWindow s.slotNow).length
  let x := { x with waits := 0, longest := 0, starves := 0, starved := false, noticed := false, usedMax := used }
  return { state := s.setArbMaster m x }

/-- The slots granted over the last 1 ms, per mille, of the slots up to now (R517). -/
def State.arbLoad (s : State) : Nat :=
  let s := s.slotsTo s.slotNow
  (s.arb.granted.filter fun j => decide (s.slotNow < j + 2560000)).length * 1000 / 2560000

/-- Bit k set while a requester of class k is starved, at the slots up to now (R517, R524). -/
def State.arbStarved (s : State) : Nat :=
  let s := s.slotsTo s.slotNow
  ((upto 9).filter fun k => s.arb.queue.any fun q =>
    (q.starved || (s.overdue q k s.slotNow).1) && arbClass q.master == some k).foldl
    (fun a k => a + 2 ^ k) 0

end Sys2Proof.Machine
end

