-- ==== Sys2Proof/Machine/FieldRules.lean ====
section
/-!
DEFINITION. What the fields of every object ask of a write or a staging beside R13: their own limits, when their owning block
runs (R31), and the values of the fields the device derives when they are read.
-/

namespace Sys2Proof.Machine

/-! ## When the owning block of a class K field runs (R31) -/

/-- Egress is enabled (R31, R419). -/
def State.egressOn (s : State) : Bool := s.rb .spool 0 8 31

/-- An enabled route names pattern p as its source or as its gate source. -/
def State.patternRouted (s : State) (p : Nat) : Bool :=
  s.enabledRoutes.any fun r =>
    s.routeSrc r == mkId 7 p || (s.gateMode r != 0 && s.rf .route r 2 31 16 == mkId 7 p)

/-- The owning block of object n runs, so that its class K fields are locked (R31, R264, R419, R718). A channel counts as armed
while it is ARMING, ARMED, DISARMING or HELD. -/
def State.blockRuns (s : State) (o : Obj) (n : Nat) : Bool :=
  match o with
  | .chan | .loop | .outer | .repet | .profile => s.busyChan n
  | .notch => (upto 8).any fun k => s.busyChan (8 * n + k)
  | .seq => s.seqRuns (.chan n)
  | .bseq => s.seqRuns (.bank n)
  | .sweep => s.expanding n || s.sweepInUse n
  | .acq => s.acqRuns n
  | .pattern => s.patternRouted n
  | .route => s.rb .route n 0 31
  | .fifo => s.egressOn && s.rb .spool 0 0 (16 + n)
  | .spool => s.egressOn
  | .journal => s.logOn
  | .aout => s.aoutPlaying n
  | .hk => s.rb .hk 0 0x20 31
  | _ => false

/-! ## The limits of fields -/

/-- A limit a field sets on its words: E_LIMIT where it does not hold. -/
def limit (b : Bool) : Except Denial Unit := require b .limit

/-- The limits of CHAN (R58, R60, R64, R65, R220, R478, R482, R486). -/
def chanLimit (s : State) (c f : Nat) (w : Word) : Except Denial Unit :=
  match f with
  | 0x00 => limit (fld w 20 19 ≤ 1)
  | 0x07 => limit (fld w 15 14 ≤ 1)
  | 0x0B => limit (fld w 31 30 ≤ 1)
  | 0x10 => do
    limit (s.spOk c w)
    limit ((s.pendingViews ⟨.chan, c, 0⟩).all fun t => t.spOk c w)
  | 0x50 => do
    limit (fld w 29 28 ≤ 2)
    limit (fld w 15 0 == 0 || (50 ≤ fld w 15 0 && fld w 15 0 ≤ 10000))
    require (bitAt w 31 || !s.linkEn c || !s.busyChan c) .busy
    require (!bitAt w 30 || s.mode c == 0) .busy
  | 0x51 => limit (fld w 31 16 != 0 && fld w 15 0 != 0)
  | _ => .ok ()

/-- The limits of BANK (R211, R446, R448). -/
def bankLimit (s : State) (b f : Nat) (w : Word) : Except Denial Unit :=
  match f with
  | 0x30 => limit (fld w 31 22 != 0 && fld w 21 12 < fld w 31 22 && fld w 11 8 != 0)
  | 0x31 => limit (fld w 31 16 != 0)
  | 0x40 => do
    limit (fld w 29 28 ≤ 2)
    require ((!bitAt w 31 && bitAt w 30) || !(bankChannels b).any s.busyChan) .busy
  | _ => .ok ()

/-- The limits of LOOP (R139). -/
def loopLimit (f : Nat) (w : Word) : Except Denial Unit :=
  if f < 0x40 && f % 8 = 0 then
    limit (fld w 31 30 ≤ 2 && fld w 29 28 ≤ 2 && fld w 25 22 != 0 && 608 ≤ fld w 15 0 && fld w 15 0 ≤ 1024)
  else .ok ()

/-- The limits of REPET (R163, R164). -/
def repetLimit (s : State) (c f : Nat) (w : Word) : Except Denial Unit :=
  match f with
  | 0x00 =>
    let n := fld w 31 21 + 1
    let d := fld w 20 11 + 1
    limit (8 ≤ n && 2 ≤ d && fld w 10 0 ≤ n * d / 2)
  | 0x01 => require (!bitAt w 29 || !s.busyChan c) .busy
  | 0x02 => limit (isFin w)
  | 0x03 => limit (fle 0 w && fle w 0x3F800000)
  | _ => .ok ()

/-- The codes of PROFILE that are refused (R182). -/
def profileLimit (f : Nat) (w : Word) : Except Denial Unit :=
  match f with
  | 0x10 => limit (fld w 15 14 ≤ 1 && fld w 13 12 ≤ 2)
  | 0x17 | 0x1A | 0x1D => limit (fld w 15 14 ≤ 2)
  | _ => .ok ()

/-- A sample rate lies in the span of R281. -/
def rateOk (incr : Nat) : Bool := 115292151 ≤ incr && incr ≤ 2 ^ 60

/-- The limits of SEQ (R262, R281). -/
def seqLimit (s : State) (c f : Nat) (ws : List Word) : Except Denial Unit :=
  match f with
  | 0x00 => limit (fld (wget ws 0) 31 30 ≤ 2 && fld (wget ws 0) 29 28 ≤ 2 && fld (wget ws 0) 16 8 ≤ 256)
  | 0x50 => limit (rateOk (ofWords ws) && ofWords ws ≤ s.wide .seq c 2 2)
  | _ => .ok ()

/-- The limits of BSEQ (R315). -/
def bseqLimit (f : Nat) (w : Word) : Except Denial Unit :=
  match f with
  | 0x00 => limit (fld w 31 30 ≤ 2 && (!bitAt w 28 || bitAt w 29))
  | 0x01 =>
    let v := fld w 18 0
    limit (v == 1 || v == 2 || (v % 4 == 0 && v != 0 && v ≤ 4 * 65536))
  | _ => .ok ()

/-- The limits of SWEEP (R246, R247, R718): p holds the fields as they will stand when the write takes effect. -/
def sweepLimit (s p : State) (d f : Nat) (w : Word) : Except Denial Unit :=
  match f with
  | 0x00 => limit (fld w 31 28 ≤ 6)
  | 0x0A => do
    limit (!(bitAt w 31 && bitAt w 30))
    require (!p.expanding d) .busy
    require (!(bitAt w 31 || bitAt w 30) || !s.sweepInUse d) .busy
    if bitAt w 31 then p.expandCheck d (p.sweepFields d) else pure ()
  | _ => .ok ()

/-- The limits of ACQ (R365, R366). -/
def acqLimit (f : Nat) (w : Word) : Except Denial Unit :=
  match f with
  | 0x00 => limit (fld w 31 30 ≤ 2)
  | 0x02 | 0x08 => limit (isFin w)
  | 0x03 | 0x09 | 0x0B | 0x0C => limit (isFin w && fle 0 w)
  | 0x04 => limit (fld w 9 0 ≤ 896)
  | 0x05 => limit (1 ≤ fld w 23 0 && fld w 23 0 ≤ 262144)
  | 0x0A => limit (fld w 30 29 ≤ 2 && fld w 15 0 != 0)
  | _ => .ok ()

/-- The limits of PATTERN (R394, R395): p holds the terms as they will stand. -/
def patternLimit (p : State) (n f : Nat) (w : Word) : Except Denial Unit :=
  match f with
  | 0x00 => limit (fld w 15 0 != 0 && (!bitAt w 31 || (upto 64).any fun g => p.regAt .pattern n (0x10 + g) 1 != 0))
  | _ => .ok ()

/-- The limits of FIFO (R418, R419). -/
def fifoLimit (n f : Nat) (w : Word) : Except Denial Unit :=
  match f with
  | 0x00 => limit (16 ≤ fld w 31 24 && fld w 31 24 ≤ 248 && fld w 15 0 != 0)
  | 0x01 => limit (1 ≤ fld w 31 16 && fld w 31 16 ≤ (if n = 8 then 1024 else 896) && fld w 15 0 < fld w 31 16)
  | _ => .ok ()

/-- The limits of SPOOL (R420, R421). -/
def spoolLimit (s : State) (f : Nat) (w : Word) : Except Denial Unit :=
  match f with
  | 0x00 => do
    limit (1 ≤ fld w 31 25 && fld w 31 25 ≤ 96)
    require (fld w 31 25 == s.rf .spool 0 0 31 25 || s.wide .spool 0 0x21 2 == 0) .busy
  | 0x01 => limit (1 ≤ fld w 31 20 && fld w 31 20 ≤ 1150 && 16 ≤ fld w 19 10)
  | 0x02 => limit (fld w 31 16 ≤ s.rf .spool 0 0 31 25 * 64 && fld w 15 0 < fld w 31 16)
  | _ => .ok ()

/-- The limits of JOURNAL (R431, R432): p holds GEOM and REC_CFG as they will stand. -/
def journalLimit (s p : State) (f : Nat) (w : Word) : Except Denial Unit :=
  let room := limit (1056 ≤ p.rf .journal 0 3 31 24 * 2 ^ p.rf .journal 0 1 31 28)
  match f with
  | 0x00 => limit (fld w 31 28 ≤ 2 && fld w 27 25 ≤ 4)
  | 0x01 => do
    limit (8 ≤ fld w 31 28 && fld w 31 28 ≤ 14 && fld w 27 24 ≤ 10)
    room
  | 0x03 => do
    limit (1 ≤ fld w 31 24 && fld w 31 24 ≤ 127 && 1 ≤ fld w 15 0 && fld w 15 0 ≤ 60000)
    room
  | 0x08 => require (!bitAt w 31 || s.rb .journal 0 0x20 31) .notReady
  | _ => .ok ()

/-- DIFF = 1 of input n would take away the input after it, which a route or an outer loop uses (R669). -/
def State.pairInUse (s : State) (n : Nat) : Bool :=
  s.enabledRoutes.any (fun r => s.routeDst r == mkId 0xA (n + 1)) ||
    (upto 512).any fun c => s.busyChan c && s.rf .outer c 1 31 30 == 2 && s.rf .outer c 1 29 24 == n + 1

/-- The limits of HK (R663, R666, R668, R669): p holds DIFF as it will stand. Fields 0x10 to 0x4F are SEQ, 0x60 to 0x7F INCFG. -/
def hkLimit (s p : State) (f : Nat) (w : Word) : Except Denial Unit :=
  if f = 0 then require (!(upto 8).any s.aoutPlaying) .busy
  else if f = 1 then limit (isFin w && fle 0x3F800000 w && fle w 0x40266666)
  else if 0x10 ≤ f && f < 0x50 then limit (p.hkInput (fld w 31 27))
  else if 0x60 ≤ f && f < 0x80 then do
    let n := f - 0x60
    limit (!(bitAt w 31 && n % 2 == 1) && fld w 30 28 ≤ 4 && 1 ≤ fld w 27 25 && fld w 27 25 ≤ 5 && fld w 24 21 ≤ 11)
    require (!bitAt w 31 || !s.pairInUse n) .busy
  else .ok ()

/-- The limits of AOUT (R678). -/
def aoutLimit (f : Nat) (w : Word) : Except Denial Unit :=
  match f with
  | 0x00 => limit (fld w 30 29 ≤ 2 && fld w 28 27 ≤ 2)
  | 0x01 => limit (fld w 31 16 + fld w 15 0 ≤ 65535)
  | _ => .ok ()

/-- The limits of DEV (R530, R531, R613). -/
def devLimit (f : Nat) (w : Word) : Except Denial Unit :=
  if 0x100 ≤ f && f < 0x109 then limit (fld w 31 16 != 0 && fld w 15 0 != 0)
  else match f with
    | 0x142 => limit (fld w 15 14 ≤ 2)
    | 0x183 => limit (1500 ≤ fld w 15 0 && fld w 15 0 ≤ 9216)
    | 0x184 => limit (fld w 31 16 ≤ 600)
    | _ => .ok ()

/-- The limits of SYNC (R500). -/
def syncLimit (f : Nat) (w : Word) : Except Denial Unit :=
  match f with
  | 0 => limit (fld w 31 30 ≤ 2)
  | 1 => limit (fld w 23 0 != 0)
  | 2 => limit (16 ≤ fld w 15 0)
  | _ => .ok ()

/-- The limits of ARB (R517). -/
def arbLimit (f : Nat) (w : Word) : Except Denial Unit :=
  if f = 0 then limit (fld w 15 0 != 0)
  else limit (fld w 23 16 ≤ 64 && fld w 15 0 != 0)

/-- The own limits of a field (R593) on the words a write or a staging gives it. p is the state in which every write of class K
fields accepted before, and those of the same message, have taken effect. -/
def fieldLimit (s p : State) (o : Obj) (n f : Nat) (ws : List Word) : Except Denial Unit :=
  let w := wget ws 0
  match o with
  | .dev => devLimit f w
  | .chan => chanLimit s n f w
  | .bank => bankLimit s n f w
  | .loop => loopLimit f w
  | .repet => repetLimit s n f w
  | .profile => profileLimit f w
  | .seq => seqLimit s n f ws
  | .bseq => bseqLimit f w
  | .sweep => sweepLimit s p n f w
  | .acq => acqLimit f w
  | .pattern => patternLimit p n f w
  | .trigpin => if f = 0 then limit (fld w 27 26 ≤ 1 && fld w 15 0 != 0) else .ok ()
  | .route =>
    if f = 0 then limit (fld w 30 28 ≤ 3)
    else if f = 0x10 then limit (fld w 15 0 < s.rf .route n 4 15 0)
    else .ok ()
  | .fifo => fifoLimit n f w
  | .spool => spoolLimit s f w
  | .journal => journalLimit s p f w
  | .hk => hkLimit s p f w
  | .aout => aoutLimit f w
  | .time => if f = 0 then limit (fld w 31 30 ≤ 2 && fld w 29 28 ≤ 2) else .ok ()
  | .sync => syncLimit f w
  | .arb => arbLimit f w
  | _ => .ok ()

/-! ## Fields the device derives when they are read -/

/-- NOTCH.USERS and OCTET.STATE.NOTCH (R170, R711): the channels of an octet with NOTCH_EN = 1 applied. -/
def State.notchUsers (s : State) (o : Nat) : Nat :=
  ((upto 8).map fun k => if s.notchEn (8 * o + k) then 2 ^ k else 0).sum

/-- OCTET.STATE (R711). -/
def State.octetWord (s : State) (o : Nat) : Word :=
  let held := ((upto 8).map fun k => if s.chState (8 * o + k) = chHeld then 2 ^ k else 0).sum
  word (((s.engineOf o).getD 0xFF) * 2 ^ 24 + held * 2 ^ 16 + s.notchUsers o * 2 ^ 8)

/-- ENGINE.LOAD (R144): 24 slots of housekeeping and the cost of each channel the engine serves. -/
def State.engineLoad (s : State) (n : Nat) : Word :=
  let chans : List Nat := match s.serves n with
    | some o => octetChannels o
    | none => []
  let ops := (chans.map fun c => s.rf .loop c 0x45 31 24).sum
  let crit := (chans.map fun c => s.rf .loop c 0x45 23 16).foldl max 0
  word ((24 + ops) * 2 ^ 16 + crit * 2 ^ 8)

/-- The words of LOCK (R710). -/
def State.lockWord (s : State) (i f : Nat) : Word :=
  match find s.faults.locks i with
  | none => 0
  | some l =>
    match f with
    | 0x20 => word ((if l.leaseEnds.isSome then 1 else 2) * 2 ^ 30 + objCode l.obj * 2 ^ 16 + l.inst)
    | 0x21 => word l.owner
    | _ => match l.leaseEnds with
      | some t => word ((t - s.clock) / 10 ^ 6)
      | none => 0

/-- Half w of descriptor word i of a channel: 0 is the upper half. -/
def State.descHalf (s : State) (c i w : Nat) : Word := word (s.descField c i (63 - 32 * w) (32 - 32 * w))

/-- A field of CHAN that shows the head's descriptor or the mode (R66, R67, R99, R486). -/
def State.chanDerived (s : State) (c f w : Nat) : Option Word :=
  let shown (v : Word) : Option Word := some (if s.trained c then v else 0)
  if f = 0x22 then some (word (s.inert c))
  else if f = 0x26 then shown (word (s.rangeCount c false * 2 ^ 27 + s.rangeCount c true * 2 ^ 22))
  else if 0x30 ≤ f && f < 0x50 then
    let current := decide (0x40 ≤ f)
    let n := f % 16
    shown (if n < s.rangeCount c current then s.descHalf c (rangeWord current n + w / 2) (w % 2) else 0)
  else if f = 0x58 then
    some (if w = 0 then word (s.descField c 0 31 0) else word (s.descField c 1 63 32))
  else if 0x200 ≤ f && f < 0x300 then shown (s.descHalf c (f - 0x200) w)
  else none

/-- The value of word w of a field that the device derives when it is read, none where the field is stored. -/
def State.derivedWord (s : State) (o : Obj) (n f w : Nat) : Option Word :=
  match o, f with
  | .chan, _ => s.chanDerived n f w
  | .loop, 0x44 => some (word (s.descField n 2 63 32))
  | .outer, 0x24 => some (word (s.sourceAge n))
  | .octet, 0x20 => some (s.octetWord n)
  | .notch, 0x10 => some (word (s.notchUsers n))
  | .engine, 0x01 => some (s.engineLoad n)
  | .bseq, 0x67 =>
    some (word (((upto 32).map fun k => if s.mode (64 * n + 32 * (1 - w) + k) = 8 then 2 ^ k else 0).sum))
  | .bank, 0x41 =>
    some (word (((find s.bankLines n).any fun l => decide (s.clock < l.lowUntil)).toNat * 2 ^ 31))
  | .lock, _ => some (s.lockWord n f)
  | .trigpin, 0x20 => some (word ((s.pinLevel n s.frameCycle).toNat * 2 ^ 31))
  | .dev, 0x185 => some (word s.openSessions)
  | .dev, 0x186 => some (word (40000 - s.rateGranted))
  | .port, 0x20 => if n = 1 then some (putBit (s.reg .port 1 0x20) 26 s.ringBlocked) else none
  | .time, 0x20 => some ((wordsOf 2 s.now).getD w 0)
  | .time, 0x21 => some s.timeStatus
  | .arb, 0x20 => some (putFld (s.reg .arb 0 0x20) 30 22 s.arbStarved)
  | .arb, 0x22 => some (word (s.arbLoad * 2 ^ 22))
  | _, _ => none

end Sys2Proof.Machine
end

