-- ==== Sys2Proof/Machine/Access.lean ====
section
/-!
DEFINITION. The three access commands of every object type: items, their checks, reads in the applied and the staged view,
live and class K writes, staging (R12-R17, R26-R36, R592-R594, R624, R709).
-/

namespace Sys2Proof.Machine

/-! ## Items (R592) -/

/-- An item: object type code, VIEW, the reserved bits of its head, object number, first field, word count, data. -/
structure Item where
  obj : Nat
  view : Bool
  reserved : Nat
  inst : Nat
  field : Nat
  count : Nat
  data : List Word
  deriving DecidableEq, Repr

/-- The two head words of an item (R592). -/
def Item.head (i : Item) : List Word :=
  [word (i.obj * 2 ^ 24 + i.view.toNat * 2 ^ 23 + i.reserved * 2 ^ 16 + i.inst), word (i.field * 2 ^ 16 + i.count)]

/-- The item that two head words and its data spell. -/
def itemOf (a b : Word) (data : List Word) : Item :=
  ⟨fld a 31 24, bitAt a 23, fld a 22 16, fld a 15 0, fld b 31 16, fld b 15 0, data⟩

/-- The words of a list of items, as a write or staging request and a read reply carry them. -/
def encodeItems : List Item → List Word
  | [] => []
  | i :: r => i.head ++ i.data ++ encodeItems r

/-- Read n items from words; in a write or staging request the data follow each head. None if the words do not match. -/
def parseItems (withData : Bool) : Nat → List Word → Option (List Item)
  | 0, l => if l.isEmpty then some [] else none
  | n + 1, a :: b :: l =>
    let k := if withData then fld b 15 0 else 0
    if l.length < k then none
    else (parseItems withData n (l.drop k)).map fun r => itemOf a b (l.take k) :: r
  | _ + 1, _ => none

/-- The items of an access request (R624): N in word 0, 1 to 256. -/
def itemsOf (withData : Bool) (body : List Word) : Except Denial (List Item) :=
  match body with
  | [] => refuse .format
  | h :: l =>
    if fld h 31 16 != 0 then refuse .reserved
    else if fld h 15 0 < 1 || 256 < fld h 15 0 then refuse .format
    else match parseItems withData (fld h 15 0) l with
      | some r => .ok r
      | none => refuse .format

/-- The fields an item of k words from field f covers, each with its number of words; an error where a field does not exist
or the words do not end on a field boundary (R26, R593). -/
def fieldsCovered (row : Nat → Option FieldRow) : Nat → Nat → Nat → Except Err (List (Nat × FieldRow))
  | 0, _, _ => .error .format
  | fuel + 1, f, k =>
    match row f with
    | none => .error .noField
    | some r =>
      if k < r.words then .error .format
      else if k = r.words then .ok [(f, r)]
      else (fieldsCovered row fuel (f + 1) (k - r.words)).map fun l => (f, r) :: l

/-- A refusal that names an item, its object and a field. -/
def itemDenial (e : Err) (idx : Nat) (i : Item) (field : Nat) : Denial :=
  { err := e, item := idx, obj := i.obj, inst := i.inst, field := field }

/-- The object type an item names, and the fields it covers (R7, R26, R593). -/
def itemFields (write : Bool) (cmdObj idx : Nat) (i : Item) : Except Denial (Obj × List (Nat × FieldRow)) :=
  match objOfCode i.obj with
  | none => .error (itemDenial .noField idx i i.field)
  | some o =>
    if objCount o ≤ i.inst then .error (itemDenial .noObject idx i 0)
    else match fieldsCovered (if write then fieldRowForWrite o else fieldRow o) i.count i.field i.count with
      | .error .noField => .error (itemDenial .noField idx i i.field)
      | .error e => .error (itemDenial (if i.obj = cmdObj then e else .format) idx i i.field)
      | .ok l =>
        if i.reserved ≠ 0 then .error (itemDenial .reserved idx i i.field)
        else if i.obj ≠ cmdObj then .error (itemDenial .format idx i i.field)
        else if 2048 < i.count then .error (itemDenial .format idx i i.field)
        else .ok (o, l)

/-- The data of each covered field: field number, row, words. -/
def splitData : List (Nat × FieldRow) → List Word → List (Nat × FieldRow × List Word)
  | [], _ => []
  | (f, r) :: l, ws => (f, r, ws.take r.words) :: splitData l (ws.drop r.words)

/-- Whether a written word sets a bit no field uses (R13). -/
def reservedBits (r : FieldRow) (ws : List Word) : Bool :=
  (ws.zip r.used).any fun p => p.1.toNat &&& (2 ^ 32 - 1 - p.2) != 0

/-! ## Reads -/

/-- The staged value of a word, if a buffer holds one (R36). -/
def State.stagedWord (s : State) (o : Obj) (n f w : Nat) : Option Word :=
  s.commits.staging.findSome? fun g =>
    if g.ref.obj = o && g.ref.inst = n then
      (g.words.find? fun x => x.field == f && x.idx == w).map FieldWord.value
    else none

/-- The value a read returns for a word (R36): the applied value, one the device derives, or the staged one. -/
def State.readWord (s : State) (view : Bool) (o : Obj) (n f w : Nat) : Word :=
  let applied := (s.derivedWord o n f w).getD (s.regAt o n f w)
  if view then (s.stagedWord o n f w).getD applied else applied

/-- The words of a field as a read returns them: reserved bits read 0 (R12). -/
def State.readField (s : State) (view : Bool) (o : Obj) (n f : Nat) (row : FieldRow) : List Word :=
  (upto row.words).map fun w => s.readWord view o n f w &&& word (row.used.getD w 0)

/-- The data of one item of a read. -/
def State.readItem (s : State) (i : Item) (o : Obj) (fields : List (Nat × FieldRow)) : List Word :=
  i.head ++ fields.flatMap fun p => s.readField i.view o i.inst p.1 p.2

/-- Check and read the items of a read request in order (R593, R594). -/
def State.readItems (s : State) (cmdObj : Nat) : Nat → List Item → Except Denial (List Word)
  | _, [] => .ok []
  | idx, i :: r => do
    let (o, fields) ← itemFields false cmdObj idx i
    let rest ← s.readItems cmdObj (idx + 1) r
    return s.readItem i o fields ++ rest

/-- obj.READ (R592-R594, R624). -/
def readFields (obj : Nat) (s : State) (r : Req) : Work := do
  require (objOfCode obj).isSome .noCommand
  let items ← itemsOf false r.body
  let data ← s.readItems obj 0 items
  return { state := s, body := data }

/-! ## Writes -/

/-- What a write of a word with its value means under the classes of the word's fields (R14-R17, R709). -/
def State.writeAllowed (s : State) (o : Obj) (n f : Nat) (row : FieldRow) (ws : List Word) : Except Err Unit :=
  match row.cls with
  | .staged _ => .error .cls
  | .ro => .error .readOnly
  | .live | .w1c => .ok ()
  | .locked => if s.blockRuns o n then .error .busy else .ok ()
  | .mixed lockedBits selfClear =>
    let old := (s.reg o n (storedField o f)).toNat
    let new := (wget ws 0).toNat
    if s.blockRuns o n && old &&& lockedBits != new &&& lockedBits then .error .busy
    else if old &&& new &&& selfClear != 0 then .error .busy
    else .ok ()

/-- Check the covered fields of one write item, in order (R593). -/
def State.checkWrite (s p : State) (idx : Nat) (i : Item) (o : Obj) :
    List (Nat × FieldRow × List Word) → Except Denial Unit
  | [] => .ok ()
  | (f, row, ws) :: rest => do
    demand (!reservedBits row ws) (itemDenial .reserved idx i f)
    match s.writeAllowed o i.inst f row ws with
    | .error e => .error (itemDenial e idx i f)
    | .ok _ => pure ()
    match fieldLimit s p o i.inst f ws with
    | .error d => .error { d with item := idx, obj := i.obj, inst := i.inst, field := f }
    | .ok _ => pure ()
    s.checkWrite p idx i o rest

/-- The words a write or staging of covered fields carries. -/
def fieldWords (l : List (Nat × FieldRow × List Word)) (o : Obj) : List FieldWord :=
  l.flatMap fun p => (p.2.2.zipIdx).map fun q => ⟨storedField o p.1, q.2, q.1⟩

/-- The boundary at which a write to an object takes effect (R28): the aux island may need the second one (R18). -/
def State.writeBoundary (s : State) (e : Envelope) (o : Obj) : Nat :=
  match o with
  | .hk | .aout => if e.auxLate then s.nextBoundary + 100 else s.nextBoundary
  | _ => s.nextBoundary

/-- Let the class K words of a write take effect. -/
def State.lockedApplied (s : State) (o : Obj) (n : Nat) (ws : List FieldWord) : State :=
  s.each ws fun s x =>
    match (fieldRowForWrite o (x.field % 0x8000)).map FieldRow.cls with
    | some .locked => s.setRegAt o n x.field x.idx x.value
    | _ => s

/-- The state once every accepted write of class K fields, and those of this message, have taken effect (R718). -/
def State.projected (s : State) (cmdObj : Nat) (items : List Item) : State :=
  let s' := s.each s.commits.liveWrites fun s w => s.lockedApplied w.obj w.inst w.words
  s'.each items fun s i =>
    match itemFields true cmdObj 0 i with
    | .ok (o, fields) => s.lockedApplied o i.inst (fieldWords (splitData fields i.data) o)
    | .error _ => s

/-- The words of a write of SWEEP.CTRL that set EXPAND. -/
def LiveWrite.expands (w : LiveWrite) : Bool :=
  w.obj == .sweep && w.words.any fun x => x.field == 0xA && bitAt x.value 31

/-- An accepted EXPAND runs its descriptor from now on (R718). -/
def State.acceptExpand (p : State) (w : LiveWrite) (s : State) : State :=
  if w.expands then s.expandAccepted w.inst (p.sweepFields w.inst) else s

/-- Check the items of a write request in order, and form the writes they make (R593). p is the projected state, in which an
EXPAND of an earlier item has been accepted. -/
def State.formWrites (s p : State) (r : Req) (cmdObj : Nat) : Nat → List Item → Except Denial (List LiveWrite)
  | _, [] => .ok []
  | idx, i :: rest => do
    let (o, fields) ← itemFields true cmdObj idx i
    ofItem idx (s.demandUnlocked r.env.session.toNat o i.inst)
    let parts := splitData fields i.data
    s.checkWrite p idx i o parts
    let w : LiveWrite := ⟨s.writeBoundary r.env o, o, i.inst, fieldWords parts o, r.env.session.toNat⟩
    let others ← s.formWrites (p.acceptExpand w p) r cmdObj (idx + 1) rest
    return w :: others

/-- obj.WRITE (R28, R592, R593, R624): the writes wait for their boundary; the reply carries that of the last item. -/
def writeFields (obj : Nat) (s : State) (r : Req) : Work := do
  require (objOfCode obj).isSome .noCommand
  let items ← itemsOf true r.body
  let p := s.projected obj items
  let writes ← s.formWrites p r obj 0 items
  let s := s.each writes fun s w => p.acceptExpand w s
  let s := { s with commits := { s.commits with liveWrites := s.commits.liveWrites ++ writes,
                                                accepted := s.commits.accepted + 1 } }
  return { state := s, time := writes.getLast?.map LiveWrite.boundary }

/-! ## Staging (R34-R36) -/

/-- Put one word into a list of staged words, replacing an earlier one of the same place (R34). -/
def putWord (l : List FieldWord) (x : FieldWord) : List FieldWord :=
  if l.any (fun y => y.field == x.field && y.idx == x.idx) then
    l.map fun y => if y.field == x.field && y.idx == x.idx then x else y
  else l ++ [x]

/-- The staging buffer of a group. -/
def State.buffer (s : State) (g : GroupRef) : Option Staging := s.commits.staging.find? fun b => b.ref == g

/-- Stage words of a group for a session. -/
def State.stageWords (s : State) (session : Nat) (g : GroupRef) (ws : List FieldWord) : State :=
  let buffers := match s.buffer g with
    | some _ => s.commits.staging.map fun b =>
        if b.ref == g then { b with words := ws.foldl putWord b.words } else b
    | none => s.commits.staging ++ [⟨g, session, ws.foldl putWord []⟩]
  { s with commits := { s.commits with staging := buffers } }

/-- The group of a covered field; E_CLASS where the field is not of class S (R593). -/
def groupOf (o : Obj) (n : Nat) (row : FieldRow) : Option GroupRef :=
  match row.cls with
  | .staged g => some ⟨o, n, g⟩
  | _ => none

/-- Check the covered fields of one staging item, in order (R35, R593). -/
def State.checkStage (s : State) (session idx : Nat) (i : Item) (o : Obj) :
    List (Nat × FieldRow × List Word) → Except Denial Unit
  | [] => .ok ()
  | (f, row, ws) :: rest => do
    let num := ((groupOf o i.inst row).map GroupRef.group).getD 0xFF
    demand (!reservedBits row ws) { itemDenial .reserved idx i f with group := num }
    match groupOf o i.inst row with
    | none => .error (itemDenial .cls idx i f)
    | some g =>
      match s.buffer g with
      | some b =>
        demand (b.owner == session) { itemDenial .stagedByOther idx i f with group := g.group }
      | none => pure ()
    match fieldLimit s s o i.inst f ws with
    | .error d => .error { d with item := idx, obj := i.obj, group := num, inst := i.inst, field := f }
    | .ok _ => pure ()
    s.checkStage session idx i o rest

/-- Check the items of a staging request, and form what they stage. -/
def State.formStages (s : State) (r : Req) (cmdObj : Nat) : Nat → List Item →
    Except Denial (List (GroupRef × List FieldWord))
  | _, [] => .ok []
  | idx, i :: rest => do
    let (o, fields) ← itemFields true cmdObj idx i
    ofItem idx (s.demandUnlocked r.env.session.toNat o i.inst)
    let parts := splitData fields i.data
    s.checkStage r.env.session.toNat idx i o parts
    let others ← s.formStages r cmdObj (idx + 1) rest
    let here := parts.filterMap fun p =>
      (groupOf o i.inst p.2.1).map fun g => (g, (p.2.2.zipIdx).map fun q => (⟨p.1, q.2, q.1⟩ : FieldWord))
    return here ++ others

/-- obj.STAGE (R34, R35, R592, R593, R624). -/
def stageFields (obj : Nat) (s : State) (r : Req) : Work := do
  require (objOfCode obj).isSome .noCommand
  let items ← itemsOf true r.body
  let parts ← s.formStages r obj 0 items
  return { state := s.each parts fun s p => s.stageWords r.env.session.toNat p.1 p.2 }

end Sys2Proof.Machine
end

