-- ==== Sys2Proof/Machine/GroupRules.lean ====
section
/-!
DEFINITION. What a COMMIT asks of each group it names, on the values that will be applied (R52-R68, R79, R94, R98, R118, R130,
R136, R137, R160, R163, R173, R175, R182, R188, R199, R258, R260, R264, R265, R290, R297, R305, R306, R317, R328, R339,
R347, R348, R492, R501, R518, R545, R716).
-/

namespace Sys2Proof.Machine

/-! ## The cost of a loop program (R136, R137) -/

/-- The active sections of the notch of an octet. -/
def State.notchSections (s : State) (o : Nat) : Nat := (s.rb .notch o 0 31).toNat + (s.rb .notch o 0 30).toNat

/-- Lane-operations of a compensator by its ORDER; one that is not configured costs nothing (DEDUCED, log entry 41). -/
def orderCost (order : Nat) : Nat := match order with
  | 1 => 5
  | 2 => 7
  | _ => 0

/-- Lane-operations of the compensators and delay compensation of coefficient set j, and the critical-path cycles of its
regulating compensator. -/
def State.setCost (s : State) (c j : Nat) : Nat × Nat :=
  let w := s.reg .loop c (8 * j)
  (orderCost (fld w 31 30) + orderCost (fld w 29 28) + (if bitAt w 26 then 4 else 0), if fld w 31 30 = 0 then 0 else 4)

/-- Lane-operations and critical-path cycles of the program of channel c. -/
def State.loopCost (s : State) (c : Nat) : Nat × Nat :=
  let mode := s.mode c
  let closed := closedLoop mode
  let sections := if s.notchEn c && closed then s.notchSections (octetOf c) else 0
  let base : Nat × Nat := match mode with
    | 0 => (0, 0)
    | 6 => (8, 6)
    | 7 => (6, 0)
    | 8 => (12, 6)
    | _ => (20, 10)
  let costs := if closed then (s.reachable c (s.forcesCurrent c)).map (s.setCost c) else []
  let sets := (costs.map Prod.fst).foldl max 0
  let regulating := (costs.map Prod.snd).foldl max 0
  let outer := match mode with
    | 1 => if s.sense c then 10 else 0
    | 3 | 5 => 12
    | 4 => 14
    | _ => 0
  let repet := if s.repetEn c && closed then 6 else 0
  let profile := if s.profileEn c && (closed || mode == 6) then 8 else 0
  let supv := if !s.supvEn c then 0 else if closed then 9 else if mode = 6 || mode = 7 then 6 else 0
  let auto := if mode = 0 then 0 else 2 * ((s.autoActs c false).toNat + (s.autoActs c true).toNat)
  (base.1 + sets + outer + repet + 5 * sections + profile + supv + auto,
   base.2 + regulating + 4 * sections)

/-- The program of channel c keeps the budget and the critical path (R63, R137). -/
def State.inBudget (s : State) (c : Nat) : Bool := (s.loopCost c).1 ≤ 72 && (s.loopCost c).2 ≤ 22

/-- The cost of a channel's committed program is recorded in LOOP.COST (R137, R142). -/
def State.recordCost (s : State) (c : Nat) (cost : Nat × Nat) : State :=
  s.setReg .loop c 0x45 (word (cost.1 * 2 ^ 24 + cost.2 * 2 ^ 16))

/-! ## CHAN, LOOP, OUTER -/

/-- Refuse with an error unless a condition holds, with the particulars of d. -/
def ask (b : Bool) (d : Denial) (e : Err) : Except Denial Unit := demand b { d with err := e }

/-- Refuse with an error unless a condition on a field holds; the refusal names the field (R41, R602). -/
def askField (f : Nat) (b : Bool) (d : Denial) (e : Err) : Except Denial Unit := ask b { d with field := f } e

/-- Conditions, each on the field that a refusal names: refuse with an error at the first that fails. -/
def askFields (l : List (Nat × Bool)) (d : Denial) (e : Err) : Except Denial Unit :=
  checkAll l fun x => askField x.1 x.2 d e

/-- All of a list of conditions hold. -/
def allHold (l : List (Nat × Bool)) : Bool := l.all Prod.snd

/-- E_BUDGET where channel c's program breaks the budget or the critical path; the refusal names the channel, also where the
group is a NOTCH object's (R63, R137, R606). -/
def State.budgetCheck (s : State) (c : Nat) (d : Denial) : Except Denial Unit :=
  let o := if d.obj = objCode .notch then objCode .chan else d.obj
  ask (s.inBudget c) { d with obj := o, inst := c, resource := 0x0A, need := (s.loopCost c).1, avail := 72 } .budget

/-- The range indices and spans of group 0 (R62, R68, R130): those the descriptor declares are compared only once one has been
accepted (R716). -/
def State.rangesOk (s : State) (c : Nat) : Bool :=
  let known := (s.desc c).isSome
  ([false, true].all fun q =>
    let n := s.rangeCount c q
    let sel := s.selRange c q
    let span := s.autoSpan c q
    (!known || sel < n) &&
      (!s.autoOn c q || (span.1 ≤ span.2 && span.1 ≤ sel && sel ≤ span.2 && (!known || span.2 < n)))) &&
    match s.forced c with
    | none => true
    | some q => (!known || s.rangeCap c q (s.selRange c q) == 3) && (s.reachable c q).all fun j => j ≤ 7

/-- A value's magnitude does not exceed a bound. -/
def within (bound v : Word) : Bool := fle (fabs v) bound

/-- The compliance limits of group 0 keep the magnitude check of R61. -/
def State.compChecks (s : State) (c : Nat) : List (Nat × Bool) :=
  match s.forced c, s.desc c with
  | some q, some _ =>
    let bound := fmin (s.compMax c q (s.selRange c q)) (s.fullScale c (!q) (s.selRange c (!q)))
    [(2, within bound (s.reg .chan c 2)), (3, within bound (s.reg .chan c 3))]
  | _, _ => []

/-- The compliance and protection limits of group 0 (R61). -/
def State.limitChecks (s : State) (c : Nat) : List (Nat × Bool) :=
  [(2, !fle (s.reg .chan c 2) (s.reg .chan c 3)), (4, !fle (s.reg .chan c 4) (s.reg .chan c 5)),
    (6, !fle (s.reg .chan c 6) 0), (7, s.rf .chan c 7 31 16 != 0)] ++ s.compChecks c

/-- The largest full scale of a quantity the head declares, times 1.25, as an exact value. -/
def State.reach125 (s : State) (c : Nat) (current : Bool) : Num :=
  (val (((upto (s.rangeCount c current)).map (s.fullScale c current)).foldl fmax 0)).mul (numOf 5 (-2))

/-- The limits of coefficient set j keep the magnitude check of R118. -/
def State.setReachOk (s : State) (c j : Nat) : Bool :=
  match s.forced c, s.desc c with
  | some q, some _ => [0, 1].all fun w => (val (fabs (s.regAt .loop c (8 * j + 3) w))).le (s.reach125 c q)
  | _, _ => true

/-- The own checks of coefficient set j (R118). -/
def State.setChecks (s : State) (c j : Nat) : List (Nat × Bool) :=
  let finite (f n : Nat) : Nat × Bool := (8 * j + f, ((upto n).map fun w => s.regAt .loop c (8 * j + f) w).all isFin)
  [finite 1 7, finite 2 7, finite 4 3,
    (8 * j + 3, !fle (s.regAt .loop c (8 * j + 3) 0) (s.regAt .loop c (8 * j + 3) 1)), (8 * j + 3, s.setReachOk c j)]

/-- The checks of R160 on the outer loop of a channel whose mode and SENSE use it. -/
def State.outerChecks (s : State) (c : Nat) : List (Nat × Bool) :=
  let mode := s.mode c
  let lo := s.reg .outer c 5
  let hi := s.reg .outer c 4
  let gain (w : Word) : Bool := isFin w && fle 0 w
  let tsrc := s.rf .outer c 1 31 30
  let q := s.forcesCurrent c
  let inReach (w : Word) : Bool := (s.desc c).isNone || (val (fabs w)).le (s.reach125 c q)
  let power := mode == 3 || mode == 4
  [(0, s.rf .outer c 0 19 8 < s.divider c), (4, !fle hi lo), (4, inReach hi), (5, inReach lo), (5, !(power && flt lo 0)),
    (6, !(power && fle (s.reg .outer c 6) 0)), (2, gain (s.reg .outer c 2)), (3, gain (s.reg .outer c 3)),
    (9, !(mode == 5 && tsrc ≤ 1 && feq (s.reg .outer c 9) 0)),
    (1, !(tsrc == 2 && !s.hkInput (s.rf .outer c 1 29 24))), (1, s.rf .outer c 1 15 0 != 0),
    (1, !(tsrc == 3 && (s.desc c).isSome && !s.tempReport c))]

/-- Vectors per frame that the applied PERIOD of a bank issues fit the head of channel c (R305). -/
def State.vectorFits (s : State) (c : Nat) : Bool :=
  (s.desc c).isNone || 4 ≤ s.descField c 3 54 52 * s.rf .bseq (bankOf c) 1 18 0

/-- The levels of a pin lie within the full scale of its channel's applied VRANGE (R306). -/
def State.levelsReach (s : State) (b j : Nat) : Bool :=
  let c := 64 * b + j
  (s.desc c).isNone ||
    (upto 4).all fun w => within (s.fullScale c false (s.selRange c false)) (s.regAt .bseq b (0x200 + j) w)

/-- The levels of a pin (R306): VIH, VIL, VOH, VOL. -/
def State.levelOk (s : State) (b j : Nat) : Bool :=
  !fle (s.regAt .bseq b (0x200 + j) 2) (s.regAt .bseq b (0x200 + j) 3) && s.levelsReach b j

/-- FORCE_LEVEL as it will stand when a group applies: the latest accepted write, or the applied value (R65). -/
def State.forceLevelNext (s : State) (c : Nat) : Word :=
  let ws := s.commits.liveWrites.filter fun w => w.obj == .chan && w.inst == c
  ((ws.flatMap LiveWrite.words).filter fun x => x.field == 0x10).foldl (fun _ x => x.value) (s.reg .chan c 0x10)

/-- The mode a COMMIT of CHAN group 0 applies may follow that of a channel that is ARMING, ARMED, DISARMING or HELD (R79,
R94). -/
def modeChangeOk (s s' : State) (c : Nat) : Bool :=
  let special (m : Nat) : Bool := m == 6 || m == 7 || m == 8
  let changed := s.mode c != s'.mode c || s.rf .chan c 0 23 22 != s'.rf .chan c 0 23 22 || s.polarity c != s'.polarity c
  s'.mode c != 0 && (!changed || (s.forced c == s'.forced c && !special (s.mode c) && !special (s'.mode c)))

/-- CHAN group 0. -/
def chanGroup (s s' : State) (c : Nat) (d : Denial) : Except Denial Unit := do
  let busy := s.busyChan c
  ask (s'.mode c ≤ 8) d .badMode
  ask (!busy || modeChangeOk s s' c) d .modeArmed
  ask (!(3 ≤ s'.mode c && s'.mode c ≤ 6) || s'.rf .chan c 0 23 22 ≤ 1) d .limit
  askField 1 (s'.rangesOk c) d .noRange
  askFields (s'.limitChecks c) d .limit
  match s'.forced c with
  | some q =>
    checkAll ((s'.reachable c q).filter fun j => j ≤ 7) fun j =>
      askField (8 * j + 3) (s'.setReachOk c j) { d with obj := objCode .loop, group := j } .limit
  | none => .ok ()
  askFields (if s'.outerOn c then s'.outerChecks c else []) { d with obj := objCode .outer, group := 0 } .limit
  askField 0x10 (s'.mode c != 7 || s'.rf .profile c 0x10 13 12 == 1) { d with obj := objCode .profile, group := 1 } .limit
  ask (s'.mode c != 8 || (s'.desc c).isNone || s'.descField c 3 54 52 != 0 && s'.vectorFits c) d .badMode
  s'.budgetCheck c d
  askField 1 (!busy || s'.regReady c) d .noCoef
  askField 0x0A (!busy || s.calSetOf c == s'.calSetOf c || s.uncal c || s'.calCovers (s'.calSetOf c) c) d .noCal
  askField 1 (!busy || !s'.calBlocked c || [false, true].all fun q => s.selRange c q == s'.selRange c q) d .noCal
  askField 0x10 (s'.spOk c (s.forceLevelNext c)) d .limit

/-- LOOP group j. -/
def loopGroup (s' : State) (c j : Nat) (d : Denial) : Except Denial Unit := do
  askFields (s'.setChecks c j) d .limit
  s'.budgetCheck c { d with field := 8 * j }

/-! ## REPET, NOTCH, PROFILE -/

/-- REPET group 0 (R163). -/
def State.repetChecks (s : State) (c : Nat) : List (Nat × Bool) :=
  let sum := (val (s.reg .repet c 4)).add ((val (fabs (s.reg .repet c 5))).mul (numOf 2 0))
  [(4, !(numOf 1 0).lt sum), (6, !flt (s.reg .repet c 6) 0)]

/-- An enabled notch section keeps R173. -/
def State.sectionOk (s : State) (o k : Nat) : Bool :=
  let co (w : Nat) : Word := s.regAt .notch o (1 + k) w
  !s.rb .notch o 0 (31 - k) ||
    ((upto 5).all (fun w => isFin (co w)) && flt (fabs (co 4)) 0x3F800000 &&
      (val (fabs (co 3))).lt ((val (co 4)).add (numOf 1 0)))

/-- NOTCH group 0 (R173). -/
def notchGroup (s' : State) (o : Nat) (d : Denial) : Except Denial Unit := do
  askFields [(1, s'.sectionOk o 0), (2, s'.sectionOk o 1)] d .limit
  checkAll ((octetChannels o).filter s'.notchEn) fun c =>
    s'.budgetCheck c { d with obj := objCode .chan, group := 0xFF, inst := c }

/-- PROFILE group 0 (R175). -/
def State.profileChecks (s : State) (c : Nat) : List (Nat × Bool) :=
  [0, 4, 8].map (fun f => (f, fpos (s.reg .profile c f))) ++
    [1, 2, 3, 5, 6, 7, 9, 10].map fun f => (f, isFin (s.reg .profile c f) && fle 0 (s.reg .profile c f))

/-- PROFILE group 1 (R182, R188). -/
def State.supervisionChecks (s : State) (c : Nat) : List (Nat × Bool) :=
  [0x10, 0x17, 0x1A, 0x1D].map (fun f => (f, s.rf .profile c f 31 16 != 0)) ++
    [(0x10, s.mode c != 7 || s.rf .profile c 0x10 13 12 == 1)]

/-! ## Programs (R258, R260, R265, R297, R317) -/

/-- The condition of an instruction always holds (some true), never holds (some false), or depends (R273). -/
def SInstr.fixed (i : SInstr) : Option Bool :=
  match i.cond with
  | 0 => some i.neg
  | 1 => some (!i.neg)
  | _ => none

/-- The instructions a branch at j goes to. -/
def SInstr.exits (i : SInstr) (j : Nat) : List Nat :=
  match i.fixed with
  | some true => [i.target]
  | some false => [j + 1]
  | none => [i.target, j + 1]

/-- The instructions that can follow instruction j, other than PLAY, WAIT and HALT, on a path of R265. -/
def State.pathNext (s : State) (q : SeqRef) (j : Nat) : List Nat :=
  let i := s.prog q j
  if i.op = opPlay || i.op = opWait || i.op = opHalt then []
  else if i.op = opJump then i.exits j
  else if i.op = opEndloop then [i.target, j + 1]
  else [j + 1]

/-- The instructions a path of n steps from a list of instructions can reach. -/
def State.pathAfter (s : State) (q : SeqRef) : Nat → List Nat → List Nat
  | 0, l => l
  | n + 1, l => s.pathAfter q n ((l.flatMap (s.pathNext q)).eraseDups)

/-- Where paths begin: at PC0, at the end of a segment and at the exits of a WAIT. -/
def State.pathStarts (s : State) (q : SeqRef) : List Nat :=
  (s.pc0 q :: (upto (s.progLen q)).flatMap fun j =>
    let i := s.prog q j
    if i.op = opPlay then i.exits j
    else if i.op = opWait then [j + 1]
    else []).eraseDups

/-- No path executes more than 8 instructions other than PLAY, WAIT and HALT. -/
def State.pathsShort (s : State) (q : SeqRef) : Bool := (s.pathAfter q 9 (s.pathStarts q)).isEmpty

/-- An instruction of a program keeps R265, R271, R273 and R317. -/
def State.instrOk (s : State) (q : SeqRef) (j : Nat) : Bool :=
  let i := s.prog q j
  let counter := i.op == opLoop || i.op == opEndloop
  let conditional := i.op == opPlay || i.op == opJump || i.op == opWait
  i.target < s.progLen q &&
    (i.op ≤ 5 || i.op == opEmit || (i.op == opRate && !q.isBank) || (i.op == opTset && q.isBank && !s.laneEn q.num)) &&
    !(i.op == opPlay && (s.segm q i.seg).granules < 4) && !(counter && 3 < i.cond) &&
    !(conditional && 0xC ≤ i.cond) && !((i.op == opPlay || i.op == opJump) && i.cond == 0xB)

/-- The last instruction does not go on to the next one. -/
def State.lastOk (s : State) (q : SeqRef) : Bool :=
  let i := s.prog q (s.progLen q - 1)
  i.op == opHalt || ((i.op == opJump || i.op == opPlay) && i.fixed == some true)

/-- The field that holds PC0. -/
def SeqRef.entryField (q : SeqRef) : Nat := if q.isBank then 0 else 1

/-- E_PROGRAM of R265; a refusal for an instruction names the instruction. -/
def State.programCheck (s : State) (q : SeqRef) (d : Denial) : Except Denial Unit := do
  askFields [(0, s.progLen q != 0), (q.entryField, s.pc0 q < s.progLen q), (0, s.fillLoop q < s.progLen q)] d .program
  checkAll (upto (s.progLen q)) fun j => ask (s.instrOk q j) { d with item := j, field := 0x100 + j } .program
  ask (s.lastOk q) { d with item := s.progLen q - 1, field := 0x100 + (s.progLen q - 1) } .program
  ask (s.pathsShort q) d .program

/-- The PLAYs of a program. -/
def State.plays (s : State) (q : SeqRef) : List Nat := (upto (s.progLen q)).filter fun j => (s.prog q j).op == opPlay

/-- The segments a program plays. -/
def State.playedSegs (s : State) (q : SeqRef) : List Nat := ((s.plays q).map fun j => (s.prog q j).seg).eraseDups

/-- The unpinned successors of a segment (R259). -/
def State.unpinnedNext (s : State) (q : SeqRef) (seg : Nat) : List Nat :=
  ((((s.plays q).filter fun j => (s.prog q j).seg == seg).flatMap (s.successors q)).map fun j => (s.prog q j).seg).eraseDups.filter
    fun n => !(s.segm q n).pin

/-- Cache entries of a segment: one for an entry, two for a vector (R308, R317). -/
def Segm.entries (g : Segm) : Nat := 16 * g.granules

/-- K of R258. -/
def State.mostUnpinned (s : State) (q : SeqRef) : Nat :=
  ((s.playedSegs q).map fun n => (s.unpinnedNext q n).length).foldl max 0

/-- Entries a program needs: of the cache by R258, or for a bank sequencer of the window by R317. -/
def State.cacheNeed (s : State) (q : SeqRef) : Nat :=
  let segs := s.playedSegs q
  let pinned := (((upto 64).filter fun n => (s.segm q n).pin).map fun n => (s.segm q n).entries).sum
  let k := s.mostUnpinned q
  if q.isBank then pinned + 64 * k + 512
  else 128 + pinned + 64 * k + (if segs.any fun n => !(s.segm q n).pin then 512 else 0)

/-- Entries of the cache or window (R258, R317). -/
def SeqRef.cacheSize (q : SeqRef) : Nat := if q.isBank then 8192 else 4096

/-- Input samples, or vectors, of a segment. -/
def State.segSamples (s : State) (q : SeqRef) (g : Segm) : Nat :=
  if q.isBank || g.stream then g.items q else ((upto (g.items q)).map (s.storedDwell q g)).sum

/-- The largest rate of RATE_MAX and RATES. -/
def State.topRate (s : State) (c : Nat) : Nat :=
  ((upto 8).map fun r => s.wide .seq c (8 + r) 2).foldl max (s.wide .seq c 2 2)

/-- A segment's shortest play time is at least 2 µs (R260). -/
def State.inTime (s : State) (q : SeqRef) (g : Segm) : Bool :=
  match q with
  | .chan c => 20 * s.topRate c ≤ s.segSamples q g * 2 ^ 60
  | .bank b => 2000 ≤ s.segSamples q g * s.vecPeriod b

/-- The descriptor of a segment is READY. -/
def State.segReady (s : State) (q : SeqRef) (g : Segm) : Bool := q.isBank || s.sweepState g.sweep == 2

/-- The first PLAY that has an unpinned, non-stream successor and is not prefetchable in time (R260, R290); one whose play time
is not known is passed over. -/
def State.latePlay (s : State) (q : SeqRef) : Option Nat :=
  (s.plays q).find? fun j =>
    let g := s.segm q (s.prog q j).seg
    !g.stream && s.segReady q g && !s.inTime q g &&
      (s.unpinnedNext q (s.prog q j).seg).any fun n => !(s.segm q n).stream

/-- The FILL_LOOP body of REPEAT_RESIDENT keeps R297. -/
def State.fillOk (s : State) (q : SeqRef) : Bool :=
  let f := s.fillLoop q
  let loop := s.prog q f
  match ((upto (s.progLen q)).filter fun j => f < j).find? fun j => (s.prog q j).op == opEndloop with
  | none => false
  | some e =>
    loop.op == opLoop && (s.prog q e).cond == loop.cond && f + 1 < e &&
      ((upto e).filter fun j => f < j).all fun j =>
        (s.prog q j).op == opPlay && (s.segm q (s.prog q j).seg).pin && !(s.segm q (s.prog q j).seg).stream

/-- A refusal that names instruction j of a program. -/
def atInstr (d : Denial) (j : Nat) : Denial := { d with item := j, field := 0x100 + j }

/-- The checks of a program that COMMIT and the run commands share (R258, R260, R317). -/
def State.programFits (s : State) (q : SeqRef) (d : Denial) : Except Denial Unit := do
  ask (s.cacheNeed q ≤ q.cacheSize) { d with resource := 0x03, need := s.cacheNeed q, avail := q.cacheSize } .noCache
  match s.latePlay q with
  | some j => ask false (atInstr d j) .prefetch
  | none => .ok ()

/-- The checks of a COMMIT of group 0 of a sequencer that both kinds share. -/
def programGroup (s s' : State) (q : SeqRef) (d : Denial) : Except Denial Unit := do
  ask (!s.seqRuns q) d .busy
  s'.programCheck q d
  ask (s'.urAction q != 1 || s'.fillOk q) d .notResident
  s'.programFits q d

/-- The stream segments of a program keep R290. -/
def State.streamSegOk (s : State) (q : SeqRef) (n : Nat) : Bool :=
  let g := s.segm q n
  !g.stream || (!g.pin && 2 * g.items q ≤ (s.ringOf g.sweep).2)

/-- SEQ group 0 (R264, R265, R290). -/
def seqGroup (s s' : State) (c : Nat) (d : Denial) : Except Denial Unit := do
  let q := SeqRef.chan c
  let top := s'.wide .seq c 2 2
  programGroup s s' q d
  let rate (r : Nat) : Nat := s'.wide .seq c (8 + r) 2
  askFields ((2, rateOk top) :: (upto 8).map fun r => (8 + r, rateOk (rate r) && rate r ≤ top)) d .limit
  askFields ((upto 64).map fun n => (0x10 + n, s'.streamSegOk q n)) d .limit

/-! ## BSEQ -/

/-- The pins of a bank whose applied mode is VECTOR. -/
def State.bankVectorPins (s : State) (b : Nat) : List Nat := s.vectorPins b

/-- A timing-set entry of a vector pin keeps R328, which is not among the checks that R716 puts off: MIN_EDGE is 0 until a
descriptor has declared it (DEDUCED, log entry 96). -/
def State.entryOk (s : State) (b n j : Nat) : Bool :=
  let p := s.vecSteps b
  let w := s.wide .bseq b (0x400 + 0x40 * n + j) 2
  let on := bitsOf w 47 32
  let ret := bitsOf w 31 16
  let least := s.descField (64 * b + j) 3 47 32
  [on, ret, bitsOf w 15 0].all (fun e => e < min p 65536) && on + least ≤ ret && ret + least ≤ on + p

/-- The timing-set entries of the vector pins of a bank keep R328. -/
def State.timingChecks (s : State) (b : Nat) : List (Nat × Bool) :=
  (upto 16).flatMap fun n => (s.vectorPins b).map fun j => (0x400 + 0x40 * n + j, s.entryOk b n j)

/-- The pins whose levels a COMMIT checks: the vector pins and those it stages (R306; DESIGN CHOICE, log entry 42). -/
def State.levelPins (s s' : State) (b : Nat) : List Nat :=
  let staged : List Nat := match s.buffer ⟨.bseq, b, 1⟩ with
    | some g => (g.words.map fun w => w.field - 0x200).eraseDups
    | none => []
  (upto 64).filter fun j => staged.contains j || s'.mode (64 * b + j) == 8

/-- A group of BSEQ. -/
def bseqGroup (s s' : State) (b g : Nat) (d : Denial) : Except Denial Unit :=
  match g with
  | 0 => do
    programGroup s s' (.bank b) d
    askField 1 ((s'.vectorPins b).all fun j => s'.vectorFits (64 * b + j)) d .limit
    askFields (s'.timingChecks b) d .limit
  | 1 => askFields ((s.levelPins s' b).map fun j => (0x200 + j, s'.levelOk b j)) d .limit
  | _ => askFields (s'.timingChecks b) d .limit

/-! ## ROUTE and TRIGPIN (R339, R347, R348, R663) -/

/-- A consumer identifier names a consumer, and a housekeeping one names an input (R333, R663). -/
def State.consumerOk (s : State) (i : Nat) : Bool := isConsumer i && (idClass i != 0xA || s.hkInput (idIndex i))

/-- ROUTE group 0 (R339), for an enabled route. -/
def State.routeChecks (s : State) (r : Nat) : List (Nat × Bool) :=
  let gate := s.rf .route r 2 31 16
  let n := s.rf .route r 4 15 0
  let rearm := s.rf .route r 0 15 0
  [(1, isSource (s.routeSrc r)), (2, s.gateMode r == 0 || isSource gate), (3, s.consumerOk (s.routeDst r)),
    (2, !((s.gateMode r == 1 || s.gateMode r == 2) && !hasLevel gate)), (0, 2 ≤ rearm), (4, n != 0),
    (0x10, s.rf .route r 0x10 15 0 < n),
    (0, s.enabledRoutes.all fun o => s.routeSrc o != s.routeSrc r || s.rf .route o 0 15 0 == rearm)]

/-- Virtual events that can be reached from a list of them over edges. -/
def reachedOver (edges : List (Nat × Nat)) : Nat → List Nat → List Nat
  | 0, l => l
  | n + 1, l => reachedOver edges n ((l ++ (edges.filter fun e => l.contains e.1).map Prod.snd).eraseDups)

/-- The routes of the cycles of virtual events whose routes all have N = 1 (R347). -/
def State.routeCycle (s : State) : List Nat :=
  let links := (s.enabledRoutes.filter fun r =>
    idClass (s.routeSrc r) == 8 && idClass (s.routeDst r) == 8 && s.rf .route r 4 15 0 == 1).map fun r =>
      (r, s.routeSrc r, s.routeDst r)
  let edges := links.map Prod.snd
  (links.filter fun l => (reachedOver edges edges.length [l.2.2]).contains l.2.1).map Prod.fst

/-- The fields of an enabled route that take something from, or deliver to, a pin of the wrong direction, or deliver to a SYNC
slot while SYNC is not the origin, each with what it names (R348). -/
def State.routeMisdirected (s : State) (r : Nat) : List (Nat × Nat) :=
  let out (i : Nat) : Bool := s.rb .trigpin (idIndex i) 0 31
  let src := s.routeSrc r
  let dst := s.routeDst r
  let gate := s.rf .route r 2 31 16
  (if idClass src == 1 && out src then [(1, src)] else []) ++
    (if s.gateMode r != 0 && idClass gate == 1 && out gate then [(2, gate)] else []) ++
    (if (idClass dst == 1 && !out dst) || (idClass dst == 2 && s.syncRole != 1) then [(3, dst)] else [])

/-- Where a COMMIT names a group; 0 where it does not. -/
def itemOfGroup (groups : List GroupRef) (g : GroupRef) : Nat := (groups.idxOf? g).getD 0

/-- The checks of a COMMIT that names ROUTE or TRIGPIN groups on the graph that will hold (R347, R348). A refusal names the route,
its field and the named group at fault: the route's own, or that of the pin (R41). A cycle is named by a route of this
COMMIT where it has one, at its DST. -/
def routeGraphCheck (groups : List GroupRef) (s' : State) : Except Denial Unit := do
  let route (r : Nat) : GroupRef := ⟨.route, r, 0⟩
  let denial (e : Err) (r f : Nat) : Denial :=
    { err := e, resource := 0x0B, item := itemOfGroup groups (route r), obj := objCode .route, group := 0, inst := r, field := f }
  match s'.routeCycle with
  | [] => .ok ()
  | r :: more => .error (denial .routeCycle (((r :: more).find? fun q => groups.contains (route q)).getD r) 3)
  checkAll s'.enabledRoutes fun r =>
    match s'.routeMisdirected r with
    | [] => .ok ()
    | (f, i) :: _ =>
      let d := denial .routeTarget r f
      .error (if groups.contains (route r) then d else { d with item := itemOfGroup groups ⟨.trigpin, idIndex i, 0⟩ })

/-! ## TIME, SYNC, ARB -/

/-- TIME and SYNC group 0 (R492, R501). -/
def timeGroup (s s' : State) (d : Denial) : Except Denial Unit := do
  let source := s'.timeSource
  ask (!(source == 2 && s'.syncRole != 2) && !(source == 1 && s'.ptpRole == 0)) d .limit
  let named := s.commits.timed.any (fun q => q.meridian) || s.commits.tickets.any fun t => t.meridian
  askField 1 (s.rf .sync 0 1 23 0 == s'.rf .sync 0 1 23 0 || !named) d .busy

/-- Grants admitted for the sequencers of a class (R299, R518). -/
def State.grantsOf (s : State) (bank : Bool) : Nat :=
  let o := if bank then Obj.bseq else Obj.seq
  ((s.listed o 0x65 0).map fun n => s.rf o n 0x65 31 16).sum

/-- ARB group 0 (R518). -/
def arbGroup (s' : State) (d : Denial) : Except Denial Unit := do
  let minQ (k : Nat) : Nat := s'.rf .arb 0 (1 + k) 23 16
  askFields [(1, ((upto 9).map minQ).sum ≤ 64), (4, minQ 3 != 0), (9, minQ 8 != 0)] d .limit
  checkAll [0, 1] fun k =>
    ask (s'.grantsOf (k == 1) ≤ 256 * minQ k)
      { d with resource := 0x02, field := 1 + k, need := s'.grantsOf (k == 1), avail := 256 * minQ k } .notAdmitted

/-! ## All groups -/

/-- The checks of one named group on the state s' that will hold; d carries its particulars. -/
def groupCheck (s s' : State) (g : GroupRef) (d : Denial) : Except Denial Unit :=
  match g.obj with
  | .chan => chanGroup s s' g.inst d
  | .loop => loopGroup s' g.inst g.group d
  | .outer => askFields (if s'.outerOn g.inst then s'.outerChecks g.inst else []) d .limit
  | .repet => askFields (s'.repetChecks g.inst) d .limit
  | .notch => notchGroup s' g.inst d
  | .profile => askFields (if g.group = 0 then s'.profileChecks g.inst else s'.supervisionChecks g.inst) d .limit
  | .seq => seqGroup s s' g.inst d
  | .bseq => bseqGroup s s' g.inst g.group d
  | .route => askFields (if s'.rb .route g.inst 0 31 then s'.routeChecks g.inst else []) d .limit
  | .time | .sync => timeGroup s s' d
  | .arb => arbGroup s' d
  | _ => .ok ()

/-- The checks that R716 puts off until a descriptor is accepted, on the applied values of channel c: the error of the first that
fails. -/
def State.verifyChan (s : State) (c : Nat) : Option Err :=
  if !s.rangesOk c then some .noRange
  else if !allHold (s.compChecks c) then some .limit
  else if !(match s.forced c with
    | some q => ((s.reachable c q).filter fun j => j ≤ 7).all (s.setReachOk c)
    | none => true) then some .limit
  else if s.outerOn c && !allHold (s.outerChecks c) then some .limit
  else if s.mode c == 8 && !(s.descField c 3 54 52 != 0 && s.vectorFits c) then some .badMode
  else if s.mode c == 8 && !s.levelsReach (bankOf c) (c % 64) then some .limit
  else if !s.spOk c (s.reg .chan c 0x10) then some .limit
  else none

end Sys2Proof.Machine
end

