-- ==== Sys2Proof/Machine/Runs.lean ====
section
/-!
DEFINITION. The run commands and what the almanac admits for them: SEQ and BSEQ runs, stops and resumptions, acquisition runs;
and the transfers into list sources, vector memory and the capture ring (R252, R253, R266, R267, R270, R287, R298-R302, R311,
R318, R327, R367, R368, R371, R396, R429, R549, R606, R607, R628, R642, R643, R719, R720).
-/

namespace Sys2Proof.Machine

/-! ## What a run of a sequencer needs (R270, R287, R298, R318, R719) -/

/-- R719 for the PLAY at j. -/
def State.playFits (s : State) (q : SeqRef) (d : Denial) (j : Nat) : Except Denial Unit := do
  let g := s.segm q (s.prog q j).seg
  let x := ((s.sweep g.sweep).from?).getD (s.sweepFields g.sweep)
  ask (s.segReady q g) (atInstr d j) .notReady
  ask (q.isBank || g.stream || 16 * (g.first + g.granules) ≤ x.base + s.sweepLength g.sweep) (atInstr d j) .limit
  ask (g.stream || (upto (g.items q)).any fun k => s.storedDwell q g k != 0) (atInstr d j) .limit

/-- R270: the values of the sweeps a program names lie within the limits of the set-point. -/
def State.valuesFit (s : State) (q : SeqRef) : Bool :=
  match q with
  | .bank _ => true
  | .chan c => (s.sweepsNamed c).all fun d => [0x22, 0x23].all fun f => !(s.spClamp c (s.reg .sweep d f)).2

/-- R266 on a sequencer that is to start. -/
def State.runnable (s : State) (q : SeqRef) (d : Denial) : Except Denial Unit := do
  ask (!s.seqRuns q) d .busy
  ask (s.progLen q != 0) d .notReady

/-- The checks of R720 in its order; for a bank sequencer those of R317. -/
def State.runFits (s : State) (q : SeqRef) (d : Denial) : Except Denial Unit := do
  s.programFits q d
  s.programCheck q d
  s.runnable q d
  ask (s.valuesFit q) d .limit
  checkAll (s.plays q) (s.playFits q d)

/-- Played segments of a program whose points are stored and not pinned. -/
def State.fetchedSegs (s : State) (q : SeqRef) : List Nat :=
  (s.playedSegs q).filter fun n => !(s.segm q n).pin && !(s.segm q n).stream

/-- The DRAM grant G of a run, in slots per 64 table cycles (R298, R318). -/
def State.grantNeed (s : State) (q : SeqRef) : Nat :=
  match q with
  | .bank b => ceilDiv (128 + 4 * (s.laneEn b).toNat) (s.rf .bseq b 1 18 0) + 32
  | .chan c =>
    let rate := s.wide .seq c 2 2
    let samples (n : Nat) : Nat := s.segSamples q (s.segm q n) * 2 ^ 60
    let reads := (s.fetchedSegs q).map fun n => ceilDiv (20 * rate * (s.segm q n).entries) (samples n)
    let heads := ((s.playedSegs q).filter fun n => !(s.unpinnedNext q n).isEmpty).map fun n =>
      ceilDiv (1024 * s.mostUnpinned q * rate) (samples n)
    if (s.fetchedSegs q).isEmpty then 0 else reads.foldl max 0 + heads.foldl max 0

/-- The ingress of a run, bytes a second (R298). -/
def State.ingressNeed (s : State) (q : SeqRef) : Nat :=
  match q with
  | .bank _ => 0
  | .chan c =>
    ceilDiv (((s.playedSegs q).filter fun n => (s.segm q n).stream).length * s.wide .seq c 2 2 * 160000000) (2 ^ 60)

/-- Slots per 64 table cycles that the shares of a class of sequencers leave (R518). -/
def State.slotsLeft (s : State) (bank : Bool) : Nat :=
  256 * s.rf .arb 0 (if bank then 2 else 1) 23 16 - s.grantsOf bank

/-- Ingress admitted on a port (R607). -/
def State.ingressOn (s : State) (p : Port) : Nat :=
  (s.seqs.map fun e => if e.2.port = p then e.2.ingress else 0).sum

/-- Another sequencer that runs, or that a run has been admitted for, names a stream descriptor of channel sequencer c (R287). -/
def State.streamTaken (s : State) (c : Nat) : Bool :=
  let q := SeqRef.chan c
  let mine := ((s.playedSegs q).filter fun n => (s.segm q n).stream).map fun n => (s.segm q n).sweep
  !mine.isEmpty && s.seqs.any fun e =>
    e.1 != c && (s.seqRuns (.chan e.1) || e.2.ingress != 0) && (s.sweepsNamed e.1).any mine.contains

/-- Charge a run of q with a grant and with ingress on a port. -/
def State.charge (s : State) (q : SeqRef) (grant ingress : Nat) (p : Port) : State :=
  (s.setRf q.obj q.num 0x65 31 16 grant).setSeqx q { s.seqx q with ingress := ingress, port := p }

/-- A refusal that names a sequencer. -/
def SeqRef.denial (q : SeqRef) : Denial := { err := .busy, obj := objCode q.obj, inst := q.num }

/-- Admit a run of q that arrived on a port: every check of the command, then every resource (R298, R318, R606). One that needs
a DRAM grant while FAULT_STATUS.ARB is set names DRAM (R549; DEDUCED, log entry 137). -/
def State.admitRun (s : State) (p : Port) (q : SeqRef) : Except Denial State := do
  let d := q.denial
  s.runnable q d
  ask (!s.commits.timed.any fun t => t.kind.obj == q.obj && t.insts.contains q.num && (t.kind == .seqRun || t.kind == .bseqRun)) d
    .busy
  ask (!q.isBank || s.cacheNeed q ≤ q.cacheSize) { d with resource := 0x03, need := s.cacheNeed q, avail := q.cacheSize } .notAdmitted
  s.runFits q d
  ask (match q with
    | .chan c => !s.streamTaken c
    | .bank _ => true) d .busy
  let grant := s.grantNeed q
  let ingress := s.ingressNeed q
  ask (grant == 0 || !s.rb .dev 0 0x140 28) { d with resource := 0x02, need := grant } .notAdmitted
  ask (grant ≤ s.slotsLeft q.isBank) { d with resource := 0x02, need := grant, avail := s.slotsLeft q.isBank } .notAdmitted
  ask (ingress == 0 || s.ingressOn p + ingress ≤ 600000000)
    { d with resource := 0x04, need := ingress, avail := 600000000 - s.ingressOn p } .notAdmitted
  return (s.charge q grant ingress p).loadSeq q

/-- Admit the runs of one command, each beside those before it. -/
def State.admitRuns (s : State) (p : Port) : List SeqRef → Except Denial State
  | [] => .ok s
  | q :: rest => do
    let s ← s.admitRun p q
    s.admitRuns p rest

/-- A sequencer by number. -/
def seqRef (bank : Bool) (n : Nat) : SeqRef := if bank then .bank n else .chan n

/-- The load work of a run command (R300, R318): 10 µs and 1 µs for each 16 entries loaded. -/
def State.loadWork (s : State) (l : List SeqRef) : Nat := 10000 + 1000 * (l.map fun q => (s.loadKeys q).length).sum

/-- SEQ.RUN and BSEQ.RUN (R266, R298-R300, R318, R631, R637); without an apply time the run starts at the first boundary after
its load work (DEDUCED, log entry 46). -/
def runSequencers (bank : Bool) (s : State) (r : Req) : Work := do
  let o := if bank then Obj.bseq else .seq
  let (f, l) ← flagsAndSet o 0 r.body
  s.allUnlocked r.env.session.toNat o l
  s.noTimed o l
  let qs := l.map (seqRef bank)
  let work := s.loadWork qs
  let s ← s.admitRuns r.env.src.port qs
  s.submit r (if bank then .bseqRun else .seqRun) l f work work

/-- SEQ.RUN. -/
def runSeqs (s : State) (r : Req) : Work := runSequencers false s r

/-- BSEQ.RUN. -/
def runBseqs (s : State) (r : Req) : Work := runSequencers true s r

/-- SEQ.STOP and BSEQ.STOP (R267, R628, R631, R637). -/
def stopSequencers (bank : Bool) (s : State) (r : Req) : Work := do
  let o := if bank then Obj.bseq else .seq
  let (f, l) ← flagsAndSet o 0x80000000 r.body
  s.allUnlocked r.env.session.toNat o l
  s.noTimed o l
  s.submit r (if bank then .bseqStop else .seqStop) l f 10000

/-- SEQ.RESUME and BSEQ.RESUME (R302, R627, R631, R637): only a parked sequencer can be resumed. -/
def resumeSequencers (bank : Bool) (s : State) (r : Req) : Work := do
  let o := if bank then Obj.bseq else .seq
  let (f, l) ← flagsAndSet o 0 r.body
  s.allUnlocked r.env.session.toNat o l
  s.noTimed o l
  checkAll l fun n => ask (s.run (seqRef bank n) == 4) (seqRef bank n).denial .notReady
  s.submit r (if bank then .bseqResume else .seqResume) l f 0

/-! ## Runs as they act (R266, R720) -/

/-- The checks an admitted run of q must still pass when it acts, and its needs against what was admitted (R720). -/
def State.runStill (s : State) (q : SeqRef) : Except Denial Unit := do
  let d := q.denial
  s.runFits q d
  ask (s.grantNeed q ≤ s.rf q.obj q.num 0x65 31 16 && s.ingressNeed q ≤ (s.seqx q).ingress) d .notAdmitted

/-- P1 of N_RUN_FAILED: the instruction a refusal names. -/
def Denial.instr (d : Denial) : Nat := if d.field < 0x100 then 0xFFFFFFFF else d.field - 0x100

/-- The run of q acts at the boundary now: it starts, or it fails and gives its resources back (R720). -/
def State.runActs (s : State) (q : SeqRef) : State :=
  match s.runStill q with
  | .ok _ => s.startSeq q
  | .error d =>
    let s : State := if s.seqRuns q then s else (s.charge q 0 0 (s.seqx q).port).request q []
    s.notify 0x0206 q.obj q.num [d.err.code, d.instr]

/-! ## Acquisition runs (R367, R396, R429) -/

/-- The limits of ACQ.ARM on unit a (R367). -/
def State.acqArmOk (s : State) (a : Nat) : Bool :=
  let det := s.rb .acq a 0xA 31
  let low := s.rb .acq a 0xA 28
  !(s.acqMode a == 2 && s.rf .acq a 4 9 0 != 0) && !(det && !low && flt (s.reg .acq a 0xB) (s.reg .acq a 0xC)) &&
    !(det && low && flt (s.reg .acq a 0xC) (s.reg .acq a 0xB)) && !(s.rb .acq a 0 26 && s.reg .acq a 0xD == 0)

/-- Words per entry (R396). -/
def State.entryWords (s : State) (a : Nat) : Nat :=
  match s.acqData a with
  | 0 => 0
  | 3 => 3
  | _ => 2

/-- Words of the measurement groups present (R387, R396). -/
def State.measWords (s : State) (a : Nat) : Nat :=
  (([8, 4, 3, 4, 13].zipIdx).map fun p => if bitsOf (s.acqMeas a) p.2 p.2 = 1 then p.1 else 0).sum

/-- T_rec in frames (R396). -/
def State.recordFrames (s : State) (a : Nat) : Nat :=
  s.rf .acq a 5 23 0 * s.acqN a + (if s.acqMode a = 1 then s.rf .acq a 7 15 0 else 0)

/-- Detection records a second that R396 counts. -/
def State.detRate (s : State) (a : Nat) : Nat := if s.rb .acq a 0 26 then (s.reg .acq a 0xD).toNat else 0

/-- The word rate r of unit a, words a second (R396). -/
def State.wordRate (s : State) (a : Nat) : Rat :=
  let d := s.entryWords a
  (10 ^ 7 * d : Nat) / (s.acqN a : Rat) +
    (10 ^ 7 * (9 + s.measWords a + d * s.rf .acq a 4 9 0) : Nat) / (s.recordFrames a : Rat) + (8 * s.detRate a : Nat)

/-- What the almanac charges unit a, words a second (R429). -/
def State.unitCharge (s : State) (a : Nat) : Rat :=
  let p := s.pktWords (bankOf a)
  s.wordRate a * (p + 8 : Nat) / (p : Rat) + 25 * ((10 ^ 7 : Nat) / (s.recordFrames a : Rat) + (s.detRate a : Nat))

/-- Records of a bounded run; none where the run is not bounded (R429). -/
def State.boundedRecords (s : State) (a : Nat) : Option Nat :=
  if s.acqMode a = 0 then some 1
  else if s.rf .acq a 7 31 16 = 0 then none
  else some (s.rf .acq a 7 31 16)

/-- Bytes a bounded run is charged in all (R429): its charge over the time of its records (DEDUCED, log entry 47). -/
def State.runBytes (s : State) (a records : Nat) : Nat :=
  (s.unitCharge a * (4 * records * s.recordFrames a : Nat) / (10 ^ 7 : Nat)).ceil.toNat

/-- Spool space that no admitted run has been promised. -/
def State.spaceLeft (s : State) : Nat := s.spoolSize - (s.records.spool.promised.map Prod.snd).sum

/-- The sum of the charges of admitted units that a condition selects. -/
def State.chargedSum (s : State) (p : Nat → Bool) : Rat :=
  (s.records.spool.charged.filter fun e => p e.1).foldl (fun x e => x + (e.2.1 : Rat) / (e.2.2 : Rat)) 0

/-- A share of a rate: its need and what the admitted ones leave of a bound, as whole numbers. -/
def rateDenial (d : Denial) (resource : Nat) (need used bound : Rat) : Denial :=
  { d with err := .notAdmitted, resource := resource, need := need.ceil.toNat, avail := (bound - used).floor.toNat }

/-- Admit the run of unit a (R396, R429). -/
def State.admitUnit (s : State) (a : Nat) : Except Denial State := do
  let d : Denial := { err := .notAdmitted, obj := objCode .acq, inst := a }
  let q := s.unitCharge a
  let bank := s.chargedSum fun u => bankOf u == bankOf a
  let all := s.chargedSum fun _ => true
  demand (bank + q ≤ 200000000) (rateDenial { d with inst := bankOf a } 0x05 q bank 200000000)
  demand (all + q ≤ 400000000) (rateDenial d 0x06 q all 400000000)
  let s := { s with records := { s.records with spool := { s.records.spool with
    charged := insertKey s.records.spool.charged a (q.num.toNat, q.den) } } }
  if !s.pushOn && !s.logOn then return s
  let rates := s.chargedSum fun u => u != a
  let bytes := 4 * (rates + q) + 10 ^ 6
  let egress : Rat := (s.rf .spool 0 1 31 20 * 10 ^ 6 : Nat)
  let journal : Rat := ((s.reg .journal 0 4).toNat * 1024 : Nat)
  match s.boundedRecords a with
  | some n =>
    let need := s.runBytes a n
    if need ≤ s.spaceLeft then
      return { s with records := { s.records with spool := { s.records.spool with
        promised := insertKey s.records.spool.promised a need } } }
    demand ((!s.pushOn || bytes ≤ egress) && (!s.logOn || bytes ≤ journal))
      { d with resource := 0x09, need := need, avail := s.spaceLeft }
    return s
  | none =>
    demand (!s.pushOn || bytes ≤ egress) (rateDenial d 0x07 (4 * q) (4 * rates + 10 ^ 6) egress)
    demand (!s.logOn || bytes ≤ journal) (rateDenial d 0x08 (4 * q) (4 * rates + 10 ^ 6) journal)
    return s

/-- Admit the units of one command, each beside those before it. -/
def State.admitUnits (s : State) : List Nat → Except Denial State
  | [] => .ok s
  | a :: rest => do
    let s ← s.admitUnit a
    s.admitUnits rest

/-- ACQ.ARM (R367, R368, R396, R429, R631, R637). -/
def armUnits (s : State) (r : Req) : Work := do
  let (f, l) ← flagsAndSet .acq 0 r.body
  s.noTimed .acq l
  let d (a : Nat) : Denial := { err := .busy, obj := objCode .acq, inst := a }
  checkAll l fun a => ask (!s.acqRuns a && (find s.records.spool.charged a).isNone) (d a) .busy
  checkAll l fun a => ask (s.acqArmOk a) (d a) .limit
  let s ← s.admitUnits l
  s.submit r .acqArm l f 10000

/-- ACQ.STOP (R371, R628, R637). -/
def stopUnits (s : State) (r : Req) : Work := do
  let (f, l) ← flagsAndSet .acq 0 r.body
  s.noTimed .acq l
  s.submit r .acqStop l f 10000

/-- ACQ.FORCE (R376, R628, R637, R638). -/
def forceUnits (s : State) (r : Req) : Work := do
  let (f, l) ← flagsAndSet .acq 0 r.body
  s.submit r .acqForce l f 10000

/-! ## Transfers into list sources and vector memory (R252, R253, R311, R642) -/

/-- The head of a transfer into memory (R642): instance, count, start and data, k words to an item, of an object type; start has
the given number of bits. -/
def transferOf (o : Obj) (most startBits k : Nat) (body : List Word) : Except Denial (Nat × Nat × Nat × List Word) := do
  require (2 ≤ body.length) .format
  let n := fld (wget body 0) 31 16
  let count := fld (wget body 0) 15 0
  let start := (wget body 1).toNat
  require (start < 2 ^ startBits) .reserved
  require (1 ≤ count && count ≤ most && body.length == 2 + k * count) .format
  demand (n < objCount o) { err := .noObject, obj := objCode o, inst := n }
  return (n, count, start, body.drop 2)

/-- The granules of the list-source store that descriptors have taken. -/
def State.listGranules (s : State) : Nat := (s.sweeps.map fun e => e.2.sources.length).sum

/-- SWEEP.LIST_WRITE (R252, R253, R642, R718): it takes the granules it first writes into, and forms their CRC-32. -/
def writeList (s : State) (r : Req) : Work := do
  let (d, n, first, data) ← transferOf .sweep 512 24 4 r.body
  let no (e : Err) : Denial := { err := e, obj := objCode .sweep, inst := d }
  demand ((upto n).all fun i => fld (wget data (4 * i + 3)) 8 0 == 0) (no .reserved)
  demand (!s.blockRuns .sweep d) (no .busy)
  demand (s.sweepKind d == 1 && first + n ≤ 2 ^ 24) (no .limit)
  let x := s.sweep d
  let fresh := (((upto n).map fun i => (first + i) / 16).eraseDups).filter fun g => (find x.sources g).isNone
  demand (s.listGranules + fresh.length ≤ 1048576) (no .listFull)
  return { state := s.setSweep d (x.writeList first ((upto n).map fun i => payloadOf (data.drop (4 * i)))) }

/-- A PLAY of the running program of bank b names one of the vectors a to b - 1 (R311). -/
def State.vectorsPlayed (s : State) (b lo hi : Nat) : Bool :=
  s.seqRuns (.bank b) && (s.playedSegs (.bank b)).any fun n =>
    let g := s.segm (.bank b) n
    decide (8 * g.first < hi ∧ lo < 8 * (g.first + g.granules))

/-- Write entries into a copy of a memory from an entry on, each with its CHECK (R308). -/
def writeMirrored (first : Nat) (l : List (BitVec 128)) (m : List (Nat × BitVec 144)) : List (Nat × BitVec 144) :=
  l.zipIdx.foldl (fun m p => store m blank (first + p.2) (protect p.1)) m

/-- BSEQ.VEC_WRITE (R311, R642): entries 2v and 2v + 1 of vector v are its words in order (R309). -/
def writeVectors (s : State) (r : Req) : Work := do
  let (b, n, first, data) ← transferOf .bseq 256 19 8 r.body
  let no (e : Err) : Denial := { err := e, obj := objCode .bseq, inst := b }
  s.demandUnlocked r.env.session.toNat .bseq b
  demand (first + n ≤ 524288) (no .limit)
  demand ((data.take (8 * n)).all fun w => (upto 8).all fun k => fld w (4 * k + 3) (4 * k) ≤ 0xC) (no .limit)
  demand (!s.vectorsPlayed b first (first + n)) (no .busy)
  let m := s.vecMem b
  let put := writeMirrored (2 * first) ((upto (2 * n)).map fun i => payloadOf (data.drop (4 * i)))
  return { state := s.setVecMem b { m with vectorA := put m.vectorA, vectorB := put m.vectorB } }

/-- BSEQ.LANE_WRITE (R310, R311, R642). -/
def writeLanes (s : State) (r : Req) : Work := do
  let (b, n, first, data) ← transferOf .bseq 64 14 4 r.body
  let no (e : Err) : Denial := { err := e, obj := objCode .bseq, inst := b }
  s.demandUnlocked r.env.session.toNat .bseq b
  demand (first + n ≤ 16384) (no .limit)
  demand (!s.vectorsPlayed b (32 * first) (32 * (first + n))) (no .busy)
  let m := s.vecMem b
  let put := writeMirrored first ((upto n).map fun i => payloadOf (data.drop (4 * i)))
  return { state := s.setVecMem b { m with laneA := put m.laneA, laneB := put m.laneB } }

end Sys2Proof.Machine
end

