-- ==== Sys2Proof/Machine/Effects.lean ====
section
/-!
DEFINITION. What the device does when a group, a write or a command takes effect, beyond the new words themselves: channels
(R78, R79, R94, R95, R156, R171, R195-R197, R209, R715), routes and pins (R338, R354), sweeps, sequencers, the record path, the
arbiter, time and SYNC, the aux outputs; and the commands that act at a boundary.
-/

namespace Sys2Proof.Machine

/-! ## Channels -/

/-- An UNCONFIGURED channel that meets R78 becomes READY. -/
def State.settle (s : State) (c : Nat) : State :=
  if s.chState c = chUnconfigured && s.trained c && s.mode c != 0 && (s.verifyChan c).isNone then s.setChState c chReady else s

/-- FORCE_MODE = NONE applied to a READY or TRIPPED channel (R79). -/
def State.modeNone (s : State) (c : Nat) : State :=
  if s.mode c = 0 && (s.chState c == chReady || s.chState c == chTripped) then s.setChState c chUnconfigured else s

/-- A changed CAL_SET (R209, R715): on a busy channel the pairs of the ranges in use are evaluated from the new set and those of
other ranges are discarded; on any other channel all are discarded. -/
def State.calSetApplied (old : State) (c : Nat) (s : State) : State :=
  if old.calSetOf c = s.calSetOf c then s
  else if !s.busyChan c then s.dropPairs c
  else if s.uncal c then s
  else
    let used := s.rangesInUse c
    let s := s.calRead c used
    let x := s.chan c
    let done := used.filterMap fun q => (s.evalRange c q.1 q.2 x.cond).map fun p => (rangeKey q.1 q.2, p)
    let keys := used.map fun q => rangeKey q.1 q.2
    let s := s.setChan c { x with pairs := x.pairs.filter (fun p => keys.contains p.1), pairWaits := [] }
    s.awaitPairs c (boundaryAfter s.now) (done.map fun d => (d.1, d.2.1)) (done.any fun d => d.2.2 != 0)

/-- The range that a committed RANGE leaves waiting for a quantity: none where it is active and not being left, or is the target
already (R196, R197). -/
def State.committedRange (s : State) (c : Nat) (current : Bool) : Option Nat :=
  let r := s.selRange c current
  match (s.chan c).change with
  | some k =>
    if k.current = current then (if k.target = r then none else some r)
    else if s.activeRange c current = r then none else some r
  | none => if s.activeRange c current = r then none else some r

/-- A changed VRANGE or IRANGE of a busy channel calls for a range change (R196, R197). -/
def State.rangeApplied (old : State) (c : Nat) (s : State) : State :=
  if !s.busyChan c then s
  else
    s.each [false, true] fun s q =>
      if old.selRange c q = s.selRange c q then s
      else s.setChan c ((s.chan c).setWaiting q (s.committedRange c q))

/-- A change of mode, INNER, POLARITY, SENSE or SRC of a busy channel leaves the inner set-point where it was, and the profile
generator goes on from there, or from the regulated quantity under an outer loop (R95, R156). A change of SENSE alone puts a
channel of CP, CR or THERMAL under its outer loop afresh (DESIGN CHOICE, log entry 104). -/
def State.setPointApplied (old : State) (c : Nat) (s : State) : State :=
  let same := old.mode c == s.mode c && old.innerCurrent c == s.innerCurrent c && old.polarity c == s.polarity c &&
    old.sense c == s.sense c && old.srcSeq c == s.srcSeq c
  if !s.busyChan c || same then s
  else
    let loops := old.mode c != s.mode c || old.sense c != s.sense c
    let s := if s.outerOn c && !loops then s else s.setRb .outer c 0x20 4 false
    let x := s.chan c
    let r := x.ref1
    if s.outerOn c then
      if !loops then s.setChan c { x with ref := r }
      else
        let s := s.setTargetMove c ⟨s.outerValue c x.lastV x.lastI, 0, 0⟩
        s.setChan c { s.chan c with ref := r, innerMove := ⟨r, 0, 0⟩, outer := { Outer.fresh with inner := r, adopt := true } }
    else
      let s := s.setTargetMove c (if old.outerOn c then ⟨r, 0, 0⟩ else { s.targetMove c with p := r })
      s.setChan c { s.chan c with ref := r, innerMove := ⟨r, 0, 0⟩, outer := .fresh }

/-- The notch states of a channel start from zero: the two of section 0, of section 1, or both (R171). -/
def LoopCopy.clearNotch (k : LoopCopy) (first second : Bool) : LoopCopy :=
  let k := if first then { k with n1 := 0, n2 := 0 } else k
  if second then { k with m1 := 0, m2 := 0 } else k

/-- Sections that begin to filter on a channel start from zero state. -/
def State.clearNotch (s : State) (c : Nat) (first second : Bool) : State :=
  let x := s.chan c
  s.setChan c { x with cur := x.cur.clearNotch first second, other := x.other.clearNotch first second }

/-- Group 0 of CHAN is applied. -/
def State.chanApplied (old : State) (c : Nat) (s : State) : State :=
  let s := (s.modeNone c).settle c
  let s := old.calSetApplied c s
  let s := old.rangeApplied c s
  let s := old.setPointApplied c s
  if s.notchEn c && !old.notchEn c then s.clearNotch c true true else s

/-- Group 0 of NOTCH is applied (R171). -/
def State.notchApplied (old : State) (o : Nat) (s : State) : State :=
  let on (k : Nat) : Bool := s.rb .notch o 0 (31 - k) && !old.rb .notch o 0 (31 - k)
  if on 0 || on 1 then s.each (octetChannels o) fun s c => s.clearNotch c (on 0) (on 1) else s

/-- Group 0 of OUTER is applied: a changed DIV or DIV_PHASE starts a new divider period (R148, R157). -/
def State.outerApplied (old : State) (c : Nat) (s : State) : State :=
  if s.busyChan c && old.rf .outer c 0 31 8 != s.rf .outer c 0 31 8 then
    s.setChan c { s.chan c with outer := (s.chan c).outer.restart }
  else s

/-! ## Routes and pins -/

/-- Group 0 of ROUTE is applied: a route that becomes enabled starts by R338. -/
def State.routeApplied (old : State) (r : Nat) (s : State) : State :=
  let on := s.rb .route r 0 31
  let s := s.setRb .route r 0x20 31 on
  if on && !old.rb .route r 0 31 then
    ([0x21, 0x22, 0x23].foldl (fun s f => s.setReg .route r f 0) s).setRf .route r 0x20 15 0 (s.rf .route r 0x10 15 0)
  else s

/-- Group 0 of TRIGPIN is applied (R354, R356; DESIGN CHOICE, log entry 43): a pin that becomes an output drives its inactive level; one that
becomes an input drives nothing and keeps its level until its next edge; INVERT turns the level of an input. -/
def State.pinApplied (old : State) (k : Nat) (s : State) : State :=
  let out := s.rb .trigpin k 0 31
  let was := old.rb .trigpin k 0 31
  if !out && was then
    ({ s with events := { s.events with
      trigOut := eraseKey s.events.trigOut k, toggles := eraseKey s.events.toggles k,
      pulse := eraseKey s.events.pulse k } }).setRb .trigpin k 0x20 31 (old.pinLevel k s.frameCycle)
  else if !out && s.rb .trigpin k 0 28 != old.rb .trigpin k 0 28 then
    s.setRb .trigpin k 0x20 31 (!s.rb .trigpin k 0x20 31)
  else s

/-! ## Time and SYNC (DESIGN CHOICE, log entry 45) -/

/-- Group 0 of TIME is applied: a changed SOURCE begins to be followed afresh. -/
def State.timeApplied (old : State) (s : State) : State :=
  if old.timeSource = s.timeSource then s
  else
    let s := { s with time := { s.time with step := none, slew := 0, timeOpen := false } }
    if 3 ≤ s.rf .time 0 0x21 31 28 then s else s.setTimeState (if s.timeSource = 0 then 0 else 1)

/-- Group 0 of SYNC is applied: a changed ROLE begins afresh. -/
def State.syncApplied (old : State) (s : State) : State :=
  if old.syncRole = s.syncRole then s
  else
    ({ s with time := { s.time with alignRun := 0, out := [], relayed := none, lostAt := none } }).setRb .sync 0 0x20 30 false

/-! ## Groups -/

/-- A group has been applied: old is the state before the ticket. -/
def State.groupApplied (old : State) (g : GroupRef) (s : State) : State :=
  match g.obj with
  | .chan => old.chanApplied g.inst s
  | .loop => s.settle g.inst
  | .outer => (old.outerApplied g.inst s).settle g.inst
  | .notch => old.notchApplied g.inst s
  | .bseq => s.each (s.vectorPins g.inst) fun s j => s.settle (64 * g.inst + j)
  | .route => old.routeApplied g.inst s
  | .trigpin => old.pinApplied g.inst s
  | .arb => s.sharesApplied
  | .time => old.timeApplied s
  | .sync => old.syncApplied s
  | _ => s

/-! ## Writes -/

/-- CLEAR of REPET takes effect: the bins are 0.0 (R164). -/
def State.repetWritten (s : State) (c : Nat) : State :=
  if !s.rb .repet c 1 29 then s
  else
    let lo := regKey .repet c 0x800 0
    let hi := regKey .repet c 0x1000 0
    ({ s with regs := s.regs.filter fun e => e.1 < lo || hi ≤ e.1 }).setRb .repet c 1 29 false

/-- A write of SWEEP takes effect (R250, R253, R718). -/
def State.sweepWritten (old : State) (d f : Nat) (s : State) : State :=
  if f = 0 then s.sweepKindWritten d
  else if f ≠ 0xA then s
  else if s.rb .sweep d 0xA 30 then s.releaseSweep d
  else if s.rb .sweep d 0xA 31 && !old.rb .sweep d 0xA 31 then s.expandStart d
  else s

/-- A write of PATTERN takes effect: a disabled pattern starts afresh (DESIGN CHOICE, log entry 44); one whose HOLD now lies above RUN fires
again when RUN reaches it (R395). -/
def State.patternWritten (p f : Nat) (s : State) : State :=
  if f = 0 && !s.rb .pattern p 0 31 then
    ({ s with patternFired := s.patternFired.filter fun q => q != p }).setReg .pattern p 0x80 0
  else if f = 0 && s.rf .pattern p 0x80 15 0 < s.rf .pattern p 0 15 0 then
    { s with patternFired := s.patternFired.filter fun q => q != p }
  else s

/-- SPOOL.CTRL takes effect: egress goes to the session that last wrote EGRESS_EN = 1, or ends; what was being filled is
sent (R423, R615). -/
def State.egressWritten (old : State) (session : Nat) (s : State) : State :=
  if s.egressOn then
    match s.session session with
    | some x => ({ s with host := { s.host with egress := some ⟨session, x.key, x.src, x.egressPort⟩ } }).sweepSpool
    | none => s.sweepSpool
  else if old.egressOn then
    let s := s.sendDatagram
    let s : State := if s.records.spool.datagram.isEmpty then { s with host := { s.host with egress := none } } else s
    s.sweepSpool
  else s.sweepSpool

/-- A write of SPOOL takes effect. -/
def State.spoolWritten (old : State) (session f : Nat) (s : State) : State :=
  if f = 8 then old.egressWritten session s
  else if 3 ≤ f && f ≤ 6 then
    if s.rb .spool 0 f 31 && !s.records.holdoffUsed.contains (f - 3) then
      { s with records := { s.records with holdoffUsed := s.records.holdoffUsed ++ [f - 3] } }
    else s
  else s.watchSpool

/-- JOURNAL.CTRL takes effect: the end of logging closes the open record, and what every consumer still enabled has taken leaves the
spool (R423, R436). -/
def State.journalWritten (old : State) (f : Nat) (s : State) : State :=
  if f ≠ 8 then s else if old.logOn && !s.logOn then s.journalClose.sweepSpool else s.sweepSpool

/-- One written field has taken effect: old is the state before the writes of the boundary landed. -/
def State.fieldApplied (old : State) (w : LiveWrite) (s : State) (f : Nat) : State :=
  match w.obj with
  | .chan =>
    if f = 0x10 then
      let q := SeqRef.chan w.inst
      s.setSeqx q { s.seqx q with levelBefore := some (s.now, old.reg .chan w.inst 0x10) }
    else if f = 0x50 then s.chanLinkWritten w.inst (old.reg .chan w.inst 0x50) (fun s => s.verifyChan w.inst) else s
  | .bank => if f = 0x40 then s.bankLinkWritten w.inst (old.reg .bank w.inst 0x40) else s
  | .dev =>
    if f = 0x140 || f = 0x141 then s.updateFaultN
    else if f = 0x143 && s.reg .dev 0 0x143 != old.reg .dev 0 0x143 then { s with net := { s.net with unblocked := false } }
    else s
  | .repet => if f = 1 then s.repetWritten w.inst else s
  | .seq => if f = 0x50 then s.rateWritten w.inst (old.lastOutput w.inst) else s
  | .sweep => old.sweepWritten w.inst f s
  | .pattern => State.patternWritten w.inst f s
  | .fifo => if f = 1 then s.watchFill w.inst s.frameCycle else s
  | .spool => old.spoolWritten w.session f s
  | .journal => old.journalWritten f s
  | .aout => if f = 4 then s.aoutLevelApplied w.inst s.now else s
  | _ => s

/-! ## Commands -/

/-- An accepted command acts at the boundary now. -/
def State.commandActs (s : State) (q : TimedReq) : State :=
  match q.kind with
  | .arm => s.armActs q.insts q.flags
  | .disarm => s.disarmActs q.insts q.flags
  | .seqRun => s.each q.insts fun s n => s.runActs (.chan n)
  | .seqStop => s.each q.insts fun s n => s.stopSeq (.chan n) (bitAt q.flags 31)
  | .seqResume => s.each q.insts fun s n => s.resumeSeq (.chan n)
  | .bseqRun => s.each q.insts fun s n => s.runActs (.bank n)
  | .bseqStop => s.each q.insts fun s n => s.stopSeq (.bank n) (bitAt q.flags 31)
  | .bseqResume => s.each q.insts fun s n => s.resumeSeq (.bank n)
  | .acqArm => s.each q.insts State.acqArm
  | .acqStop => s.each q.insts State.acqStop
  | .acqForce => s.each q.insts State.acqForce

/-- The timed command of a number, admitted for a boundary that has come, acts and leaves the almanac. -/
def State.timedActs (s : State) (kinds : List TimedKind) (id : Nat) : State :=
  match s.commits.timed.find? fun q => q.id == id && q.timed && kinds.contains q.kind with
  | none => s
  | some q =>
    if s.now < q.boundary then s
    else
      ({ s with commits := { s.commits with timed := s.commits.timed.filter fun t => t.id != id } }).commandActs q

end Sys2Proof.Machine
end

