-- ==== Sys2Proof/Machine/Commit.lean ====
section
/-!
DEFINITION. Commits, the commit path and the boundaries at which configuration acts: COMMIT, DISCARD, COMMIT_RELEASE and
GROUP_APPLY (R27-R51, R349, R603-R606, R634, R712).
-/

namespace Sys2Proof.Machine

/-! ## COMMIT (R39-R49, R712) -/

/-- The groups of the pending tickets that a condition selects are applied, in the order of acceptance. -/
def State.afterTickets (s : State) (which : Ticket → Bool) (s' : State) : State :=
  s'.each ((s.commits.tickets.filter which).flatMap Ticket.snapshot) fun s b => s.writeGroup b.ref b.words

/-- The state that will hold once this commit has applied at a boundary: after every earlier pending ticket that names its
groups or that applies no later (R118, R712); pending ROUTE and TRIGPIN groups are applied too (R347). -/
def State.composed (s : State) (groups : List GroupRef) (boundary : Nat) : State :=
  let s' := s.afterTickets (fun t => decide (t.boundary ≤ boundary)) s
  let s' := s'.each ((s.commits.tickets.filter fun t => decide (boundary < t.boundary)).flatMap Ticket.snapshot) fun s b =>
    if groups.contains b.ref || b.ref.obj == .route || b.ref.obj == .trigpin then s.writeGroup b.ref b.words else s
  s'.each groups fun s' g => match s.buffer g with
    | some b => s'.writeGroup g b.words
    | none => s'

/-- The states that the pending tickets with later boundaries will make of s'. -/
def State.laterViews (s s' : State) (boundary : Nat) : List State :=
  (s.commits.tickets.filter fun t => decide (boundary < t.boundary)).map fun t =>
    s.afterTickets (fun u => decide (boundary < u.boundary) && decide (u.boundary ≤ t.boundary)) s'

/-- Each named group has a staging buffer owned by the session (R40). -/
def State.groupsStaged (s : State) (session : Nat) (groups : List GroupRef) : Except Denial Unit :=
  checkItems groups fun g =>
    let d : Denial := { err := .nothingStaged, obj := objCode g.obj, group := g.group, inst := g.inst }
    match s.buffer g with
    | none => .error d
    | some b => demand (b.owner == session) { d with err := .stagedByOther }

/-- E_LOCKED where a group's object is locked against a session. -/
def State.groupUnlocked (s : State) (session : Nat) (g : GroupRef) : Except Denial Unit :=
  match s.demandUnlocked session g.obj g.inst with
  | .ok _ => .ok ()
  | .error d => .error { d with group := g.group }

/-- The lead work of a commit: 4 µs + 4 ns for each staged word + 0.5 µs for each group (R48). -/
def commitLead (snapshot : List Staging) : Nat :=
  4000 + 4 * (snapshot.map fun b => b.words.length).sum + 500 * snapshot.length

/-- The channels whose loop program a group takes part in. -/
def State.programsOf (s : State) (g : GroupRef) : List Nat :=
  match g.obj with
  | .chan | .loop => [g.inst]
  | .notch => (octetChannels g.inst).filter s.notchEn
  | _ => []

/-- The state that will hold once every pending ticket has applied. -/
def State.committed (s : State) : State := s.afterTickets (fun _ => true) s

/-- COST of the programs that some groups take part in is that of the program committed last: as it will be once every pending
ticket has applied (R137, R142). -/
def State.renewCosts (s : State) (groups : List GroupRef) : State :=
  let v := s.committed
  s.each ((groups.flatMap fun g => s.programsOf g ++ v.programsOf g).eraseDups) fun s c => s.recordCost c (v.loopCost c)

/-- Every program a group takes part in keeps its budget, when the group applies and under each ticket that applies later
(R63, R103, R137). -/
def laterBudgets (views : List State) (g : GroupRef) (d : Denial) : Except Denial Unit :=
  checkAll views fun v => checkAll (v.programsOf g) fun c => v.budgetCheck c d

/-- COMMIT (R39-R42, R46, R47, R603-R605, R634, R712). The cost of each program it checked is recorded (R137, R142). A commit
without an apply time is answered when its release word is written (R46, R601). -/
def commitGroups (s : State) (r : Req) : Work := do
  let session := r.env.session.toNat
  let groups ← groupsOf r.body
  checkItems groups fun g => s.groupUnlocked session g
  s.groupsStaged session groups
  let at? ← s.applyTime r.env
  let snapshot := s.commits.staging.filter fun b => groups.contains b.ref
  let lead := commitLead snapshot
  let earlier := ((groups.flatMap s.ticketsNaming).map Ticket.boundary).foldl max 0
  let ends := s.leadEnds earlier lead
  let boundary := at?.getD (nextMultiple 100 ends)
  let s' := s.composed groups boundary
  checkAll groups.zipIdx fun p => do
    let d : Denial := { err := .limit, item := p.2, obj := objCode p.1.obj, group := p.1.group, inst := p.1.inst }
    groupCheck s s' p.1 d
    laterBudgets (s.laterViews s' boundary) p.1 d
  if groups.any (fun g => g.obj == .route || g.obj == .trigpin) then routeGraphCheck groups s'
  let free := (upto 16).filter fun n => !s.commits.tickets.any fun t => t.num == n
  demand (!free.isEmpty) { err := .commitFull, resource := 0x0D, need := 1 }
  match at? with
  | some t =>
    s.almanacRoom
    s.admitLead earlier lead t
  | none => pure ()
  let (k, s) := s.draw
  let num := pick k free
  let t : Ticket := ⟨num, s.commits.accepted, session, snapshot, at?.isSome, ends, boundary, false, byMeridian r.env,
    if at?.isSome then none else some r⟩
  let s := { s with commits := { s.commits with
    staging := s.commits.staging.filter fun b => !groups.contains b.ref,
    tickets := s.commits.tickets ++ [t], pathBusy := ends, accepted := s.commits.accepted + 1 } }
  return { state := s.renewCosts groups, body := [word num], time := some boundary, later := at?.isNone }

/-- DISCARD (R37, R40, R634). -/
def discardGroups (s : State) (r : Req) : Work := do
  let groups ← groupsOf r.body
  s.groupsStaged r.env.session.toNat groups
  return { state := { s with commits := { s.commits with
    staging := s.commits.staging.filter fun b => !groups.contains b.ref } } }

/-! ## Tickets that miss their boundary (R49, R349, R712) -/

/-- Return a snapshot to the staging buffers that are still empty, owned by the session that issued the commit; it is dropped
where that session has ended, which left the ticket without one (R49). -/
def State.returnSnapshot (s : State) (t : Ticket) : State :=
  if (s.session t.session).isNone then s
  else
    s.each t.snapshot fun s b =>
      if (s.buffer b.ref).isSome then s
      else { s with commits := { s.commits with staging := s.commits.staging ++ [{ b with owner := t.session }] } }

/-- The request of a ticket is not at work any more; it stays unanswered (R557; DESIGN CHOICE, log entry 94). -/
def State.dropAnswer (s : State) (t : Ticket) : State :=
  match t.answer, s.session t.session with
  | some r, some x => s.setSession t.session { x with executing := x.executing.filter (· != r.env.seq.toNat) }
  | _, _ => s

/-- Discard one ticket: nothing of it is applied, COST shows the programs without it, and N_COMMIT_MISSED names it and its groups
(R49, R142). -/
def State.discardTicket (s : State) (t : Ticket) : State :=
  let s := { s with commits := { s.commits with
    tickets := s.commits.tickets.filter fun u => u.order != t.order,
    shadows := s.commits.shadows.filter fun x => x.ticket != t.num } }
  let s := ((s.returnSnapshot t).dropAnswer t).renewCosts (t.snapshot.map Staging.ref)
  s.notify 0x0205 .dev 0
    ([t.num, t.snapshot.length] ++
      t.snapshot.map fun b => objCode b.ref.obj * 2 ^ 24 + b.ref.group * 2 ^ 16 + b.ref.inst)

/-- Whether a ticket names a ROUTE or TRIGPIN group. -/
def Ticket.routes (t : Ticket) : Bool := t.snapshot.any fun b => b.ref.obj == .route || b.ref.obj == .trigpin

/-- Whether a later ticket falls with an earlier one: it names one of its groups (R712), or both name ROUTE or TRIGPIN
groups (R349). -/
def Ticket.fallsWith (later earlier : Ticket) : Bool :=
  decide (earlier.order < later.order) &&
    ((later.routes && earlier.routes) ||
      later.snapshot.any fun b => earlier.snapshot.any fun c => c.ref == b.ref)

/-- Discard a ticket and every later one that falls with it, in order (R49, R349, R712). -/
def State.missTickets : Nat → List Ticket → State → State
  | 0, _, s => s
  | _, [], s => s
  | fuel + 1, t :: rest, s =>
    let more := s.commits.tickets.filter fun u => u.fallsWith t && !rest.any fun v => v.order == u.order
    State.missTickets fuel (rest ++ more) (s.discardTicket t)

/-- A pending ticket misses its boundary. -/
def State.missTicket (s : State) (t : Ticket) : State := State.missTickets 16 [t] s

/-! ## COMMIT_RELEASE (R43, R46, R49, R712) -/

/-- The commit of a ticket without an apply time is answered with the boundary at which it applies (R46, R601); an answer that
its core has lost is not given (R557). -/
def State.answerCommit (s : State) (t : Ticket) (boundary : Nat) : State :=
  match t.answer, s.session t.session with
  | some r, some x =>
    if x.executing.contains r.env.seq.toNat then s.reply t.session x.key r 0 (s.shown boundary) [word t.num] else s
  | _, _ => s

/-- The lead work of ticket num ends: its shadow copies, flags and release word are written, unless an earlier ticket still
names one of its groups; a release after the boundary of a timed commit misses it; a commit without an apply time acts at
the first boundary after it. -/
def State.commitRelease (s : State) (num : Nat) : State :=
  match s.commits.tickets.find? fun t => t.num == num && !t.released with
  | none => s
  | some t =>
    let blocked := s.commits.tickets.any fun u =>
      decide (u.order < t.order) && u.snapshot.any fun b => t.snapshot.any fun c => c.ref == b.ref
    if s.now + 100 ≤ t.leadEnd || blocked || s.faults.restart.isSome then s
    else if t.boundary ≤ s.now && t.timed then s.missTicket t
    else
      let boundary := if t.timed then t.boundary else s.nextBoundary
      let shadows := t.snapshot.map fun b => (⟨b.ref, num, b.words⟩ : Shadow)
      let tickets := s.commits.tickets.map fun u =>
        if u.order == t.order then { u with released := true, boundary := boundary, answer := none } else u
      ({ s with commits := { s.commits with shadows := s.commits.shadows ++ shadows, tickets := tickets } }).answerCommit t boundary

/-! ## GROUP_APPLY (R27, R29, R30, R33, R44, R50) -/

/-- Apply the shadow copies of one released ticket together, then let each group act. -/
def State.applyTicket (s : State) (t : Ticket) : State :=
  let old := s
  let mine := s.commits.shadows.filter fun x => x.ticket == t.num
  let s := { s with commits := { s.commits with
    tickets := s.commits.tickets.filter fun u => u.order != t.order,
    shadows := s.commits.shadows.filter fun x => x.ticket != t.num } }
  let s := s.each mine fun s x => s.writeGroup x.ref x.words
  s.each mine fun s x => old.groupApplied x.ref s

/-- The value a live, K, SC or W1C write leaves in a word (R14). -/
def mergedWord (row : Option FieldRow) (old new : Word) : Word :=
  match row with
  | some r => match r.cls with
    | .w1c => old &&& ~~~new
    | .mixed _ selfClear => new ||| (old &&& word selfClear)
    | _ => new
  | none => new

/-- When the written words of a class land at a boundary: W1C clears before anything of the boundary can set a bit again
(R16), class K values before any block starts (R32), and all others after the groups (R33). -/
inductive Landing where
  | clear | locked | live
  deriving DecidableEq, Repr

/-- When the words of a field land. -/
def landing (o : Obj) (f : Nat) : Landing :=
  match (fieldRowForWrite o (f % 0x8000)).map FieldRow.cls with
  | some .w1c => .clear
  | some .locked => .locked
  | _ => .live

/-- The words of a write that land now. -/
def State.landWords (s : State) (k : Landing) (w : LiveWrite) : State :=
  s.each (w.words.filter fun x => landing w.obj x.field == k) fun s x =>
    s.setRegAt w.obj w.inst x.field x.idx
      (mergedWord (fieldRow w.obj x.field) (s.regAt w.obj w.inst x.field x.idx) x.value)

/-- A write names field f of an object. -/
def LiveWrite.names (w : LiveWrite) (o : Obj) (n f : Nat) : Bool :=
  w.obj == o && w.inst == n && w.words.any fun x => x.field == f

/-- The fields written by writes of one boundary, each with the last write of it, in the order of those writes: an earlier
value of a field never acts (R30). -/
def lastWrites : List LiveWrite → List (LiveWrite × Nat)
  | [] => []
  | w :: r =>
    (((w.words.map FieldWord.field).eraseDups.filter fun f => !r.any fun v => v.names w.obj w.inst f).map fun f => (w, f)) ++
      lastWrites r

/-- The live writes of a boundary land, then every field written acts, once (R30, R33). -/
def State.applyWrites (s : State) (writes : List LiveWrite) : State :=
  let old := s
  let s := s.each writes fun s w => s.landWords .live w
  s.each (lastWrites writes) fun s p => old.fieldApplied p.1 s p.2

/-- The state changes that a number of frames without any other happening bring: sequencer outputs beyond the limits are counted
(R270). -/
def State.framesPass (s : State) (n : Nat) : State :=
  s.each (s.listed .seq 0x60 0) fun s c => s.countClamps c n

/-- Boundary b comes: device time and patterns follow it (DESIGN CHOICE, log entry 95: patterns are evaluated on the state
bits as the frame before left them, so before the groups and writes of the boundary, of which R33 and R395 say nothing);
then everything due at it acts in the order of R33: staged groups in the
order their commits were accepted, live and K writes in the order they were accepted, then the untimed commands. -/
def State.applyBoundary (s : State) (b : Nat) : State :=
  let n := (b - s.now) / 100
  let s := s.framesPass n
  let s := ({ s with clock := s.clock + (b - s.now), now := b }).timeBoundary n
  let s := s.evalPatterns n
  let writes := s.commits.liveWrites.filter fun w => decide (w.boundary ≤ s.now)
  let s := { s with commits := { s.commits with
    liveWrites := s.commits.liveWrites.filter fun w => decide (s.now < w.boundary) } }
  let s := s.each writes fun s w => (s.landWords .clear w).landWords .locked w
  let due := s.commits.tickets.filter fun t => t.released && decide (t.boundary ≤ s.now)
  let s := s.each due State.applyTicket
  let s := s.applyWrites writes
  let cmds := s.commits.timed.filter fun q => !q.timed && decide (q.boundary ≤ s.now)
  let s := { s with commits := { s.commits with
    timed := s.commits.timed.filter fun q => q.timed || decide (s.now < q.boundary) } }
  let s := s.each cmds State.commandActs
  { s with time := { s.time with symbol := s.syncOut } }

/-- The earliest boundary after now, up to t, at which something is due; t itself where nothing is. -/
def State.nextDue (s : State) (t : Nat) : Nat :=
  let times := ((s.commits.tickets.filter fun k => k.released).map Ticket.boundary) ++
    s.commits.liveWrites.map LiveWrite.boundary ++
    ((s.commits.timed.filter fun q => !q.timed).map TimedReq.boundary)
  (times.filter fun x => decide (s.now < x)).foldl min t

/-- Advance boundary by boundary to t. -/
def State.advanceTo : Nat → Nat → State → State
  | 0, _, s => s
  | fuel + 1, t, s =>
    let b := s.nextDue t
    let s := s.applyBoundary b
    if t ≤ b then s else State.advanceTo fuel t s

/-- Device time is to be loaded or stepped at the next boundary (R493, R495). -/
def State.timeJumps (s : State) : Bool := s.time.load.isSome || s.steps

/-- GROUP_APPLY up to device frame boundary t: boundaries at which nothing is due may be passed over (DESIGN CHOICE, log entry 5); where device
time is about to jump, the next boundary is the last. While no firmware runs, only time passes. -/
def State.groupApply (s : State) (t : Nat) : State :=
  let t := min t timeSpan
  if t % 100 ≠ 0 || t ≤ s.now then s
  else if s.boot.phase ≠ .running then { s with clock := s.clock + (t - s.now), now := t % timeSpan }
  else if s.timeJumps then s.applyBoundary s.nextBoundary
  else State.advanceTo (s.commits.tickets.length + s.commits.liveWrites.length + s.commits.timed.length + 1) t s

end Sys2Proof.Machine
end

