-- ==== Sys2Proof/Machine/HostCommands.lean ====
section
/-!
DEFINITION. Commands that act on the host side, the locks, the router's consumers, the record path, the journal and the aux
island (R345, R412, R428-R438, R526, R553-R556, R567, R611, R617, R618, R633-R646, R670-R674, R680-R683).
-/

namespace Sys2Proof.Machine

/-- Words a reply body of a session may have (R594, R630). -/
def State.replyRoom (s : State) (r : Req) : Nat :=
  match s.session r.env.session.toNat with
  | some x => (x.maxReply - 40) / 4
  | none => 0

/-- A command without a body (R633, R645). -/
def emptyBody (r : Req) : Except Denial Unit := require r.body.isEmpty .format

/-- SESSION.CLOSE (R598, R633). -/
def closeSession (s : State) (r : Req) : Work := do
  emptyBody r
  return { state := s.endSession r.env.session.toNat 1 }

/-- SESSION.PING (R598, R633): it costs its tokens and does nothing else. -/
def pingSession (s : State) (r : Req) : Work := do
  emptyBody r
  return { state := s }

/-! ## Fault log and notices -/

/-- An entry of the fault log as DEV.FAULT_READ returns it (R567). -/
def FaultEntry.words (e : FaultEntry) (lost : Bool) : List Word :=
  [word (e.cause * 2 ^ 16 + e.lasting.toNat * 2 ^ 15 + lost.toNat * 2 ^ 14 + e.obj),
   word (e.inst * 2 ^ 16 + min 65535 e.count)] ++ wordsOf 2 e.time

/-- N and MORE in word 0 of a reading command's reply (R643). -/
def countWord (n : Nat) (more : Bool) : Word := word (more.toNat * 2 ^ 31 + n)

/-- DEV.FAULT_READ (R567, R630, R643): oldest first, freed. -/
def readFaults (s : State) (r : Req) : Work := do
  require (r.body.length == 1) .format
  let m := fld (wget r.body 0) 8 0
  require (fld (wget r.body 0) 31 9 == 0) .reserved
  require (1 ≤ m && m ≤ 256) .format
  let n := min (min m s.faults.log.length) ((s.replyRoom r - 1) / 4)
  let out := s.faults.log.take n
  let words := match out with
    | [] => []
    | e :: rest => e.words s.faults.logLost ++ rest.flatMap fun x => x.words false
  let left := s.faults.log.drop n
  let s := { s with faults := { s.faults with log := left, logLost := s.faults.logLost && out.isEmpty } }
  return { state := s, body := countWord n (!left.isEmpty) :: words }

/-- As many items from the front of a list as fit in a number of words. -/
def takeFitting (room : Nat) : List (List Word) → List (List Word)
  | [] => []
  | a :: r => if a.length ≤ room then a :: takeFitting (room - a.length) r else []

/-- DEV.NOTICE_READ (R611, R630, R643). -/
def readNotices (s : State) (r : Req) : Work := do
  require (r.body.length == 3) .format
  let m := fld (wget r.body 2) 6 0
  require (fld (wget r.body 2) 31 7 == 0) .reserved
  require (1 ≤ m && m ≤ 64) .limit
  let first := dword r.body 0
  let waiting := s.host.ring.filter fun x => decide (first ≤ x.nseq)
  let lost := match s.host.ring with
    | [] => decide (first ≤ s.host.nseq && 1 ≤ first)
    | x :: _ => decide (first < x.nseq && 1 ≤ first)
  let out := takeFitting (s.replyRoom r - 1) ((waiting.take m).map noticePayload)
  let w := putBit (countWord out.length (decide (out.length < waiting.length))) 30 lost
  return { state := s, body := w :: out.flatten }

/-! ## Locks (R553-R556, R646) -/

/-- The object a lock command names: CHAN, SEQ or BSEQ only. -/
def lockTarget (w : Word) : Except Denial (Obj × Nat) := do
  require (fld w 23 16 == 0) .reserved
  let named (o : Obj) : Except Denial (Obj × Nat) := do
    demand (fld w 15 0 < objCount o) { err := .noObject, obj := objCode o, inst := fld w 15 0 }
    return (o, fld w 15 0)
  match objOfCode (fld w 31 24) with
  | some .chan => named .chan
  | some .seq => named .seq
  | some .bseq => named .bseq
  | _ => refuse .limit

/-- A refusal that names the object of a lock command. -/
def lockDenial (e : Err) (o : Obj) (n : Nat) : Denial := { err := e, obj := objCode o, inst := n }

/-- The lock on an object. -/
def State.lockOn (s : State) (o : Obj) (n : Nat) : Option (Nat × Lock) :=
  s.faults.locks.find? fun e => e.2.obj == o && e.2.inst == n

/-- Replace a lock. -/
def State.setLock (s : State) (i : Nat) (l : Lock) : State :=
  { s with faults := { s.faults with locks := insertKey s.faults.locks i l } }

/-- The lease a lock command carries, in ms, 1 to 60,000. -/
def leaseOf (body : List Word) : Except Denial Nat := do
  let ms := (wget body 1).toNat
  require (1 ≤ ms && ms ≤ 60000) .limit
  return ms

/-- LOCK.TAKE (R553, R646): the lowest free lock. -/
def takeLock (s : State) (r : Req) : Work := do
  require (r.body.length == 2) .format
  let (o, n) ← lockTarget (wget r.body 0)
  let ms ← leaseOf r.body
  demand (s.lockOn o n).isNone (lockDenial .locked o n)
  match (upto 1024).find? fun i => (find s.faults.locks i).isNone with
  | none => .error (lockDenial .lockFull o n)
  | some i =>
    let l : Lock := ⟨o, n, sessionMaster r.env.session.toNat, some (s.clock + ms * 10 ^ 6)⟩
    return { state := s.setLock i l, body := [word i] }

/-- The lock of an object, owned by the requesting session and not orphaned. -/
def ownLock (s : State) (r : Req) (o : Obj) (n : Nat) : Except Denial (Nat × Lock) :=
  match s.lockOn o n with
  | some (i, l) =>
    if l.owner == sessionMaster r.env.session.toNat && l.leased s.clock then .ok (i, l) else .error (lockDenial .locked o n)
  | none => .error (lockDenial .locked o n)

/-- LOCK.RENEW (R553, R646). -/
def renewLock (s : State) (r : Req) : Work := do
  require (r.body.length == 2) .format
  let (o, n) ← lockTarget (wget r.body 0)
  let ms ← leaseOf r.body
  let (i, l) ← ownLock s r o n
  return { state := s.setLock i { l with leaseEnds := some (s.clock + ms * 10 ^ 6) } }

/-- LOCK.RELEASE (R553, R646). -/
def releaseLock (s : State) (r : Req) : Work := do
  require (r.body.length == 1) .format
  let (o, n) ← lockTarget (wget r.body 0)
  let (i, _) ← ownLock s r o n
  return { state := { s with faults := { s.faults with locks := eraseKey s.faults.locks i } } }

/-- LOCK.RECLAIM (R556, R646). -/
def reclaimLock (s : State) (r : Req) : Work := do
  require (r.body.length == 2) .format
  let (o, n) ← lockTarget (wget r.body 0)
  let ms ← leaseOf r.body
  match s.lockOn o n with
  | some (i, l) =>
    demand (!l.leased s.clock) (lockDenial .notOrphaned o n)
    let l := { l with owner := sessionMaster r.env.session.toNat, leaseEnds := some (s.clock + ms * 10 ^ 6) }
    return { state := s.setLock i l, body := [word i] }
  | none => .error (lockDenial .notOrphaned o n)

/-- LEASE_EXPIRY of lock i (R554): a lease that has run out is ORPHANED. -/
def State.leaseExpiry (s : State) (i : Nat) : State :=
  match find s.faults.locks i with
  | some l =>
    match l.leaseEnds with
    | some t =>
      if t ≤ s.clock then
        (s.setLock i { l with leaseEnds := none }).notify 0x0602 .lock i [objCode l.obj * 2 ^ 24 + l.inst, l.owner]
      else s
    | none => s
  | none => s

/-! ## Consumers of the router (R345, R641) -/

/-- The single identifier a command of R641 carries. -/
def identifier (r : Req) : Except Denial Nat := do
  require (r.body.length == 1) .format
  require (fld (wget r.body 0) 31 16 == 0) .reserved
  return fld (wget r.body 0) 15 0

/-! ## Record path -/

/-- FIFO.FLUSH (R414, R637). -/
def flushFifos (s : State) (r : Req) : Work := do
  let (_, l) ← flagsAndSet .fifo 0 r.body
  return { state := s.each l State.flushFifo }

/-- SPOOL.READ (R412, R617, R643). -/
def readSpoolPackets (s : State) (r : Req) : Work := do
  require (r.body.length == 1) .format
  let w := wget r.body 0
  require (fld w 30 16 == 0) .reserved
  require (64 ≤ fld w 15 0 && fld w 15 0 ≤ 8912) .limit
  let sp := s.records.spool
  let start := if bitAt w 31 then sp.acknowledged else sp.delivered
  let left := sp.packets.filter fun p => decide (start < p.cursorEnd)
  if !s.pullOn || left.isEmpty then
    let tag := word (0x000F0000 + (if s.pullOn then 1 else 2))
    return { state := s, body := [0] ++ wordsOf 2 start ++ wordsOf 2 start ++ [tag] }
  let room := min (fld w 15 0 / 4) (s.replyRoom r - 5)
  let reads := readPackets (s.rb .spool 0 0x20 30) left.length left
  let out := takeFitting room (reads.map SpoolRead.words)
  let first := match left with
    | p :: _ => p.cursorEnd - pktBytes p.words
    | [] => start
  let taken := reads.take out.length
  let next := match taken.getLast? with
    | some x => x.covered
    | none => start
  let s := s.each taken State.countRead
  let s := { s with records := { s.records with spool := { s.records.spool with delivered := next } } }
  return { state := s,
           body := countWord out.length (decide (out.length < reads.length)) :: (wordsOf 2 first ++ wordsOf 2 next ++
             out.flatten) }

/-- SPOOL.ACK (R423, R618, R645): a cursor at a packet boundary, not beyond what was delivered. -/
def ackSpool (s : State) (r : Req) : Work := do
  require (r.body.length == 2) .format
  let c := dword r.body 0
  let sp := s.records.spool
  let onEdge := c == sp.acknowledged || sp.packets.any fun p => p.cursorEnd == c || p.cursorEnd - pktBytes p.words == c
  require (c ≤ sp.delivered && onEdge) .limit
  let s := { s with records := { s.records with spool := { sp with acknowledged := max c sp.acknowledged } } }
  return { state := s.takeUpTo c fun p => { p with pullTaken := true } }

/-- SPOOL.DISCARD (R428, R645). -/
def discardSpool (s : State) (r : Req) : Work := do
  emptyBody r
  require (!s.rb .spool 0 8 31 && !s.logOn) .busy
  return { state := s.spoolDiscard }

/-- JOURNAL.OPEN (R438, R629, R644). -/
def openJournal (s : State) (r : Req) : Work := do
  emptyBody r
  require (s.rf .journal 0 0 31 28 != 0) .notReady
  require (!s.logOn) .busy
  return { state := s.journalOpen }

/-- Byte offsets of the packets of a record. -/
def packetOffsets (l : List (List Word)) : List Nat :=
  l.foldl (fun acc p => acc ++ [acc.getLastD 0 + pktBytes p]) [0]

/-- JOURNAL.READ (R435, R643, R644). -/
def readJournal (s : State) (r : Req) : Work := do
  require (r.body.length == 4) .format
  require (fld (wget r.body 3) 31 16 == 0) .reserved
  let maxBytes := fld (wget r.body 3) 15 0
  require (64 ≤ maxBytes && maxBytes ≤ 8912) .limit
  require (s.rb .journal 0 0x20 31) .notReady
  let jseq := dword r.body 0
  let offset := (wget r.body 2).toNat
  match s.jValid.find? fun x => x.jseq == jseq with
  | none => refuse .noRecord
  | some rec =>
    require (s.wide .journal 0 0x21 2 ≤ jseq && jseq < s.jNext) .noRecord
    let offs := packetOffsets rec.packets
    require (offs.contains offset) .limit
    let skip := offs.idxOf offset
    let room := min (maxBytes / 4) (s.replyRoom r - 9)
    let out := takeFitting room (rec.packets.drop skip)
    let atEnd := decide (skip + out.length = rec.packets.length)
    let newest := !(s.jValid.any fun x => decide (jseq < x.jseq))
    let next := offs.getD (skip + out.length) 0
    return { state := s,
             body := [countWord out.length (!atEnd), word (atEnd.toNat * 2 ^ 31 + newest.toNat * 2 ^ 30)] ++
               wordsOf 2 jseq ++ [word next] ++ wordsOf 2 rec.openTime ++ wordsOf 2 rec.closeTime ++ out.flatten }

/-! ## The aux analog island -/

/-- The boundary at which a command to the aux island takes effect (R28). -/
def State.auxBoundary (s : State) (e : Envelope) : Nat := s.writeBoundary e .hk

/-- AOUT.RUN (R680, R685). -/
def runAouts (s : State) (r : Req) : Work := do
  let (_, l) ← flagsAndSet .aout 0 r.body
  checkAll l fun k => demand (!s.aoutStartBusy k) { err := .busy, obj := objCode .aout, inst := k }
  let b := s.auxBoundary r.env
  return { state := s.each l fun s k => s.aoutRun k b, time := some b }

/-- AOUT.STOP (R681). -/
def stopAouts (s : State) (r : Req) : Work := do
  let (_, l) ← flagsAndSet .aout 0 r.body
  let b := s.auxBoundary r.env
  return { state := s.each l fun s k => s.requestStop k b, time := some b }

/-- AOUT.WAVE_WRITE (R642, R683): two samples to a word, the first in its high half. -/
def writeWave (s : State) (r : Req) : Work := do
  require (2 ≤ r.body.length) .format
  let k := fld (wget r.body 0) 31 16
  let n := fld (wget r.body 0) 15 0
  require (fld (wget r.body 1) 31 16 == 0) .reserved
  let first := fld (wget r.body 1) 15 0
  require (1 ≤ n && n ≤ 4096 && r.body.length == 2 + ceilDiv n 2) .format
  demand (k < 8) { err := .noObject, obj := objCode .aout, inst := k }
  require (first + n ≤ 65536) .limit
  demand (!s.aoutPlaying k) { err := .busy, obj := objCode .aout, inst := k }
  let data := r.body.drop 2
  return { state := s.each (upto n) fun s i =>
    let w := wget data (i / 2)
    s.setWave k (first + i) (BitVec.ofNat 16 (if i % 2 = 0 then fld w 31 16 else fld w 15 0)) }

/-- HK.RUN (R670, R686): slot 0 becomes due as soon as the command has crossed. -/
def runHk (s : State) (r : Req) : Work := do
  emptyBody r
  require (!s.rb .hk 0 0x20 31) .busy
  require ((upto (s.rf .hk 0 2 31 26 + 1)).all fun i => s.hkInput (s.hkSlotInput i)) .limit
  let s := s.setRb .hk 0 0x20 31 true
  return { state := { s with hk := { s.hk with slot := 0, due := some s.now, slotWaits := false } } }

/-- HK.STOP (R674). -/
def stopHk (s : State) (r : Req) : Work := do
  emptyBody r
  return { state := s.hkStopSeq }

/-- HK.CONVERT (R629, R672). -/
def convertHk (s : State) (r : Req) : Work := do
  require (r.body.length == 1) .format
  require (fld (wget r.body 0) 31 5 == 0) .reserved
  let n := fld (wget r.body 0) 4 0
  require (s.hk.hostWaits.isNone && !(match s.hk.conv with
    | some c => c.origin == 1
    | none => false)) .busy
  require (s.hkInput n) .limit
  let s := s.setRb .hk 0 0x24 31 false
  if s.hk.conv.isSome then
    return { state := ({ s with hk := { s.hk with hostWaits := some n } }).setRb .hk 0 0x20 22 true }
  else
    return { state := s.hkStart n 1 s.now }

end Sys2Proof.Machine
end

