-- ==== Sys2Proof/Machine/Network.lean ====
section
/-!
DEFINITION. The network attachment: the internal switch, pause, ring protection, enumeration, addresses, ARP, neighbour
discovery and echo, stream datagrams (R560-R563, R570-R586, R619-R621).
-/

namespace Sys2Proof.Machine

/-! ## Addresses (R582) -/

/-- The broadcast address. -/
def broadcastMac : Nat := 2 ^ 48 - 1

/-- The IPv6 link-local address of a MAC address: fe80::/64 with a modified EUI-64 interface identifier (R582). -/
def linkLocal (mac : Nat) : Nat :=
  0xFE80 * 2 ^ 112 + (mac / 2 ^ 24 ^^^ 0x020000) * 2 ^ 40 + 0xFFFE * 2 ^ 24 + mac % 2 ^ 24

/-- IP4.ADDR and IP6.ADDR; 0 for none. -/
def State.ip4 (s : State) : Nat := (s.regAt .dev 0 0x181 0).toNat
def State.ip6 (s : State) : Nat := ofWords ((upto 4).map fun w => s.regAt .dev 0 0x182 w)

/-! ## Forwarding (R560, R571-R574) -/

/-- Forward a frame received on port p: one addressed to the device goes no further (R571). -/
def State.forwardOut (s : State) (p : Port) (f : EthFrame) : State :=
  if f.dst = s.ownMac then s
  else s.passFrame p 4 (.forward (otherPort p) f.src f.dst f.etherType f.length f.vlan f.payload)

/-- Pass an enumeration frame on by R571. -/
def State.passOn (s : State) (f : EnumFrame) : State := s.passFrame f.port 4 (.enum (otherPort f.port) f.src f.dst f.vlan f.bytes)

/-- An enumeration frame of a type: a frame with another PROTO is forwarded and otherwise ignored (R570, R576). -/
def State.takeEnum (s : State) (f : EnumFrame) (type : Nat) (act : State → State) : State :=
  if f.proto = 0xD5 ∧ f.type ≠ type then s
  else s.takeFrame f.port f.src f.bytes.length fun s =>
    if f.proto = 0xD5 then act s else if f.dst = s.ownMac then s else s.passOn f

/-- FRAME_FORWARD: a frame that no other row handles (R570-R572, R575, R583, R586). A datagram with a wrong checksum is dropped and counted
where it reaches the device; a group's is forwarded all the same. -/
def State.frameForward (s : State) (p : Port) (f : EthFrame) : State :=
  if !s.switching then s
  else if !f.fcsOk then s.count .port (portNum p) 0x24
  else s.takeFrame p f.src f.length fun s =>
    (if f.badChecksum && s.reaches f.dst then s.count .port (portNum p) 0x23 else s).forwardOut p f

/-- ADDRESS_AGE_OUT: 300 s after an address was last seen (R572). -/
def State.ageOut (s : State) (mac : Nat) : State :=
  { s with net := { s.net with
    learned := s.net.learned.filter fun e => e.mac != mac || decide (s.clock + 100 ≤ e.seen + 300 * 10 ^ 9) } }

/-- Flush the address table. -/
def State.flushTable (s : State) : State := { s with net := { s.net with learned := [] } }

/-! ## Pause (R574) -/

/-- The end of a port's pause: what waited leaves in strict priority. -/
def State.endPause (s : State) (p : Port) : State :=
  let s := ({ s with net := { s.net with pauseEnds := eraseKey s.net.pauseEnds (portNum p) } }).setRb .port (portNum p) 0x20 27 false
  (s.drainPort p).watchQueue (otherPort p)

/-- PAUSE_FRAME received on port p: its quanta are 512 bit times each. -/
def State.pauseFrame (s : State) (p : Port) (quanta : Nat) : State :=
  if !s.switching then s
  else
    let s := ((s.setRb .port (portNum p) 0x20 31 true).count .port (portNum p) 0x21).count .port (portNum p) 0x26
    if quanta = 0 then s.endPause p
    else
      let ends := s.clock + ceilDiv (quanta * 512) 10
      ({ s with net := { s.net with pauseEnds := insertKey s.net.pauseEnds (portNum p) ends } }).setRb .port (portNum p) 0x20 27 true

/-- PAUSE_TIME_END of port p. -/
def State.pauseTimeEnd (s : State) (p : Port) : State :=
  match find s.net.pauseEnds (portNum p) with
  | some t => if t < s.clock + 100 then s.endPause p else s
  | none => s

/-! ## Ports lost and restored (R561, R563, R622) -/

/-- Send an enumeration frame with this device's position, from its present address, with the tag of what it answers (R576, R579, R585). -/
def State.sendEnum (s : State) (peer : Peer) (type hops status : Nat) (payload : List Byte) : State :=
  s.send peer.port 3 (.enum peer.port s.ownMac peer.mac peer.vlan (enumBytes type hops s.net.position status payload))

/-- A session whose notices leave by another port. -/
def Session.through (x : Session) (p : Port) : Session := { x with src := { x.src with port := p } }

/-- Send a notice out of one port to every session. -/
def State.notifyOut (s : State) (p : Port) (code : Nat) (port : Port) (params : List Nat) : State :=
  let before := s.host.sessions
  let turned := before.map fun e => (e.1, e.2.through p)
  let s := ({ s with host := { s.host with sessions := turned } }).notify code .port (portNum port) params
  let back := s.host.sessions.map fun e => (e.1, match find before e.1 with
    | some x => e.2.through x.src.port
    | none => e.2)
  { s with host := { s.host with sessions := back } }

/-- The owner of a ring unblocks its port B, or blocks it again. -/
def State.setUnblocked (s : State) (b : Bool) : State :=
  if s.rb .dev 0 0x143 31 && s.rb .dev 0 0x143 30 then { s with net := { s.net with unblocked := b } } else s

/-- PORT_LOST of port p, with its block lock, local and remote fault (R561). The ring-fault frame goes to the broadcast address
(DESIGN CHOICE, log entry 39). -/
def State.portLost (s : State) (p : Port) (lock localFault remoteFault : Bool) : State :=
  let k := portNum p
  if (lock && !localFault && !remoteFault) || s.rb .port k 0x20 28 then s
  else
    let s := (((s.setRb .port k 0x20 31 lock).setRb .port k 0x20 30 localFault).setRb .port k 0x20 29 remoteFault).setRb
      .port k 0x20 28 true
    let s := State.watchQueue { s with host := { s.host with waiting := s.host.waiting.filter fun e => e.1 != p } } (otherPort p)
    let s := (s.logFault (0x0501 + k) true (objCode .port) k 1).raiseFault 25
    let s := (s.notifyOut (otherPort p) 0x0701 p [0x0501 + k]).setUnblocked true
    s.sendEnum ⟨otherPort p, broadcastMac, none⟩ 0x20 0 0 []

/-- RING_FAULT received (R561). -/
def State.ringFault (s : State) (f : EnumFrame) : State :=
  s.takeEnum f 0x20 fun s => ((s.setUnblocked true).flushTable).passOn f

/-- PORT_UP: a lost port has received valid blocks for 1 s (R563). -/
def State.portUp (s : State) (p : Port) : State :=
  let k := portNum p
  if !s.rb .port k 0x20 28 then s
  else
    let s := s.setRf .port k 0x20 31 28 8
    let s := (s.notify 0x0702 .port k []).flushTable
    (s.sendEnum ⟨otherPort p, broadcastMac, none⟩ 0x21 0 0 []).setUnblocked false

/-- RING_RESTORE received (R563): it is passed on before the owner blocks port B again (DESIGN CHOICE, log entry 39). -/
def State.ringRestore (s : State) (f : EnumFrame) : State :=
  s.takeEnum f 0x21 fun s => (s.passOn f).flushTable.setUnblocked false

/-! ## Enumeration (R576-R582) -/

/-- STATE of R578: 0 no image, 1 loading, 2 firmware running. -/
def State.bootState (s : State) : Nat :=
  if s.boot.phase = .running then 2 else if s.boot.loadId.isSome || s.boot.accepted then 1 else 0

/-- The device serves enumeration: from the boot ROM's start on (R653). -/
def State.serving (s : State) : Bool := s.boot.phase == .bootRom || s.boot.phase == .running

/-- The payload of REPLY (R578). -/
def State.replyPayload (s : State) : List Byte :=
  bytesOf 2 0x0200 ++ bytesOf 2 Config.stepping.toNat ++ bytesOf 4 Config.serial.toNat ++ bytesOf 8 Config.dieId.toNat ++
    bytesOf 1 s.bootState ++ bytesOf 1 s.assigned.toNat ++ bytesOf 6 s.ownMac ++ bytesOf 8 0

/-- A session is open. -/
def State.anySession (s : State) : Bool := !s.host.sessions.isEmpty

/-- DISCOVER (R577, R579): DEV.MAC shows the address in use. A count of hops that leads beyond position 32 (R4) is taken as any other,
modulo 256 (DESIGN CHOICE, log entry 106). -/
def State.discover (s : State) (f : EnumFrame) : State :=
  if !s.serving then s
  else
    s.takeEnum f 0x01 fun s =>
    if f.port == .b then s
    else
      let hops := (f.hops + 1) % 256
      let conflict := s.anySession && hops != s.net.position
      let s := if s.anySession then s else { s with net := { s.net with position := hops } }
      let s := if s.assigned then s else s.setWide .dev 0 0x180 2 s.ownMac
      let s := s.sendEnum f.peer 0x02 hops (if conflict then 3 else 0) s.replyPayload
      s.passOn (f.withHops hops)

/-- The addresses ASSIGN gives, from its payload (R580): PREFIX, IPV4 with its length, IPV6 with its length, CHAIN_KEY. -/
def assignParts (l : List Byte) : Nat × Nat × Nat × Nat × Nat × List Byte :=
  (ofBytes (l.take 3), ofBytes ((l.drop 3).take 4), ofBytes ((l.drop 7).take 1), ofBytes ((l.drop 8).take 16),
    ofBytes ((l.drop 24).take 1), (l.drop 25).take 16)

/-- The status with which ASSIGN is answered (R581). -/
def State.assignStatus (s : State) (l : List Byte) : Nat :=
  let (mac, _, len4, _, len6, _) := assignParts l
  if bitsOf mac 17 16 ≠ 2 || 32 < len4 || 128 < len6 then 2 else if s.anySession then 1 else 0

/-- ASSIGN (R580-R582). The gratuitous ARP and the neighbour advertisements leave by the port ASSIGN came from (DESIGN CHOICE, log entry
39). -/
def State.assign (s : State) (f : EnumFrame) : State :=
  if !s.switching then s
  else
    s.takeEnum f 0x03 fun s =>
    if f.dst ≠ s.ownMac then s.passOn f
    else if !s.serving || f.payload.length ≠ 57 then s
    else
      let status := s.assignStatus f.payload
      if status ≠ 0 then s.sendEnum f.peer 0x04 f.hops status []
      else
        let (pre, ip4, len4, ip6, len6, key) := assignParts f.payload
        let mac := pre * 2 ^ 24 + s.net.position
        let s := ((s.setWide .dev 0 0x180 2 mac).setWords .dev 0 0x181 [word ip4, word len4]).setWords .dev 0 0x182
          (wordsOf 4 ip6 ++ [word len6])
        let s := { s with net := { s.net with chainKey := some key } }
        let s := s.sendEnum f.peer 0x04 f.hops 0 []
        let s := if ip4 = 0 then s else s.send f.port 3 (.arp f.port broadcastMac ip4 true none)
        let s := s.send f.port 3 (.neighbour f.port 0x333300000001 (linkLocal mac) false none)
        if ip6 = 0 then s else s.send f.port 3 (.neighbour f.port 0x333300000001 ip6 false none)

/-! ## ARP, neighbour discovery and echo (R583-R585) -/

/-- ARP_REQUEST for an IPv4 address, forwarded by R571 where it is not addressed to the device alone. -/
def State.arpRequest (s : State) (p : Port) (f : EthFrame) (target : Nat) : State :=
  s.takeFrame p f.src f.length fun s =>
    let s := s.forwardOut p f
    if s.boot.phase == .running && s.reaches f.dst && s.ip4 != 0 && target == s.ip4 then s.send p 3 (.arp p f.src target false f.vlan)
    else s

/-- NEIGHBOUR_SOLICITATION for an IPv6 address, forwarded by R571 where it is not addressed to the device alone. -/
def State.neighbourSolicitation (s : State) (p : Port) (f : EthFrame) (target : Nat) : State :=
  s.takeFrame p f.src f.length fun s =>
    let s := s.forwardOut p f
    if s.boot.phase == .running && s.reaches f.dst && ((s.ip6 != 0 && target == s.ip6) || target == linkLocal s.ownMac) then
      s.send p 3 (.neighbour p f.src target true f.vlan)
    else s

/-- ECHO_REQUEST to the device. -/
def State.echoRequest (s : State) (src : Source) (v6 : Bool) (id seq : Nat) (data : List Byte) : State :=
  s.takeFrame src.port src.mac (data.length + if v6 then 48 else 28) fun s =>
  let recent := s.net.echoes.filter fun t => decide (s.clock < t + 10 ^ 9)
  if s.boot.phase != .running || 1472 < data.length || 100 ≤ recent.length then s
  else ({ s with net := { s.net with echoes := recent ++ [s.clock] } }).send src.port 3 (.echo src v6 id seq data)

/-! ## Stream datagrams (R619-R621) -/

/-- The bytes a stream datagram's tag is taken over. -/
def streamBytes (e : Envelope) (code : BitVec 16) (body : List Word) : List Byte :=
  bytesOf 2 e.magic.toNat ++ bytesOf 1 e.version.toNat ++ bytesOf 1 e.kind.toNat ++ bytesOf 2 e.session.toNat ++
  bytesOf 2 e.length.toNat ++ bytesOf 4 e.seq.toNat ++ bytesOf 2 code.toNat ++ bytesOf 2 e.ctl.toNat ++
  bytesOf 8 e.atField.toNat ++ wordBytes body ++ e.tail

/-- The entries of a granule. -/
def granuleEntries (body : List Word) : List (BitVec 128) := (upto 16).map fun i => payloadOf (body.drop (4 * i))

/-- The granules of a datagram are taken one after the other: the counts of accepted, late and refused ones. -/
def State.takeGranules (c d : Nat) : Nat → Nat → List Word → Nat × Nat × Nat → State → (Nat × Nat × Nat) × State
  | 0, _, _, counts, s => (counts, s)
  | n + 1, x, body, (a, l, r), s =>
    let (t, s) := s.streamGranule c d x (granuleEntries body)
    State.takeGranules c d n (x + 16) (body.drop 64)
      (match t with
        | .accepted => (a + 1, l, r)
        | .late => (a, l + 1, r)
        | .refused => (a, l, r + 1)) s

/-- STREAM_ACK of a datagram (R620): it leaves with the tag of the datagram that opened the session (R585). -/
def State.streamAck (s : State) (e : Envelope) (code : BitVec 16) (x : Session) (status a l r next windowEnd : Nat) : State :=
  let dst := { e.src with vlan := x.src.vlan }
  s.send e.src.port 3 (rmp x.key dst e.src.udp 7 e.session.toNat e.seq.toNat code.toNat status s.now
    ([word (a * 65536 + l), word (r * 65536)] ++ wordsOf 2 next ++ wordsOf 2 windowEnd))

/-- STREAM_DATAGRAM (R590, R619, R620). Where no stream segment is played the window has no length, and its end is free (DESIGN CHOICE, log
entry 1). -/
def State.streamDatagram (s : State) (e : Envelope) (code : BitVec 16) (body : List Word) : State :=
  let p := e.src.port
  s.takeFrame p e.src.mac (clientBytes e) fun s =>
  let n := e.session.toNat
  let size := 40 + 4 * body.length + e.tail.length
  if s.boot.phase != .running || s.faults.restart.isSome then s
  else if e.magic != 0x52D0 || e.version != 1 || e.kind != 6 || e.length.toNat != e.udpLength || size != e.udpLength then
    s.badMessage p
  else match s.session n with
    | none => s.badMessage p
    | some x =>
      if ofBytes ((hmacSha256 x.key (streamBytes e code body)).take 16) != e.tag.toNat then s.badMessage p
      else if s.isFrozen (sessionMaster n) then s
      else
        let s := s.setSession n { x with src := { x.src with port := p }, streamSeq := x.streamSeq + 1 }
        let c := code.toNat
        let g := e.ctl.toNat
        let first := e.atField.toNat
        let (k, s) := s.draw
        let free := (Config.freeWord k).toNat
        if 512 ≤ c || g < 1 || 34 < g || first % 16 ≠ 0 || !e.tail.isEmpty || body.length ≠ 64 * g then
          s.streamAck e code x 2 0 0 0 (if c < 512 then s.streamNext (.chan c) else free) free
        else match s.streamSweep c with
          | none => s.streamAck e code x 1 0 0 g (s.streamNext (.chan c)) free
          | some d =>
            let ((a, l, r), s) := State.takeGranules c d g first body (0, 0, 0) s
            let next := s.streamNext (.chan c)
            s.streamAck e code x 0 a l r next (next + (s.ringOf d).2)

end Sys2Proof.Machine
end

