-- ==== Sys2Proof/Machine/Integrity.lean ====
section
/-!
DEFINITION. Containment of faults in the firmware, the host and the die: scrubbing, watchdogs and restarts, the host and
session timeouts, frozen masters and their release, die temperature, lanterns (R534, R550-R552, R557-R559, R564, R598, R599,
R614, R641).
-/

namespace Sys2Proof.Machine

/-- A single-bit error corrected in a crossing FIFO counts in the corrected-error counter of the destination island (R19). -/
def State.crossingFixed (s : State) (island : Nat) : State :=
  { s with faults := { s.faults with
    corrected := insertKey s.faults.corrected island (findD s.faults.corrected 0 island + 1) } }

/-- SRAM_SCRUB: a scrub pass corrects single-bit errors in the named SRAM regions (R534); crossing FIFOs have corrected words into
the named islands (R19), and have lost words, which the firmware transfers again, in the named crossings (R548); and the named lines of point caches and
vector windows have lost theirs to double-bit errors (R256, R313). -/
def State.sramScrub (s : State) (pass : ScrubPass) : State :=
  let s := s.each pass.regions fun s r =>
    let s : State := if fifoRegion 0 ≤ r ∧ r < fifoRegion 9 then s.count .fifo (r - fifoRegion 0) 0x25 else s
    s.sramError .sramSec r
  let s := s.each pass.fixed State.crossingFixed
  let s := s.each pass.lines fun s l => s.lineLost (seqRef l.1 l.2.1) l.2.2
  s.each pass.lost State.crossingError

/-! ## Rebuilding a remapped region (R546) -/

/-- What DRAM has inverted in a remapped region is there when the rebuild reads it. -/
def State.rebuildReads (s : State) (r : Rebuild) : State :=
  let points := (r.points.filter fun e => pointRegion e.1 == r.region).foldl (fun m e => decay m e.1 e.2) s.points
  let s := (r.lists.filter fun e => listRegion e.2.1 == r.region).foldl
    (fun (s : State) e => s.setSweep e.1 ((s.sweep e.1).decayList e.2.1 e.2.2)) { s with points := points }
  s.each r.cals fun s e => s.calDecay e.1 e.2

/-- The stream granules, by sequencer and index, that stand in granule g of the point store (R288, R619). -/
def State.streamsIn (s : State) (g d : Nat) : List (Nat × Nat) :=
  (upto 512).flatMap fun c =>
    if s.streamSweep c = some d then
      ((s.seqx (.chan c)).streamed.filter fun k => s.storeGranule c (streamKey k) == g).map fun k => (c, k)
    else []

/-- The granules of the point store that stand in a region are regenerated. Those of a stream are copied; one that fails its check is asked
for again (R255). -/
def State.rebuildPoints (s : State) (region : Nat) : State :=
  let granules := ((s.points.map fun e => e.1 / 16).eraseDups).filter fun g => pointRegion g == region
  s.each granules fun s g =>
    match s.sweepOfGranule g with
    | some (d, x) =>
      if x.kind ≠ 6 then (s.regenerate g []).2
      else if (granuleOf s.points g).all intact then s
      else s.each (s.streamsIn g d) fun s e => (s.dramCheck region).granuleFails e.1 (streamKey e.2)
    | none => s

/-- Good granules of list sources are copied; each that fails its check sets its descriptor to FAULT (R255). -/
def State.rebuildLists (s : State) (region : Nat) : State :=
  s.each s.sweeps fun s e =>
    s.each ((e.2.sources.map Prod.fst).filter fun k => listRegion k == region && !e.2.listGood k) fun s k =>
      if s.sweepState e.1 = 2 || s.sweepState e.1 = 3 then s.listFault e.1 k else s

/-- Entries of vector memory are copied from the intact mirror. -/
def State.rebuildVectors (s : State) (region : Nat) : State :=
  let b := (region - 768) / 64
  let copy (lane : Bool) (s : State) : State :=
    let (ma, mb) := (s.vecMem b).copies lane
    let bad := (ma.map Prod.fst).filter fun e =>
      vectorRegion b (vectorPlace lane e) == region && !intact (findD ma blank e) && intact (findD mb blank e)
    s.setVecMem b ((s.vecMem b).setCopies lane (bad.foldl (fun m e => store m blank e (findD mb blank e)) ma, mb))
  copy true (copy false s)

/-- Good blocks of calibration sets are copied; one that fails its check makes its set FAULTED (R544). -/
def State.rebuildCal (s : State) (region : Nat) : State :=
  s.each (s.calSets.zipIdx) fun s e =>
    match (upto e.1.2.checks.length).find? fun k =>
        calRegion e.2 k == region && e.1.2.checks[k]? != some (e.1.2.blockCrc k) with
    | some k => s.calFaulted e.1.1 k
    | none => s

/-- REMAP_REBUILD_DONE: the contents of a remapped region stand in its replacement, rebuilt as the region's use has it; packets of the
spool are read in place (R546). -/
def State.rebuildDone (s : State) (r : Rebuild) : State :=
  let region := r.region
  if !s.faults.rebuilding.contains region then s
  else
    let s := s.rebuildReads r
    let s := { s with faults := { s.faults with rebuilding := s.faults.rebuilding.erase region } }
    if region < 288 then s.rebuildPoints region
    else if region < 768 then s.rebuildLists region
    else if region < 1280 then s.rebuildVectors region
    else if region < 1536 then s.rebuildCal region
    else s

/-- FIRMWARE_REGION_VIOLATION by a firmware task (R550). -/
def State.regionViolation (s : State) (task : Nat) : State := s.freeze (0x2000 + task) 3

/-! ## Frozen masters released (R551, R552) -/

/-- The frozen master a request names. -/
def State.frozenMaster (s : State) (r : Req) : Except Denial Nat := do
  let m ← s.masterOf r
  require (s.isFrozen m) .notFrozen
  return m

/-- DEV.THAW: the master goes on (R301, R551). -/
def thawMaster (s : State) (r : Req) : Work := do
  let m ← s.frozenMaster r
  let s := s.unfreeze m
  return { state := match sequencerOf m with
    | some q => s.thawSeq q
    | none => s }

/-- DEV.MASTER_RESET: a session ends, a sequencer enters DONE, a task restarts from its entry (R551). -/
def resetMaster (s : State) (r : Req) : Work := do
  let m ← s.frozenMaster r
  let s := if m / 4096 = 1 then s.endSession (m % 4096) 3 else s
  let s := s.unfreeze m
  return { state := match sequencerOf m with
    | some q => s.finishSeq q
    | none => s }

/-! ## Firmware cores and the firmware (R557, R558) -/

/-- A request whose work went with a core stays unanswered. -/
def State.loseRequest (s : State) (n seq : Nat) : State :=
  let s := match s.session n with
    | some x => s.setSession n { x with executing := x.executing.filter (· != seq) }
    | none => s
  s.each s.links fun s e =>
    s.setLink e.1 { s.link e.1 with msgs := (s.link e.1).msgs.map fun m => match m.host with
      | some (k, r) => if k = n && r.env.seq.toNat = seq then { m with host := none } else m
      | none => m }

/-- Every request whose work still goes on stays unanswered. -/
def State.loseRequests (s : State) : State :=
  s.each s.links fun s e => s.setLink e.1 { s.link e.1 with msgs := (s.link e.1).msgs.map fun m => { m with host := none } }

/-- The firmware restarts (R558). -/
def State.firmwareRestart (s : State) : State :=
  let s := (s.logFault 0x0602 true (objCode .dev) 0 1).raiseFault 27
  let s := ({ s with faults := { s.faults with restart := some s.clock } }).updateFaultN
  let s := s.loseRequests
  let s := s.each s.host.sessions fun s e => s.endSession e.1 4
  s.each (s.commits.tickets.filter fun t => !t.released) fun s t =>
    if s.commits.tickets.any (fun u => u.order == t.order) then s.missTicket t else s

/-- CORE_WATCHDOG of a core: the requests it held, by session and SEQ, stay unanswered, and the commit it was writing misses
its boundary (R49, R557). The errors of all four cores count together (R529). -/
def State.coreWatchdog (s : State) (held : List (Nat × Nat)) (ticket : Option Nat) : State :=
  let s := s.each held fun s h => s.loseRequest h.1 h.2
  let s := match s.commits.tickets.find? (fun t => some t.num == ticket && !t.released) with
    | some t => s.missTicket t
    | none => s
  let (lasting, s) := s.countFault .fwWdog 0
  if lasting then s.firmwareRestart else s

/-- FIRMWARE_RESTART_DONE: all four cores run again (R558, R566). -/
def State.firmwareRestartDone (s : State) : State :=
  if s.faults.restart.isNone then s
  else ({ s with faults := { s.faults with restart := none } }).updateFaultN

/-! ## Host and session timeouts (R559, R598, R599) -/

/-- HOST_TIMEOUT: HOST_ACT is performed once. Armed are the channels that a DISARM takes out of ARMING, ARMED or HELD (DESIGN CHOICE, log
entry 37). -/
def State.hostTimeout (s : State) : State :=
  let seconds := s.rf .dev 0 0x142 31 16
  match s.faults.hostIdle with
  | none => s
  | some t =>
    if seconds = 0 || s.faults.hostActed || s.clock + 100 ≤ t + seconds * 10 ^ 9 then s
    else
      let act := s.rf .dev 0 0x142 15 14
      let armed := (upto 512).filter fun c => [chArming, chArmed, chHeld].contains (s.chState c)
      let s := { s with faults := { s.faults with hostActed := true } }
      let s := if act = 0 then s else s.disarmActs armed (if act = 2 then 0x80000000 else 0)
      s.notify 0x0603 .dev 0 [act]

/-- SESSION_TIMEOUT of a session. -/
def State.sessionTimeout (s : State) (n : Nat) : State :=
  match s.session n with
  | some x => if x.lastValid + x.timeout * 10 ^ 9 < s.clock + 100 then s.endSession n 2 else s
  | none => s

/-- HELD_REQUEST_EXPIRY in a session: requests held for 5 ms are dropped. -/
def State.heldExpiry (s : State) (n : Nat) : State :=
  match s.session n with
  | some x => s.setSession n { x with held := x.held.filter fun h => decide (s.clock + 100 ≤ h.since + 5 * 10 ^ 6) }
  | none => s

/-! ## Die temperature (R564) -/

/-- DIE_TEMP_MEASURE: the hottest sensor in 1/64 K. 100 °C is 23,881.6, 95 °C 23,561.6 and 115 °C 24,841.6 of these. -/
def State.dieTemp (s : State) (tj : Nat) : State :=
  let s := s.setRf .dev 0 0x144 31 16 tj
  let s : State :=
    if 23882 ≤ tj && !s.faults.hot then
      (({ s with faults := { s.faults with hot := true } }).logFault 0x0801 true (objCode .dev) 0 1).notify 0x0507 .dev 0 [tj]
    else if tj ≤ 23561 then { s with faults := { s.faults with hot := false } } else s
  if 24842 ≤ tj then
    (s.each ((upto 512).filter s.active) fun s c => s.tripSafe c .thermal).raiseFault 23
  else s

/-! ## The lantern (R614) -/

/-- The parameters of N_LANTERN. -/
def State.lanternParams (s : State) : List Nat :=
  let channels := fun (k : Nat) => ((upto 512).filter fun c => s.chState c == k).length
  let seqs := ((upto 512).filter fun c => s.seqRuns (.chan c)).length + ((upto 8).filter fun b => s.seqRuns (.bank b)).length
  let depth := s.wide .spool 0 0x21 2
  [(s.reg .dev 0 0x140).toNat, (s.reg .dev 0 0x144).toNat, channels chArmed, channels chTripped, seqs,
    depth / 2 ^ 32, depth % 2 ^ 32, s.timeStatus.toNat, s.openSessions, s.faults.frozen.length]

/-- LANTERN at the device time of the last boundary. -/
def State.lantern (s : State) : State :=
  let period := s.rf .dev 0 0x184 31 16 * 10 ^ 8
  if period = 0 || s.now % period ≠ 0 then s
  else s.noticeAll s.host.nseq 0x0800 s.now (noticeBody 0x0800 (objCode .dev) 0 s.lanternParams)

end Sys2Proof.Machine
end

