-- ==== Sys2Proof/Machine/Signature.lean ====
section
/-!
DEFINITION. What the boot ROM's check of an image rests on (R658, R659): SHA-384, and ECDSA over P-384 as FIPS 186-5 gives
them.
-/

namespace Sys2Proof.Machine

/-! ## ECDSA over P-384 -/

/-- The prime of the field. -/
def p384P : Nat := 2 ^ 384 - 2 ^ 128 - 2 ^ 96 + 2 ^ 32 - 1

/-- The order of the group. -/
def p384N : Nat :=
  0xFFFFFFFFFFFFFFFFFFFFFFFFFFFFFFFFFFFFFFFFFFFFFFFFC7634D81F4372DDF581A0DB248B0A77AECEC196ACCC52973

/-- The base point. -/
def p384G : Nat × Nat :=
  (0xAA87CA22BE8B05378EB1C71EF320AD746E1D3B628BA79B9859F741E082542A385502F25DBF55296C3A545E3872760AB7,
   0x3617DE4A96262C6F5D9E98BF9292DC29F8F41DBD289A147CE9DA3113B5F0B8C00A60B1CE1D7E819D7A431D7C90EA0E5F)

/-- a to the power e modulo m, over k bits of e. -/
def powMod (a m : Nat) : Nat → Nat → Nat
  | 0, _ => 1
  | k + 1, e =>
    let h := powMod a m k (e / 2)
    let h2 := h * h % m
    if e % 2 = 1 then h2 * a % m else h2

/-- The inverse of a modulo a prime m. -/
def invMod (a m : Nat) : Nat := powMod (a % m) m 384 (m - 2)

/-- Addition of points; none is the point at infinity. -/
def ecAdd (a b : Option (Nat × Nat)) : Option (Nat × Nat) :=
  match a, b with
  | none, q => q
  | q, none => q
  | some (x1, y1), some (x2, y2) =>
    if x1 = x2 && (y1 + y2) % p384P = 0 then none
    else
      let slope :=
        if x1 = x2 then (3 * x1 * x1 + (p384P - 3)) * invMod (2 * y1) p384P % p384P
        else (y2 + (p384P - y1)) * invMod (x2 + (p384P - x1)) p384P % p384P
      let x3 := (slope * slope + 2 * p384P - x1 - x2) % p384P
      some (x3, (slope * (x1 + (p384P - x3)) + (p384P - y1)) % p384P)

/-- A multiple of a point, over k bits of the number. -/
def ecMul (q : Option (Nat × Nat)) : Nat → Nat → Option (Nat × Nat)
  | 0, _ => none
  | k + 1, n =>
    let h := ecMul q k (n / 2)
    let h2 := ecAdd h h
    if n % 2 = 1 then ecAdd h2 q else h2

/-- Whether a signature r, s over the SHA-384 of a message verifies with a public key. -/
def ecdsaVerify (key : Nat × Nat) (m : List Byte) (r s : Nat) : Bool :=
  if r = 0 || s = 0 || p384N ≤ r || p384N ≤ s then false
  else
    let w := invMod s p384N
    let e := ofBytes (sha384 m)
    match ecAdd (ecMul (some p384G) 384 (e * w % p384N)) (ecMul (some key) 384 (r * w % p384N)) with
    | some (x, _) => x % p384N == r
    | none => false

end Sys2Proof.Machine
end

