-- ==== Sys2Proof/Machine/Boot.lean ====
section
/-!
DEFINITION. Power-up, resets, the boot ROM, image load and the start of the firmware; the fall of PWRGOOD (R437, R565, R577,
R648-R662, R684, R692).
-/

namespace Sys2Proof.Machine

/-! ## Resets (R565, R649-R652, R661, R662, R684, R692) -/

/-- What no restart takes: the queue of commands, the time since power-up, the free values drawn and what has been sent. -/
def State.carry (old s : State) : State :=
  { s with pending := old.pending, clock := old.clock, free := old.free, host := { s.host with tx := old.host.tx } }

/-- The port's RX and TX state outlives a firmware start: its counters count from power-up (R575; DESIGN CHOICE, log entry 38). -/
def keptField (o : Obj) (f : Nat) : Bool :=
  (o == .port && 0x20 ≤ f && f ≤ 0x26) || (o == .dev && 0x180 ≤ f && f ≤ 0x182)

/-- ENGINE.STATE outlives a controller reset: a retired engine stays retired until power-up, and its bank's spare covers its octet as long
(R535, R541; DEDUCED, log entry 136). -/
def keptEngine (o : Obj) (f : Nat) : Bool := o == .engine && f == 0

/-- The words of a word file that belong to fields of a kind. -/
def keepWords (keep : Obj → Nat → Bool) (m : List (Nat × Word)) : List (Nat × Word) :=
  m.filter fun e => match objOfCode (e.1 / 2 ^ 36) with
    | some o => keep o (e.1 / 16 % 65536)
    | none => false

/-- Held in reset: every state is lost, but for the levels of HRST_N that are kept and the journal's device, which still
programs what it holds, and for the engines retired (R437, R535, R651). -/
def State.held (s : State) (lines : List (Nat × BankLines)) (journal : Bool) : State :=
  let r := s.carry State.reset
  let r := { r with boot := { r.boot with phase := .reset, major := 0, minor := 0 }, bankLines := lines,
                    faults := { r.faults with faultN := true } }
  if journal then
    { r with regs := keepWords (fun o f => o == .journal || keptEngine o f) s.regs,
             records := { r.records with journal := s.records.journal },
             faults := { r.faults with retired := s.faults.retired } }
  else r

/-- The journal port takes no further packet and programs what it holds (R437). -/
def State.journalStops (s : State) : State :=
  let s := s.journalClose
  s.setJournal { s.records.journal with closing := true, erasing := [] }

/-- PWRGOOD_FALL (R437, R565, R684): IDLE frames on every trained link, the outputs at 0 V, and nothing more until RESET_N. -/
def State.pwrgoodFall (s : State) : State :=
  if s.boot.phase != .running then s
  else
    let s := s.logFault 0x0802 true (objCode .dev) 0 1
    let s := s.each ((upto 512).filter s.trained) fun s c => s.sendIdle c 0
    let s := s.each (upto 8) fun s k =>
      let s := s.setRb .aout k 0x20 31 false
      s.setAout k { s.aout k with
        code := 0, startAt := none, stopAt := [], levelAt := none, faultAt := none }
    let s := (s.setRb .hk 0 0x20 31 false).setRb .hk 0 0x20 22 false
    let s := { s with hk := { s.hk with conv := none, due := none, slotWaits := false, hostWaits := none } }
    let s := s.journalStops
    { s with boot := { s.boot with phase := .idle } }

/-- CONTROLLER_RESET: RESET_N has been low for a time, in ns, while PWRGOOD is high (R649, R651, R652). -/
def State.controllerReset (s : State) (low : Nat) : State :=
  if low < 1000 then s else s.journalStops.held s.bankLines true

/-- POWER_UP: PWRGOOD rises, with RESET_N low (R648, R652); a rise while RESET_N stays high changes nothing (R662). -/
def State.powerUp (s : State) (resetLow : Bool) : State :=
  if resetLow then { s.held [] false with clock := 0 } else s

/-- SUPPLY_DETECTOR: a rail below 90 % for 2 µs; with VDDIO33 the HRST_N lines fall too (R692). -/
def State.supplyDetector (s : State) (vddio33 : Bool) : State :=
  let s := s.pwrgoodFall
  let lines := if vddio33 then s.bankLines.map fun e => (e.1, { e.2 with high := false, changed := s.clock }) else s.bankLines
  s.journalStops.held lines true

/-- BOOT_ROM_START: RESET_N is high, the PLLs are locked, DRAM is initialised (R444, R653). -/
def State.bootRomStart (s : State) : State :=
  if s.boot.phase != .reset then s
  else
    let s := s.each (upto 8) fun s b => s.setLines b { s.lines b with lclkAt := s.clock }
    { s with boot := { s.boot with phase := .bootRom } }

/-! ## Image load (R655-R657) -/

/-- LOAD_ID of a load frame. -/
def loadIdOf (l : List Byte) : Nat := ofBytes (l.take 2)

/-- The pieces an image has. -/
def Boot.pieces (b : Boot) : Nat := ceilDiv b.imageLen 1024

/-- The lowest OFFSET not yet received, or IMAGE_LEN. -/
def Boot.firstMissing (b : Boot) : Nat :=
  match (upto b.pieces).find? fun i => (find b.image (1024 * i)).isNone with
  | some i => 1024 * i
  | none => b.imageLen

/-- RECEIVED bytes. -/
def Boot.received (b : Boot) : Nat := (b.image.map fun e => e.2.length).sum

/-- Send a LOAD_STATUS (R655, R657). -/
def State.loadStatus (s : State) (peer : Peer) (id result : Nat) : State :=
  s.sendEnum peer 0x14 0 0
    (bytesOf 2 id ++ bytesOf 1 result ++ bytesOf 1 s.bootState ++ bytesOf 4 s.boot.received ++ bytesOf 4 s.boot.firstMissing)

/-- A load frame reaches its addressee, or every device by the broadcast address, and is passed on by R571 (R656). -/
def State.loadFrame (s : State) (f : EnumFrame) (type : Nat) (act : State → State) : State :=
  s.takeEnum f type fun s =>
    if f.dst = s.ownMac then (if s.serving then act s else s)
    else
      let s := s.passOn f
      if f.dst = broadcastMac && s.serving then act s else s

/-- LOAD_BEGIN. -/
def State.loadBegin (s : State) (f : EnumFrame) : State :=
  s.loadFrame f 0x10 fun s =>
    let id := loadIdOf f.payload
    let len := ofBytes ((f.payload.drop 4).take 4)
    if s.boot.phase != .bootRom || f.payload.length ≠ 8 || id = 0 || len < 512 || 33554432 < len then s
    else { s with boot := { s.boot with loadId := some id, imageLen := len, image := [], checking := none, accepted := false } }

/-- LOAD_DATA. -/
def State.loadData (s : State) (f : EnumFrame) : State :=
  s.loadFrame f 0x11 fun s =>
    let offset := ofBytes ((f.payload.drop 4).take 4)
    let data := f.payload.drop 8
    let b := s.boot
    if b.phase != .bootRom || b.loadId != some (loadIdOf f.payload) || b.checking.isSome || b.accepted || offset % 1024 ≠ 0 ||
        b.imageLen ≤ offset || data.length ≠ min 1024 (b.imageLen - offset) then s
    else { s with boot := { b with image := insertKey b.image offset data } }

/-- The LOAD_STATUS with which a LOAD_QUERY is answered. -/
def State.queryResult (s : State) (id : Nat) : Nat :=
  if s.boot.phase == .running then 0x20
  else if s.boot.loadId != some id then 0x21
  else if s.boot.checking.isSome || s.boot.accepted then 0x02 else 0x00

/-- LOAD_END: a complete image is checked (R657). -/
def State.loadEnd (s : State) (f : EnumFrame) : State :=
  s.loadFrame f 0x12 fun s =>
    let id := loadIdOf f.payload
    let q := s.queryResult id
    if q ≠ 0 then s.loadStatus f.peer id q
    else if s.boot.firstMissing < s.boot.imageLen then s.loadStatus f.peer id 0x01
    else
      let s := { s with boot := { s.boot with checking := some f.peer } }
      s.loadStatus f.peer id 0x02

/-- LOAD_QUERY. -/
def State.loadQuery (s : State) (f : EnumFrame) : State :=
  s.loadFrame f 0x13 fun s => s.loadStatus f.peer (loadIdOf f.payload) (s.queryResult (loadIdOf f.payload))

/-- The image in progress is discarded. -/
def Boot.discarded (b : Boot) : Boot :=
  { b with loadId := none, imageLen := 0, image := [], checking := none, accepted := false }

/-- LOAD_ABORT. -/
def State.loadAbort (s : State) (f : EnumFrame) : State :=
  s.loadFrame f 0x15 fun s =>
    if s.boot.phase == .bootRom && s.boot.loadId == some (loadIdOf f.payload) then { s with boot := s.boot.discarded } else s

/-! ## The check (R658, R659) -/

/-- The bytes of an image from n on, k of them, as a number. -/
def imageField (l : List Byte) (n k : Nat) : Nat := ofBytes ((l.drop n).take k)

/-- RESULT of the check of an image: 0 where it is accepted. -/
def checkImage (l : List Byte) : Nat :=
  let key := imageField l 16 1
  if imageField l 0 4 ≠ 0x52465731 || imageField l 4 2 ≠ 1 || l.length ≠ 256 + imageField l 20 4 then 0x10
  else if imageField l 6 2 ≠ 0x0200 || Config.stepping.toNat < imageField l 8 2 then 0x11
  else if 3 < key || Config.keyRevoked key then 0x12
  else if imageField l 14 2 < Config.minSecurity then 0x13
  else if !ecdsaVerify (Config.publicKey key) (l.take 160) (imageField l 160 48) (imageField l 208 48) then 0x14
  else if sha384 (l.drop 256) != (l.drop 24).take 48 then 0x15
  else 0

/-- The bytes of the image received. -/
def Boot.bytes (b : Boot) : List Byte := b.image.flatMap Prod.snd

/-- IMAGE_CHECK_DONE: a rejected image is discarded with its RESULT. -/
def State.imageCheckDone (s : State) : State :=
  match s.boot.phase, s.boot.checking, s.boot.accepted with
  | .bootRom, some peer, false =>
    let l := s.boot.bytes
    let r := checkImage l
    if r = 0 then
      { s with boot := { s.boot with accepted := true, major := imageField l 10 2, minor := imageField l 12 2 } }
    else
      let id := s.boot.loadId.getD 0
      let s := { s with boot := s.boot.discarded }
      s.loadStatus peer id r
  | _, _, _ => s

/-! ## The firmware starts (R651, R660) -/

/-- The device as it is when its firmware starts: all fields reset, HRST as the retained pins are; the position, the addresses
and CHAIN_KEY are kept. -/
def State.started (s : State) : State :=
  let r := s.carry State.reset
  let r := { r with
    regs := keepWords (fun o f => keptField o f || keptEngine o f) s.regs, net := s.net, bankLines := s.bankLines,
    boot := { r.boot with major := s.boot.major, minor := s.boot.minor },
    host := { r.host with waiting := s.host.waiting },
    faults := { r.faults with hostIdle := some s.clock, retired := s.faults.retired } }
  r.each ((upto 8).filter fun b => (s.lines b).high) fun r b =>
    (r.setRb .bank b 0x40 31 false).each (bankChannels b) fun r c => r.restLink c

/-- FIRMWARE_START: LOAD_STATUS STARTED goes to the source of the LOAD_END. -/
def State.firmwareStart (s : State) : State :=
  match s.boot.phase, s.boot.accepted, s.boot.checking with
  | .bootRom, true, some peer =>
    let received := s.boot.received
    let missing := s.boot.firstMissing
    let id := s.boot.loadId.getD 0
    s.started.sendEnum peer 0x14 0 0
      (bytesOf 2 id ++ bytesOf 1 0x03 ++ bytesOf 1 2 ++ bytesOf 4 received ++ bytesOf 4 missing)
  | _, _, _ => s

/-! ## DEV.CAPS (R635) -/

/-- DEV.CAPS. -/
def readCaps (s : State) (r : Req) : Work := do
  emptyBody r
  let pair := fun (a b : Nat) => word (a * 65536 + b)
  return { state := s,
           body := [pair 0x0200 Config.stepping.toNat, pair 512 64, pair 8 72, pair 8192 1024, pair 16 16, pair 9 8, pair 32 256,
             pair 4096 1024, word 16777216, pair 4096 16, pair s.boot.major s.boot.minor, Config.serial] ++
             wordsOf 2 Config.dieId.toNat }

end Sys2Proof.Machine
end

