-- ==== Sys2Proof/Machine/Handle.lean ====
section
/-!
DEFINITION. The command of every request code, in one place (R624, R627); and BSEQ.CAPT_READ (R327, R630, R643).
-/

namespace Sys2Proof.Machine

/-- The payload of a capture entry as four words, the most significant first (R11, R643). -/
def captureWords (e : BitVec 144) : List Word := wordsOf 4 (payload e).toNat

/-- BSEQ.CAPT_READ (R327, R630, R643): oldest first, freed. -/
def readCaptures (s : State) (r : Req) : Work := do
  require (r.body.length == 1) .format
  let b := fld (wget r.body 0) 31 16
  let most := fld (wget r.body 0) 7 0
  require (fld (wget r.body 0) 15 8 == 0) .reserved
  require (1 ≤ most && most ≤ 128) .format
  demand (b < 8) { err := .noObject, obj := objCode .bseq, inst := b }
  let m := s.vecMem b
  let n := min (min most m.capture.length) ((s.replyRoom r - 1) / 4)
  let left := m.capture.drop n
  return { state := s.setVecMem b { m with capture := left },
           body := countWord n (!left.isEmpty) :: (m.capture.take n).flatMap captureWords }

/-- A command on the one object of a type: a refusal other than of the request's form names that object (R602). -/
def naming (o : Obj) (w : Work) : Work :=
  match w with
  | .error d => .error (if d.obj = 0 && d.err != .format && d.err != .reserved then { d with obj := objCode o } else d)
  | .ok x => .ok x

/-- What the command of a request does (R624, R627). -/
def handle (r : Req) (s : State) : Work :=
  match r.cmd with
  | .sessionOpen => refuse .noCommand
  | .sessionClose => closeSession s r
  | .sessionPing => pingSession s r
  | .read o => readFields o s r
  | .write o => writeFields o s r
  | .stage o => stageFields o s r
  | .commit => commitGroups s r
  | .discard => discardGroups s r
  | .caps => readCaps s r
  | .calWrite => writeCal s r
  | .calSeal => sealCal s r
  | .calFree => freeCal s r
  | .calInfo => infoCal s r
  | .thaw => thawMaster s r
  | .masterReset => resetMaster s r
  | .faultRead => readFaults s r
  | .noticeRead => readNotices s r
  | .arm => armChannels s r
  | .disarm => disarmChannels s r
  | .chanClear => clearChannels s r
  | .headRead => headRead s r
  | .headWrite => headWrite s r
  | .engineRetire => retireEngine s r
  | .seqRun => runSeqs s r
  | .seqStop => stopSequencers false s r
  | .seqResume => resumeSequencers false s r
  | .bseqRun => runBseqs s r
  | .bseqStop => stopSequencers true s r
  | .bseqResume => resumeSequencers true s r
  | .vecWrite => writeVectors s r
  | .laneWrite => writeLanes s r
  | .captRead => readCaptures s r
  | .listWrite => writeList s r
  | .acqArm => armUnits s r
  | .acqStop => stopUnits s r
  | .acqForce => forceUnits s r
  | .sinkRead => readSink s r
  | .sinkClear => clearSink s r
  | .fifoFlush => flushFifos s r
  | .spoolRead => naming .spool (readSpoolPackets s r)
  | .spoolAck => naming .spool (ackSpool s r)
  | .spoolDiscard => naming .spool (discardSpool s r)
  | .journalOpen => naming .journal (openJournal s r)
  | .journalRead => naming .journal (readJournal s r)
  | .arbRead => readArb s r
  | .arbClear => clearArb s r
  | .lockTake => takeLock s r
  | .lockRenew => renewLock s r
  | .lockRelease => releaseLock s r
  | .lockReclaim => reclaimLock s r
  | .hkRun => naming .hk (runHk s r)
  | .hkStop => naming .hk (stopHk s r)
  | .hkConvert => naming .hk (convertHk s r)
  | .aoutRun => runAouts s r
  | .aoutStop => stopAouts s r
  | .waveWrite => writeWave s r
  | .timeLoad => naming .time (loadTime s r)
  | .syncCalibrate => naming .sync (calibrateSync s r)

end Sys2Proof.Machine
end

