-- ==== Sys2Proof/WellFormed.lean ====
section
/-!
DEFINITION. Which commands a host and the hardware can give at all: object numbers that exist, and operands within the fields that
carry them. A command beyond these has no meaning and faults.
-/

namespace Sys2Proof

/-- The number of a channel sequencer, or of a bank sequencer (R259, R307). -/
def seqIndex (bank : Bool) (n : Nat) : Bool := decide (n < if bank then 8 else 512)

/-- Addresses, ports and tags within their fields. -/
def Source.wellFormed (x : Source) : Bool :=
  decide (x.mac < 2 ^ 48) && decide (x.ip < 2 ^ 128) && decide (x.udp < 65536) && (x.vlan.all fun v => decide (v < 4096))

/-- A datagram's length within its field, and at most three bytes after the last whole word. -/
def Envelope.wellFormed (e : Envelope) : Bool := e.src.wellFormed && decide (e.udpLength < 65536) && decide (e.tail.length < 4)

/-- Addresses, EtherType, length and tag within their fields. -/
def EthFrame.wellFormed (f : EthFrame) : Bool :=
  decide (f.src < 2 ^ 48) && decide (f.dst < 2 ^ 48) && decide (f.etherType < 65536) && decide (f.length < 65536) &&
    (f.vlan.all fun v => decide (v < 65536))

/-- Addresses and tag within their fields, and at least the header that R576 gives. -/
def EnumFrame.wellFormed (f : EnumFrame) : Bool :=
  decide (f.src < 2 ^ 48) && decide (f.dst < 2 ^ 48) && (f.vlan.all fun v => decide (v < 65536)) && decide (8 ≤ f.bytes.length)

/-- Port identities, domainNumber, sequenceId, priority1 and clockClass within their fields. -/
def PtpMsg.wellFormed (m : PtpMsg) : Bool := decide (m.domain < 256) && decide (m.seq < 65536) && decide (m.priority < 256) &&
  decide (m.clockClass < 256) && decide (m.source < 2 ^ 80) && decide (m.requesting < 2 ^ 80)

/-- Addresses, port, length and tag within their fields. -/
def PtpFrame.wellFormed (f : PtpFrame) : Bool :=
  decide (f.src < 2 ^ 48) && decide (f.dst < 2 ^ 48) && decide (f.ip < 2 ^ 128) && decide (f.udp < 65536) && decide (f.length < 65536) &&
    (f.vlan.all fun v => decide (v < 65536))

/-- A fast block's sync header has two bits. -/
def headerOk (up : Option Received) : Bool := up.all fun b => decide (b.header < 4)

/-- A hold fast block's slot has four bits. -/
def crossingOk : Crossing → Bool
  | .ok => true
  | .toCore => true
  | .toLink slot => decide (slot < 16)

/-- The object number of a request within its field; one the device has not is refused by R7. -/
def numOk (n : Nat) : Bool := decide (n < 65536)

/-- Whether a command can be given. -/
def Instr.wellFormed (i : Instr) : Bool :=
  match i with
  | .sessionOpen e _ => e.wellFormed
  | .sessionClose e _ => e.wellFormed
  | .sessionPing e _ => e.wellFormed
  | .objRead e obj _ => e.wellFormed && decide (obj < 256)
  | .objWrite e obj _ => e.wellFormed && decide (obj < 256)
  | .objStage e obj _ => e.wellFormed && decide (obj < 256)
  | .commit e _ => e.wellFormed
  | .commitRelease _ => true
  | .groupApply _ => true
  | .discard e _ => e.wellFormed
  | .devCaps e _ => e.wellFormed
  | .devCalWrite e _ => e.wellFormed
  | .devCalSeal e _ => e.wellFormed
  | .devCalFree e _ => e.wellFormed
  | .devCalInfo e _ => e.wellFormed
  | .devThaw e _ => e.wellFormed
  | .devMasterReset e _ => e.wellFormed
  | .devFaultRead e _ => e.wellFormed
  | .devNoticeRead e _ => e.wellFormed
  | .arm e _ => e.wellFormed
  | .armApply _ => true
  | .disarm e _ => e.wellFormed
  | .chanClear e _ => e.wellFormed
  | .chanHeadRead e _ => e.wellFormed
  | .chanHeadWrite e _ => e.wellFormed
  | .engineRetire e _ => e.wellFormed
  | .seqRun e _ => e.wellFormed
  | .runApply _ => true
  | .timedCommandApply _ => true
  | .seqStop e _ => e.wellFormed
  | .seqResume e _ => e.wellFormed
  | .bseqRun e _ => e.wellFormed
  | .bseqStop e _ => e.wellFormed
  | .bseqResume e _ => e.wellFormed
  | .bseqVecWrite e _ => e.wellFormed
  | .bseqLaneWrite e _ => e.wellFormed
  | .bseqCaptRead e _ => e.wellFormed
  | .sweepListWrite e _ => e.wellFormed
  | .acqArm e _ => e.wellFormed
  | .acqStop e _ => e.wellFormed
  | .acqForce e _ => e.wellFormed
  | .routeSinkRead e _ => e.wellFormed
  | .routeSinkClear e _ => e.wellFormed
  | .fifoFlush e _ => e.wellFormed
  | .spoolRead e _ => e.wellFormed
  | .spoolAck e _ => e.wellFormed
  | .spoolDiscard e _ => e.wellFormed
  | .journalOpen e _ => e.wellFormed
  | .journalScanDone found => found.all fun x => decide (x.data.length < 2 ^ 19) && decide (x.commit.length < 2 ^ 12 + 1)
  | .journalRead e _ => e.wellFormed
  | .arbRead e _ => e.wellFormed
  | .arbClear e _ => e.wellFormed
  | .lockTake e _ => e.wellFormed
  | .lockRenew e _ => e.wellFormed
  | .lockRelease e _ => e.wellFormed
  | .lockReclaim e _ => e.wellFormed
  | .leaseExpiry k => decide (k < 1024)
  | .hkRun e _ => e.wellFormed
  | .hkStop e _ => e.wellFormed
  | .hkConvert e _ => e.wellFormed
  | .hkSlotDue _ => true
  | .hkConversionDone _ _ _ => true
  | .hkUrgentActivation n _ => decide (n < 32)
  | .hkPacketTimeout _ => true
  | .aoutRun e _ => e.wellFormed
  | .aoutStop e _ => e.wellFormed
  | .aoutWaveWrite e _ => e.wellFormed
  | .aoutPlaybackStart k _ _ _ => decide (k < 8)
  | .aoutPlaybackEnd k _ _ => decide (k < 8)
  | .aoutLevel e k _ => e.wellFormed && numOk k
  | .timeLoad e _ => e.wellFormed
  | .syncCalibrate e _ => e.wellFormed
  | .calibrationWindow _ _ => true
  | .expand e d => e.wellFormed && numOk d
  | .expansionDone d x => decide (d < 8192) && x.inverted.all fun e => e.2.all fun k => decide (k < 2080)
  | .release e d => e.wellFormed && numOk d
  | .clear e c => e.wellFormed && numOk c
  | .swflag e _ n => e.wellFormed && numOk n
  | .acceptNew e c _ => e.wellFormed && numOk c
  | .faultStatus e _ => e.wellFormed
  | .forceLevel e c _ => e.wellFormed && numOk c
  | .rateWrite e c _ _ => e.wellFormed && numOk c
  | .hrst e b _ _ => e.wellFormed && numOk b
  | .lclkEn e b _ _ => e.wellFormed && numOk b
  | .linkEn e c _ _ => e.wellFormed && numOk c
  | .curfew e c v _ => e.wellFormed && numOk c && decide (v < 65536)
  | .egressEn e _ => e.wellFormed
  | .logEn e _ => e.wellFormed
  | .spoolSize e v _ => e.wellFormed && decide (v < 128)
  | .halt bank n => seqIndex bank n
  | .play bank n => seqIndex bank n
  | .jump bank n => seqIndex bank n
  | .loop bank n => seqIndex bank n
  | .endloop bank n => seqIndex bank n
  | .wait bank n => seqIndex bank n
  | .waitRelease bank n => seqIndex bank n
  | .waitTimeout bank n => seqIndex bank n
  | .rate n => decide (n < 512)
  | .emit bank n => seqIndex bank n
  | .tset b => decide (b < 8)
  | .segmentEnd bank n => seqIndex bank n
  | .inputSampleBoundary c => decide (c < 512)
  | .underrunResume bank n => seqIndex bank n
  | .granuleFetch bank n _ inA inB =>
    seqIndex bank n && inA.all (fun k => decide (k < 2304)) && inB.all (fun k => decide (k < 2304)) && (bank || inB.isEmpty)
  | .regenerationDone _ inverted => inverted.all fun k => decide (k < 2080)
  | .remapRebuildDone _ => true
  | .streamDatagram e _ _ => e.wellFormed
  | .vectorIssue b => decide (b < 8)
  | .pinResultCredit b _ j _ => decide (b < 8) && decide (j < 64)
  | .loopUpdate c up _ _ _ x => decide (c < 512) && headerOk up && crossingOk x
  | .lateResult c slot => decide (c < 512) && decide (slot < 16)
  | .predictionHold c => decide (c < 512)
  | .complianceExit c => decide (c < 512)
  | .crossTime c => decide (c < 512)
  | .protectionTrip c => decide (c < 512)
  | .chanEventTrip c => decide (c < 512)
  | .outerUpdate c => decide (c < 512)
  | .thermSrcLost c => decide (c < 512)
  | .thermSrcTrip c => decide (c < 512)
  | .repetBinEnd c => decide (c < 512)
  | .feAction c => decide (c < 512)
  | .plausAction c => decide (c < 512)
  | .supvPhaseEnd c => decide (c < 512)
  | .rangeTimeout c => decide (c < 512)
  | .upRange c _ => decide (c < 512)
  | .downRange c _ => decide (c < 512)
  | .correctionEval b inverted =>
    decide (b < 8) && inverted.all fun e => decide (e.1 < 65536) && e.2.all fun k => decide (k < 2 ^ 19)
  | .pairsTakeEffect c => decide (c < 512)
  | .rampStart c => decide (c < 512)
  | .relayCloseTimeout c => decide (c < 512)
  | .disarmComplete c => decide (c < 512)
  | .upstreamStatus c _ _ => decide (c < 512)
  | .halertFall b _ => decide (b < 8)
  | .linkTrainingStart c => decide (c < 512)
  | .trainingRetry c => decide (c < 512)
  | .ts1Echo c _ => decide (c < 512)
  | .ts2Echo r => decide (r.chan < 512)
  | .rtMeasured c _ => decide (c < 512)
  | .ts3Echo c _ => decide (c < 512)
  | .alignmentCheck c _ => decide (c < 512)
  | .descriptorCheck c _ => decide (c < 512)
  | .trainingTimeout c => decide (c < 512)
  | .linkCrcFail c => decide (c < 512)
  | .blockLockLost c => decide (c < 512)
  | .trainingBlockReceived r => decide (r.chan < 512)
  | .headMessageResponse c _ _ _ => decide (c < 512)
  | .headMessageTimeout c _ => decide (c < 512)
  | .heldFrame c up _ slot => decide (c < 512) && headerOk up && decide (slot < 16)
  | .heldProtectionTrip c => decide (c < 512)
  | .engineFrame n _ => decide (n < 72)
  | .failover o _ => decide (o < 64)
  | .failoverTimeout o => decide (o < 64)
  | .sramScrub p =>
    p.regions.all (fun r => decide (r < 65536)) && p.fixed.all (fun i => decide (i < 13)) &&
      p.lost.all (fun k => decide (16 ≤ k) && decide (k < 28)) && p.lines.all fun l => seqIndex l.1 l.2.1
  | .dramRequest m _ _ _ => decide (m < 65536)
  | .firmwareRegionViolation task => decide (task < 4096)
  | .arbGrantLate m _ => decide (m < 65536)
  | .starvation m _ => decide (m < 65536)
  | .quadReturn k _ => decide (k < 9)
  | .tableSwap _ => true
  | .trigInputEdge k _ _ _ => decide (k < 16)
  | .eventDelivery _ _ => true
  | .trigPulseEnd k _ => decide (k < 16)
  | .meridian => true
  | .syncWord _ _ => true
  | .syncEventFire k => decide (k < 8)
  | .syncLost => true
  | .ptpMessage _ f m _ _ => f.wellFormed && m.wellFormed
  | .refclkLost => true
  | .refclkRelock => true
  | .acqRecordComplete a _ => decide (a < 512)
  | .acqHoldoffEnd a => decide (a < 512)
  | .detectionStart a _ => decide (a < 512)
  | .detectionEnd a _ => decide (a < 512)
  | .patternFire p _ => decide (p < 16)
  | .flushTime u => decide (u < 512)
  | .packetToRing f _ _ => decide (f < 9)
  | .spoolWrite _ _ => true
  | .spoolResume => true
  | .egressDatagram inverted => inverted.all fun l => l.all fun k => decide (k < 8192)
  | .egressFlushTimeout => true
  | .pauseFrame _ quanta => decide (quanta < 65536)
  | .journalTake inverted => inverted.all fun k => decide (k < 8192)
  | .journalMaxAge => true
  | .journalProgramDone => true
  | .journalProgramFail _ => true
  | .coreWatchdog _ _ => true
  | .hostTimeout => true
  | .sessionTimeout n => decide (1 ≤ n) && decide (n ≤ 16)
  | .heldRequestExpiry n => decide (1 ≤ n) && decide (n ≤ 16)
  | .lantern => true
  | .portLost _ _ _ _ => true
  | .ringFault f => f.wellFormed
  | .portUp _ => true
  | .ringRestore f => f.wellFormed
  | .frameForward _ f => f.wellFormed
  | .addressAgeOut mac => decide (mac < 2 ^ 48)
  | .arpRequest _ f target => f.wellFormed && decide (target < 2 ^ 32)
  | .neighbourSolicitation _ f target => f.wellFormed && decide (target < 2 ^ 128)
  | .echoRequest src _ id seq _ => src.wellFormed && decide (id < 65536) && decide (seq < 65536)
  | .dieTempMeasure tj => decide (tj < 65536)
  | .pwrgoodFall => true
  | .supplyDetector _ => true
  | .controllerReset _ => true
  | .powerUp _ => true
  | .bootRomStart => true
  | .discover f => f.wellFormed
  | .assign f => f.wellFormed
  | .loadBegin f => f.wellFormed
  | .loadData f => f.wellFormed
  | .loadEnd f => f.wellFormed
  | .loadQuery f => f.wellFormed
  | .loadAbort f => f.wellFormed
  | .imageCheckDone => true
  | .firmwareStart => true
  | .syncInEdge _ _ => true
  | .alignedExpiry => true
  | .pauseTimeEnd _ => true
  | .hrstNRise b => decide (b < 8)
  | .aoutUpdateInstant k _ _ => decide (k < 8)
  | .journalEraseDone _ => true
  | .firmwareRestartDone => true
  | .ptpTransmit _ _ => true

end Sys2Proof
end

