-- ==== Sys2Proof/Machine/Exec.lean ====
section
/-!
DEFINITION. What the meanings of the commands share: a command that cannot be given faults, and the requests that write one field.
-/

namespace Sys2Proof.Machine

/-- The outcome of a command with an effect: a command that cannot be given faults (DESIGN CHOICE, log entry 3). -/
def whenFormed (i : Instr) (s : State) (f : State → State) : Host.Outcome State Fault Refusal :=
  if i.wellFormed then .next (f s) else .fault .illFormed

/-- A request that writes one field of one object: a WRITE with one item (R624, R629). -/
def fieldWrite (e : Envelope) (o : Obj) (n field : Nat) (ws : List Word) : Req :=
  ⟨.write (objCode o), e, word 1 :: encodeItems [⟨objCode o, false, 0, n, field, ws.length, ws⟩]⟩

/-- A field value with one bit given. -/
def withBit (w : Word) (i : Nat) (b : Bool) : Word := putFld w i i b.toNat

/-- The write of CTRL.SWFLAG of a channel or bank sequencer (R262). -/
def swflagWrite (e : Envelope) (bank : Bool) (n : Nat) : Req :=
  if bank then fieldWrite e .bseq n 0x50 [0x80000000] else fieldWrite e .seq n 0x51 [0x80000000]

end Sys2Proof.Machine
end

