-- ==== Sys2Proof/Machine/RowsChannel.lean ====
section
/-!
DEFINITION. The meanings of the commands of channels, loops, supervision and ranges: one definition per command.
-/

namespace Sys2Proof.Machine

/-- ARM (R82). Checks the named channels and arms them at a boundary, starting relay closure, or refuses them all. -/
def execArm (e : Envelope) (body : List Word) (s : State) : Host.Outcome State Fault Refusal :=
  whenFormed (.arm e body) s fun s => s.receive handle ⟨.arm, e, body⟩

/-- ARM_APPLY (R85). At the apply boundary of a timed ARM, each channel is checked again; channels that fail are not
armed and N_ARM_FAILED is sent. -/
def execArmApply (id : Nat) (s : State) : Host.Outcome State Fault Refusal :=
  whenFormed (.armApply id) s fun s => s.whileRunning fun s => s.timedActs [.arm] id

/-- DISARM (R90). Ramps the set-point to 0 and opens the relay, or with IMMEDIATE commands the safe state at once. -/
def execDisarm (e : Envelope) (body : List Word) (s : State) : Host.Outcome State Fault Refusal :=
  whenFormed (.disarm e body) s fun s => s.receive handle ⟨.disarm, e, body⟩

/-- CHAN_CLEAR (R639). Returns a TRIPPED channel to READY, or releases a channel held at zero. -/
def execChanClear (e : Envelope) (body : List Word) (s : State) : Host.Outcome State Fault Refusal :=
  whenFormed (.chanClear e body) s fun s => s.receive handle ⟨.chanClear, e, body⟩

/-- CHAN_HEAD_READ (R469). Reads head registers over the link's message lane. -/
def execChanHeadRead (e : Envelope) (body : List Word) (s : State) : Host.Outcome State Fault Refusal :=
  whenFormed (.chanHeadRead e body) s fun s => s.receive handle ⟨.headRead, e, body⟩

/-- CHAN_HEAD_WRITE (R469). Writes vendor head registers over the link's message lane. -/
def execChanHeadWrite (e : Envelope) (body : List Word) (s : State) : Host.Outcome State Fault Refusal :=
  whenFormed (.chanHeadWrite e body) s fun s => s.receive handle ⟨.headWrite, e, body⟩

/-- ENGINE_RETIRE (R541). Retires an in-service engine as if its fault were lasting, which starts a failover. -/
def execEngineRetire (e : Envelope) (body : List Word) (s : State) : Host.Outcome State Fault Refusal :=
  whenFormed (.engineRetire e body) s fun s => s.receive handle ⟨.engineRetire, e, body⟩

/-- TIMED_COMMAND_APPLY (R628). An admitted timed DISARM, STOP, ACQ.ARM or ACQ.FORCE acts at its promised boundary. -/
def execTimedCommandApply (id : Nat) (s : State) : Host.Outcome State Fault Refusal :=
  whenFormed (.timedCommandApply id) s fun s =>
    s.whileRunning fun s => s.timedActs [.disarm, .seqStop, .seqResume, .bseqStop, .bseqResume, .acqArm, .acqStop, .acqForce] id

/-- LOOP_UPDATE (R106). An upstream fast block's sample becomes available and the engine computes the channel's
update, output and tail. -/
def execLoopUpdate (c : Nat) (up : Option Received) (cyc : Nat) (delay : Option Nat) (r : StateRead) (x :
    Crossing) (s : State) : Host.Outcome State Fault Refusal :=
  whenFormed (.loopUpdate c up cyc delay r x) s fun s => s.whileRunning fun s => s.loopFrame c up cyc delay r x

/-- LATE_RESULT (R123). A result not written 30 core cycles after its sample is replaced by a hold fast block and
counted against the engine. -/
def execLateResult (c slot : Nat) (s : State) : Host.Outcome State Fault Refusal :=
  whenFormed (.lateResult c slot) s fun s => s.whileRunning fun s => s.lateResult c slot

/-- PREDICTION_HOLD (R128). After PRED_MAX consecutive predicted frames, the engine holds the output and freezes its
states. -/
def execPredictionHold (c : Nat) (s : State) : Host.Outcome State Fault Refusal :=
  whenFormed (.predictionHold c) s fun s => s.whileRunning fun s => s.predictionHold c

/-- COMPLIANCE_EXIT (R114). After 16 frames without the compliance output selected, the channel leaves compliance. -/
def execComplianceExit (c : Nat) (s : State) : Host.Outcome State Fault Refusal :=
  whenFormed (.complianceExit c) s fun s => s.whileRunning fun s => s.complianceExit c

/-- CROSS_TIME (R71). A channel in compliance for CROSS_TIME trips. -/
def execCrossTime (c : Nat) (s : State) : Host.Outcome State Fault Refusal :=
  whenFormed (.crossTime c) s fun s => s.whileRunning fun s => s.crossTime c

/-- PROTECTION_TRIP (R73). A limit exceeded for PROT_DELAY frames trips the channel, increments TRIP_COUNT and sends
N_PROTECT. -/
def execProtectionTrip (c : Nat) (s : State) : Host.Outcome State Fault Refusal :=
  whenFormed (.protectionTrip c) s fun s => s.whileRunning fun s => s.protectionTrip c

/-- CHAN_EVENT_TRIP (R334). An activation of a channel's trip input trips it in its first frame at least 10 cycles
later. -/
def execChanEventTrip (c : Nat) (s : State) : Host.Outcome State Fault Refusal :=
  whenFormed (.chanEventTrip c) s fun s => s.whileRunning fun s => s.chanEventTrip c

/-- OUTER_UPDATE (R151). At a divider frame the outer loop computes a new inner set-point from Y_MEAN. -/
def execOuterUpdate (c : Nat) (s : State) : Host.Outcome State Fault Refusal :=
  whenFormed (.outerUpdate c) s fun s => s.whileRunning fun s => s.outerUpdate c

/-- THERM_SRC_LOST (R159). Thermal feedback older than MAX_AGE holds the outer loop and sends N_THERM_SRC. -/
def execThermSrcLost (c : Nat) (s : State) : Host.Outcome State Fault Refusal :=
  whenFormed (.thermSrcLost c) s fun s => s.whileRunning fun s => s.thermLost c

/-- THERM_SRC_TRIP (R159). Thermal feedback reaching twice MAX_AGE trips the channel. -/
def execThermSrcTrip (c : Nat) (s : State) : Host.Outcome State Fault Refusal :=
  whenFormed (.thermSrcTrip c) s fun s => s.whileRunning fun s => s.thermTrip c

/-- REPET_BIN_END (R167). A repetitive-controller bin completes, is learned or skipped, and the bin behind is
written. -/
def execRepetBinEnd (c : Nat) (s : State) : Host.Outcome State Fault Refusal :=
  whenFormed (.repetBinEnd c) s fun s => s.whileRunning fun s => s.binEnd c

/-- FE_ACTION (R185). The following-error timer reaches FE_TIME and its notice or trip acts. -/
def execFeAction (c : Nat) (s : State) : Host.Outcome State Fault Refusal :=
  whenFormed (.feAction c) s fun s => s.whileRunning fun s => s.followAction c

/-- PLAUS_ACTION (R191). The implausible count reaches COUNT of the phase and its action acts. -/
def execPlausAction (c : Nat) (s : State) : Host.Outcome State Fault Refusal :=
  whenFormed (.plausAction c) s fun s => s.whileRunning fun s => s.plausibilityAction c

/-- SUPV_PHASE_END (R189). The start-up or recovery phase of supervision ends when its time has passed. -/
def execSupvPhaseEnd (c : Nat) (s : State) : Host.Outcome State Fault Refusal :=
  whenFormed (.supvPhaseEnd c) s fun s => s.whileRunning fun s => s.phaseEnd c

/-- RANGE_TIMEOUT (R205). A range change unreported after 2 × OVERLAP + 20 µs trips the channel. -/
def execRangeTimeout (c : Nat) (s : State) : Host.Outcome State Fault Refusal :=
  whenFormed (.rangeTimeout c) s fun s => s.whileRunning fun s => s.rangeTimeout c

/-- UP_RANGE (R215). A measured value above UP for UP_COUNT frames starts an up-range. -/
def execUpRange (c : Nat) (current : Bool) (s : State) : Host.Outcome State Fault Refusal :=
  whenFormed (.upRange c current) s fun s => s.whileRunning fun s => s.upRange c current

/-- DOWN_RANGE (R216). Values below DOWN for DWELL start a down-range. -/
def execDownRange (c : Nat) (current : Bool) (s : State) : Host.Outcome State Fault Refusal :=
  whenFormed (.downRange c current) s fun s => s.whileRunning fun s => s.downRange c current

/-- CORRECTION_EVAL (R231). Every 32 frames the correction unit evaluates coefficient pairs for armed channels. -/
def execCorrectionEval (b : Nat) (inverted : List (Nat × List Nat)) (s : State) : Host.Outcome State Fault Refusal :=
  whenFormed (.correctionEval b inverted) s fun s => s.whileRunning fun s => s.correctionEval b inverted

/-- PAIRS_TAKE_EFFECT (R201). Evaluated coefficient pairs take effect at the boundary at least 1 µs after their
start. -/
def execPairsTakeEffect (c : Nat) (s : State) : Host.Outcome State Fault Refusal :=
  whenFormed (.pairsTakeEffect c) s fun s => s.whileRunning fun s => s.pairsTakeEffect c

/-- RAMP_START (R89). After the relay is reported closed, or at the synchronised start, the channel enters ARMED and
ramps. -/
def execRampStart (c : Nat) (s : State) : Host.Outcome State Fault Refusal :=
  whenFormed (.rampStart c) s fun s => s.whileRunning fun s => s.rampStart c

/-- RELAY_CLOSE_TIMEOUT (R88). A relay not reported closed in time disarms the channel and sends N_ARM_FAILED. -/
def execRelayCloseTimeout (c : Nat) (s : State) : Host.Outcome State Fault Refusal :=
  whenFormed (.relayCloseTimeout c) s fun s => s.whileRunning fun s => s.relayCloseTimeout c

/-- DISARM_COMPLETE (R90). After the relay is reported open, or its open time has passed, IDLE frames are sent and the
channel is READY. -/
def execDisarmComplete (c : Nat) (s : State) : Host.Outcome State Fault Refusal :=
  whenFormed (.disarmComplete c) s fun s => s.whileRunning fun s => s.disarmComplete c

/-- HELD_FRAME (R536). For a HELD channel the link island sends a hold fast block, the held blocks 1–9 and a HELD
frame to acquisition. -/
def execHeldFrame (c : Nat) (up : Option Received) (cyc slot : Nat) (s : State) : Host.Outcome State Fault
    Refusal :=
  whenFormed (.heldFrame c up cyc slot) s fun s => s.whileRunning fun s => s.heldFrame c up cyc slot

/-- HELD_PROTECTION_TRIP (R543). A raw sample beyond the protection codes for PROT_DELAY frames commands a HELD
channel safe. -/
def execHeldProtectionTrip (c : Nat) (s : State) : Host.Outcome State Fault Refusal :=
  whenFormed (.heldProtectionTrip c) s fun s => s.whileRunning fun s => s.heldProtectionTrip c

/-- ENGINE_FRAME (R532). An engine frame runs its known-answer self-check, and its write-back becomes current only if
the check passes. -/
def execEngineFrame (n : Nat) (pass : Bool) (s : State) : Host.Outcome State Fault Refusal :=
  whenFormed (.engineFrame n pass) s fun s => s.whileRunning fun s => s.engineCheck n pass

/-- FAILOVER (R537). The firmware checks the spare, tests it, loads the loop programs, maps the octet and releases
it. -/
def execFailover (o : Nat) (pass : Bool) (s : State) : Host.Outcome State Fault Refusal :=
  whenFormed (.failover o pass) s fun s => s.whileRunning fun s => s.failover o pass

/-- FAILOVER_TIMEOUT (R539). An octet still HELD after 50 µs, or without a spare, is commanded safe with
F_NO_SPARE. -/
def execFailoverTimeout (o : Nat) (s : State) : Host.Outcome State Fault Refusal :=
  whenFormed (.failoverTimeout o) s fun s => s.whileRunning fun s => s.failoverTimeout o

end Sys2Proof.Machine
end

