-- ==== Sys2Proof/Machine/RowsDevice.lean ====
section
/-!
DEFINITION. The meanings of the commands of integrity, the network, supplies and start-up: one definition per command.
-/

namespace Sys2Proof.Machine

/-- SRAM_SCRUB (R534). A scrub pass reads and corrects SECDED SRAM words. -/
def execSramScrub (pass : ScrubPass) (s : State) : Host.Outcome State Fault Refusal :=
  whenFormed (.sramScrub pass) s fun s => s.whileRunning fun s => s.sramScrub pass

/-- FIRMWARE_REGION_VIOLATION (R550). A firmware task writing outside its region is frozen. -/
def execFirmwareRegionViolation (task : Nat) (s : State) : Host.Outcome State Fault Refusal :=
  whenFormed (.firmwareRegionViolation task) s fun s => s.whileRunning fun s => s.regionViolation task

/-- CORE_WATCHDOG (R557). A firmware core's 2 ms watchdog expires and the core restarts. -/
def execCoreWatchdog (held : List (Nat × Nat)) (ticket : Option Nat) (s : State) : Host.Outcome State Fault Refusal :=
  whenFormed (.coreWatchdog held ticket) s fun s => s.whileRunning fun s => s.coreWatchdog held ticket

/-- HOST_TIMEOUT (R559). No open session for HOST_TIMEOUT performs HOST_ACT and sends N_HOST_LOST. -/
def execHostTimeout (s : State) : Host.Outcome State Fault Refusal :=
  whenFormed .hostTimeout s fun s => s.whileRunning fun s => s.hostTimeout

/-- SESSION_TIMEOUT (R598). A session without a valid request for TIMEOUT ends. -/
def execSessionTimeout (n : Nat) (s : State) : Host.Outcome State Fault Refusal :=
  whenFormed (.sessionTimeout n) s fun s => s.whileRunning fun s => s.sessionTimeout n

/-- HELD_REQUEST_EXPIRY (R599). An out-of-order request still held after 5 ms is dropped. -/
def execHeldRequestExpiry (n : Nat) (s : State) : Host.Outcome State Fault Refusal :=
  whenFormed (.heldRequestExpiry n) s fun s => s.whileRunning fun s => s.heldExpiry n

/-- LANTERN (R614). At each lantern period N_LANTERN is sent to subscribed sessions. -/
def execLantern (s : State) : Host.Outcome State Fault Refusal :=
  whenFormed .lantern s fun s => s.whileRunning fun s => s.lantern

/-- PAUSE_FRAME (R574). A received pause frame stops the port's transmissions for its pause time. -/
def execPauseFrame (p : Port) (quanta : Nat) (s : State) : Host.Outcome State Fault Refusal :=
  whenFormed (.pauseFrame p quanta) s fun s => s.pauseFrame p quanta

/-- PAUSE_TIME_END (R574). The pause time of a received pause frame runs out and the port resumes sending, draining
its queue. -/
def execPauseTimeEnd (p : Port) (s : State) : Host.Outcome State Fault Refusal :=
  whenFormed (.pauseTimeEnd p) s fun s => s.pauseTimeEnd p

/-- PORT_LOST (R561). A port without lock, or with a fault, for 100 µs is lost; N_PORT_LOST and a ring-fault frame are
sent. -/
def execPortLost (p : Port) (lock localFault remoteFault : Bool) (s : State) : Host.Outcome State Fault Refusal :=
  whenFormed (.portLost p lock localFault remoteFault) s fun s => s.portLost p lock localFault remoteFault

/-- RING_FAULT (R561). A received ring-fault frame is forwarded and flushes the address table; the owner unblocks port
B. -/
def execRingFault (f : EnumFrame) (s : State) : Host.Outcome State Fault Refusal :=
  whenFormed (.ringFault f) s fun s => s.ringFault f

/-- PORT_UP (R563). A lost port with valid blocks for 1 s sends N_PORT_UP and a ring-restore frame. -/
def execPortUp (p : Port) (s : State) : Host.Outcome State Fault Refusal :=
  whenFormed (.portUp p) s fun s => s.portUp p

/-- RING_RESTORE (R563). A received ring-restore frame flushes the table; the owner blocks port B again. -/
def execRingRestore (f : EnumFrame) (s : State) : Host.Outcome State Fault Refusal :=
  whenFormed (.ringRestore f) s fun s => s.ringRestore f

/-- FRAME_FORWARD (R571). The internal switch forwards a received frame, learning its source address. -/
def execFrameForward (p : Port) (f : EthFrame) (s : State) : Host.Outcome State Fault Refusal :=
  whenFormed (.frameForward p f) s fun s => s.frameForward p f

/-- ADDRESS_AGE_OUT (R572). A learned address is aged out 300 s after it was last seen. -/
def execAddressAgeOut (mac : Nat) (s : State) : Host.Outcome State Fault Refusal :=
  whenFormed (.addressAgeOut mac) s fun s => s.ageOut mac

/-- ARP_REQUEST (R583). An ARP request for the device's IPv4 address is answered. -/
def execArpRequest (p : Port) (f : EthFrame) (target : Nat) (s : State) : Host.Outcome State Fault Refusal :=
  whenFormed (.arpRequest p f target) s fun s => s.arpRequest p f target

/-- NEIGHBOUR_SOLICITATION (R583). A neighbour solicitation for the device's IPv6 addresses is answered. -/
def execNeighbourSolicitation (p : Port) (f : EthFrame) (target : Nat) (s : State) : Host.Outcome State Fault Refusal
    :=
  whenFormed (.neighbourSolicitation p f target) s fun s => s.neighbourSolicitation p f target

/-- ECHO_REQUEST (R583). An ICMP or ICMPv6 echo request is answered within the rate limit. -/
def execEchoRequest (src : Source) (v6 : Bool) (id seq : Nat) (data : List Byte) (s : State) : Host.Outcome State
    Fault Refusal :=
  whenFormed (.echoRequest src v6 id seq data) s fun s => s.echoRequest src v6 id seq data

/-- DIE_TEMP_MEASURE (R564). The 1 ms die temperature measurement sends N_OVERTEMP, or trips every running channel at
115 °C. -/
def execDieTempMeasure (tj : Nat) (s : State) : Host.Outcome State Fault Refusal :=
  whenFormed (.dieTempMeasure tj) s fun s => s.whileRunning fun s => s.dieTemp tj

/-- PWRGOOD_FALL (R565). On a fall of PWRGOOD, IDLE frames go to every link and the journal commits its open
record. -/
def execPwrgoodFall (s : State) : Host.Outcome State Fault Refusal :=
  whenFormed .pwrgoodFall s fun s => s.pwrgoodFall

/-- SUPPLY_DETECTOR (R692). A rail below 90 % for 2 µs acts as a PWRGOOD fall and holds reset. -/
def execSupplyDetector (vddio33 : Bool) (s : State) : Host.Outcome State Fault Refusal :=
  whenFormed (.supplyDetector vddio33) s fun s => s.supplyDetector vddio33

/-- CONTROLLER_RESET (R651). RESET_N falling with PWRGOOD high resets the controller, retaining HRST_N. -/
def execControllerReset (low : Nat) (s : State) : Host.Outcome State Fault Refusal :=
  whenFormed (.controllerReset low) s fun s => s.controllerReset low

/-- POWER_UP (R652). PWRGOOD rising begins power-up with every state lost. -/
def execPowerUp (resetLow : Bool) (s : State) : Host.Outcome State Fault Refusal :=
  whenFormed (.powerUp resetLow) s fun s => s.powerUp resetLow

/-- BOOT_ROM_START (R653). After RESET_N rises and the PLLs lock, the boot ROM initialises DRAM and starts serving
enumeration. -/
def execBootRomStart (s : State) : Host.Outcome State Fault Refusal :=
  whenFormed .bootRomStart s fun s => s.bootRomStart

/-- DISCOVER (R577). A DISCOVER on port A sets the position, is answered with REPLY and is forwarded. -/
def execDiscover (f : EnumFrame) (s : State) : Host.Outcome State Fault Refusal :=
  whenFormed (.discover f) s fun s => s.discover f

/-- ASSIGN (R580). ASSIGN sets the MAC and IP addresses and the chain key, answered with ASSIGN_ACK or refused. -/
def execAssign (f : EnumFrame) (s : State) : Host.Outcome State Fault Refusal :=
  whenFormed (.assign f) s fun s => s.assign f

/-- LOAD_BEGIN (R656). Starts an image load under a LOAD_ID. -/
def execLoadBegin (f : EnumFrame) (s : State) : Host.Outcome State Fault Refusal :=
  whenFormed (.loadBegin f) s fun s => s.loadBegin f

/-- LOAD_DATA (R656). Stores image bytes at an offset. -/
def execLoadData (f : EnumFrame) (s : State) : Host.Outcome State Fault Refusal :=
  whenFormed (.loadData f) s fun s => s.loadData f

/-- LOAD_END (R657). Reports missing data, or starts the image check. -/
def execLoadEnd (f : EnumFrame) (s : State) : Host.Outcome State Fault Refusal :=
  whenFormed (.loadEnd f) s fun s => s.loadEnd f

/-- LOAD_QUERY (R657). Answers with LOAD_STATUS. -/
def execLoadQuery (f : EnumFrame) (s : State) : Host.Outcome State Fault Refusal :=
  whenFormed (.loadQuery f) s fun s => s.loadQuery f

/-- LOAD_ABORT (R656). Discards the image in progress. -/
def execLoadAbort (f : EnumFrame) (s : State) : Host.Outcome State Fault Refusal :=
  whenFormed (.loadAbort f) s fun s => s.loadAbort f

/-- IMAGE_CHECK_DONE (R659). The signature and hash check ends, accepting the image or discarding it with its
RESULT. -/
def execImageCheckDone (s : State) : Host.Outcome State Fault Refusal :=
  whenFormed .imageCheckDone s fun s => s.imageCheckDone

/-- FIRMWARE_START (R660). The firmware starts with every field at reset, and STARTED is sent. -/
def execFirmwareStart (s : State) : Host.Outcome State Fault Refusal :=
  whenFormed .firmwareStart s fun s => s.firmwareStart

/-- FIRMWARE_RESTART_DONE (R558). All four cores are running again after a firmware restart, which lets FAULT_N follow
FAULT_STATUS again. -/
def execFirmwareRestartDone (s : State) : Host.Outcome State Fault Refusal :=
  whenFormed .firmwareRestartDone s fun s => s.whileRunning fun s => s.firmwareRestartDone

end Sys2Proof.Machine
end

