-- ==== Sys2Proof/Machine/RowsField.lean ====
section
/-!
DEFINITION. The meanings of the commands of requests that write one field: one definition per command.
-/

namespace Sys2Proof.Machine

/-- EXPAND (R247). Writing SWEEP CTRL.EXPAND checks the descriptor and starts its expansion into the point store. -/
def execExpand (e : Envelope) (d : Nat) (s : State) : Host.Outcome State Fault Refusal :=
  whenFormed (.expand e d) s fun s => s.receive handle (fieldWrite e .sweep d 0xA [0x80000000])

/-- RELEASE (R253). Writing SWEEP CTRL.RELEASE returns the descriptor to EMPTY and frees its list source. -/
def execRelease (e : Envelope) (d : Nat) (s : State) : Host.Outcome State Fault Refusal :=
  whenFormed (.release e d) s fun s => s.receive handle (fieldWrite e .sweep d 0xA [0x40000000])

/-- CLEAR (R164). Writing REPET CTRL.CLEAR sets every bin to 0.0 unless the channel is armed. -/
def execClear (e : Envelope) (c : Nat) (s : State) : Host.Outcome State Fault Refusal :=
  whenFormed (.clear e c) s fun s => s.receive handle (fieldWrite e .repet c 1 [0x20000000])

/-- SWFLAG (R262). Writing CTRL.SWFLAG raises the host condition of a channel or bank sequencer. -/
def execSwflag (e : Envelope) (bank : Bool) (n : Nat) (s : State) : Host.Outcome State Fault Refusal :=
  whenFormed (.swflag e bank n) s fun s => s.receive handle (swflagWrite e bank n)

/-- ACCEPT_NEW (R478). Accepts a changed head descriptor so that the link can train. -/
def execAcceptNew (e : Envelope) (c : Nat) (w : Word) (s : State) : Host.Outcome State Fault Refusal :=
  whenFormed (.acceptNew e c w) s fun s => s.receive handle (fieldWrite e .chan c 0x50 [w ||| 0x40000000])

/-- FAULT_STATUS (R530). A W1C write clears FAULT_STATUS bits, which may release FAULT_N. -/
def execFaultStatus (e : Envelope) (w : Word) (s : State) : Host.Outcome State Fault Refusal :=
  whenFormed (.faultStatus e w) s fun s => s.receive handle (fieldWrite e .dev 0 0x140 [w])

/-- FORCE_LEVEL (R65). A live set-point write is checked against the applied and pending limits and acts at the next
boundary. -/
def execForceLevel (e : Envelope) (c : Nat) (w : Word) (s : State) : Host.Outcome State Fault Refusal :=
  whenFormed (.forceLevel e c w) s fun s => s.receive handle (fieldWrite e .chan c 0x10 [w])

/-- RATE_WRITE (R282). A live write of SEQ RATE sets φ to 0 and starts a fresh input sample at its boundary. -/
def execRateWrite (e : Envelope) (c : Nat) (hi lo : Word) (s : State) : Host.Outcome State Fault Refusal :=
  whenFormed (.rateWrite e c hi lo) s fun s => s.receive handle (fieldWrite e .seq c 0x50 [hi, lo])

/-- HRST (R445). Writing BANK LINK_CTRL.HRST drives or releases HRST_N of the bank. -/
def execHrst (e : Envelope) (b : Nat) (on : Bool) (w : Word) (s : State) : Host.Outcome State Fault Refusal :=
  whenFormed (.hrst e b on w) s fun s => s.receive handle (fieldWrite e .bank b 0x40 [withBit w 31 on])

/-- LCLK_EN (R444). Writing LINK_CTRL.LCLK_EN starts or stops LCLK of the bank. -/
def execLclkEn (e : Envelope) (b : Nat) (on : Bool) (w : Word) (s : State) : Host.Outcome State Fault Refusal :=
  whenFormed (.lclkEn e b on w) s fun s => s.receive handle (fieldWrite e .bank b 0x40 [withBit w 30 on])

/-- LINK_EN (R471). Writing CHAN LINK_CTRL.LINK_EN enables training of the link, or fails the link with
F_LINK_RESET. -/
def execLinkEn (e : Envelope) (c : Nat) (on : Bool) (w : Word) (s : State) : Host.Outcome State Fault Refusal :=
  whenFormed (.linkEn e c on w) s fun s => s.receive handle (fieldWrite e .chan c 0x50 [withBit w 31 on])

/-- CURFEW (R482). A CURFEW write is sent to the trained head's CURFEW register within 20 µs. -/
def execCurfew (e : Envelope) (c : Nat) (v : Nat) (w : Word) (s : State) : Host.Outcome State Fault Refusal :=
  whenFormed (.curfew e c v w) s fun s => s.receive handle (fieldWrite e .chan c 0x50 [putFld w 15 0 v])

/-- EGRESS_EN (R615). Writing SPOOL CTRL.EGRESS_EN starts push egress to the writing session, or stops it after the
datagram in progress. -/
def execEgressEn (e : Envelope) (on : Bool) (s : State) : Host.Outcome State Fault Refusal :=
  whenFormed (.egressEn e on) s fun s => s.receive handle (fieldWrite e .spool 0 8 [withBit 0 31 on])

/-- LOG_EN (R432). Writing JOURNAL CTRL.LOG_EN starts or stops logging to the journal. -/
def execLogEn (e : Envelope) (on : Bool) (s : State) : Host.Outcome State Fault Refusal :=
  whenFormed (.logEn e on) s fun s => s.receive handle (fieldWrite e .journal 0 8 [withBit 0 31 on])

/-- SPOOL_SIZE (R421). A write of SPOOL CFG.SIZE resizes an empty spool. -/
def execSpoolSize (e : Envelope) (v : Nat) (w : Word) (s : State) : Host.Outcome State Fault Refusal :=
  whenFormed (.spoolSize e v w) s fun s => s.receive handle (fieldWrite e .spool 0 0 [putFld w 31 25 v])

/-- AOUT_LEVEL (R679). A LEVEL write reaches the idle output at the next update instant, or is stored during
playback. -/
def execAoutLevel (e : Envelope) (k : Nat) (w : Word) (s : State) : Host.Outcome State Fault Refusal :=
  whenFormed (.aoutLevel e k w) s fun s => s.receive handle (fieldWrite e .aout k 4 [w])

end Sys2Proof.Machine
end

