-- ==== Sys2Proof/Machine/RowsHost.lean ====
section
/-!
DEFINITION. The meanings of the commands of requests: sessions, objects, commits, the device, calibration sets and notices: one definition per command.
-/

namespace Sys2Proof.Machine

/-- SESSION_OPEN (R596). Opens a session with the requested rates, derives its key and replies with the granted
values, or refuses when sessions, rate or spans do not allow it. -/
def execSessionOpen (e : Envelope) (body : List Word) (s : State) : Host.Outcome State Fault Refusal :=
  whenFormed (.sessionOpen e body) s fun s => s.receive handle ⟨.sessionOpen, e, body⟩

/-- SESSION_CLOSE (R598). Ends the session, discarding its staged groups and orphaning its locks. -/
def execSessionClose (e : Envelope) (body : List Word) (s : State) : Host.Outcome State Fault Refusal :=
  whenFormed (.sessionClose e body) s fun s => s.receive handle ⟨.sessionClose, e, body⟩

/-- SESSION_PING (R598). Costs its tokens, keeps the session alive and does nothing else. -/
def execSessionPing (e : Envelope) (body : List Word) (s : State) : Host.Outcome State Fault Refusal :=
  whenFormed (.sessionPing e body) s fun s => s.receive handle ⟨.sessionPing, e, body⟩

/-- OBJ_READ (R624). Returns the listed fields of an object type, in the applied or the staged view. -/
def execObjRead (e : Envelope) (obj : Nat) (body : List Word) (s : State) : Host.Outcome State Fault Refusal :=
  whenFormed (.objRead e obj body) s fun s => s.receive handle ⟨.read obj, e, body⟩

/-- OBJ_WRITE (R28). Writes live, locked, W1C and SC fields that have no row of their own; all items are checked first
and act at one boundary. -/
def execObjWrite (e : Envelope) (obj : Nat) (body : List Word) (s : State) : Host.Outcome State Fault Refusal :=
  whenFormed (.objWrite e obj body) s fun s => s.receive handle ⟨.write obj, e, body⟩

/-- OBJ_STAGE (R34). Stores staged values in a commit group's staging buffer and takes ownership of that buffer. -/
def execObjStage (e : Envelope) (obj : Nat) (body : List Word) (s : State) : Host.Outcome State Fault Refusal :=
  whenFormed (.objStage e obj body) s fun s => s.receive handle ⟨.stage obj, e, body⟩

/-- COMMIT (R43). Checks the named groups, takes a ticket, or is refused; an admitted commit has its lead work
scheduled on the commit path. -/
def execCommit (e : Envelope) (body : List Word) (s : State) : Host.Outcome State Fault Refusal :=
  whenFormed (.commit e body) s fun s => s.receive handle ⟨.commit, e, body⟩

/-- COMMIT_RELEASE (R43). When a commit's lead work ends, the shadow copies, the flags and the release word are
written for its apply boundary. -/
def execCommitRelease (num : Nat) (s : State) : Host.Outcome State Fault Refusal :=
  whenFormed (.commitRelease num) s fun s => s.whileRunning fun s => s.commitRelease num

/-- GROUP_APPLY (R44). At a device frame boundary, released staged groups and then live writes are applied before the
frame is computed. -/
def execGroupApply (t : Nat) (s : State) : Host.Outcome State Fault Refusal :=
  whenFormed (.groupApply t) s fun s => s.groupApply t

/-- DISCARD (R37). Empties the named groups' staging buffers and releases their ownership. -/
def execDiscard (e : Envelope) (body : List Word) (s : State) : Host.Outcome State Fault Refusal :=
  whenFormed (.discard e body) s fun s => s.receive handle ⟨.discard, e, body⟩

/-- DEV_CAPS (R635). Returns the capability counts and identity of the device. -/
def execDevCaps (e : Envelope) (body : List Word) (s : State) : Host.Outcome State Fault Refusal :=
  whenFormed (.devCaps e body) s fun s => s.receive handle ⟨.caps, e, body⟩

/-- DEV_CAL_WRITE (R227). Writes words into a calibration set, making it FILLING. -/
def execDevCalWrite (e : Envelope) (body : List Word) (s : State) : Host.Outcome State Fault Refusal :=
  whenFormed (.devCalWrite e body) s fun s => s.receive handle ⟨.calWrite, e, body⟩

/-- DEV_CAL_SEAL (R228). Checks a calibration set and makes it LOADED, or refuses it. -/
def execDevCalSeal (e : Envelope) (body : List Word) (s : State) : Host.Outcome State Fault Refusal :=
  whenFormed (.devCalSeal e body) s fun s => s.receive handle ⟨.calSeal, e, body⟩

/-- DEV_CAL_FREE (R226). Returns a calibration set to EMPTY unless it is in use. -/
def execDevCalFree (e : Envelope) (body : List Word) (s : State) : Host.Outcome State Fault Refusal :=
  whenFormed (.devCalFree e body) s fun s => s.receive handle ⟨.calFree, e, body⟩

/-- DEV_CAL_INFO (R636). Returns a calibration set's state, its users and its header. -/
def execDevCalInfo (e : Envelope) (body : List Word) (s : State) : Host.Outcome State Fault Refusal :=
  whenFormed (.devCalInfo e body) s fun s => s.receive handle ⟨.calInfo, e, body⟩

/-- DEV_THAW (R551). Releases a frozen master so that it continues. -/
def execDevThaw (e : Envelope) (body : List Word) (s : State) : Host.Outcome State Fault Refusal :=
  whenFormed (.devThaw e body) s fun s => s.receive handle ⟨.thaw, e, body⟩

/-- DEV_MASTER_RESET (R551). Resets a frozen master: it ends a session, stops a sequencer, or restarts a task. -/
def execDevMasterReset (e : Envelope) (body : List Word) (s : State) : Host.Outcome State Fault Refusal :=
  whenFormed (.devMasterReset e body) s fun s => s.receive handle ⟨.masterReset, e, body⟩

/-- DEV_FAULT_READ (R567). Returns the oldest fault log entries and frees them. -/
def execDevFaultRead (e : Envelope) (body : List Word) (s : State) : Host.Outcome State Fault Refusal :=
  whenFormed (.devFaultRead e body) s fun s => s.receive handle ⟨.faultRead, e, body⟩

/-- DEV_NOTICE_READ (R611). Returns notices from the notice ring, starting at a named NSEQ. -/
def execDevNoticeRead (e : Envelope) (body : List Word) (s : State) : Host.Outcome State Fault Refusal :=
  whenFormed (.devNoticeRead e body) s fun s => s.receive handle ⟨.noticeRead, e, body⟩

/-- STREAM_DATAGRAM (R620). A STREAM datagram's granules are accepted, discarded as late or refused, and a STREAM_ACK
is sent. -/
def execStreamDatagram (e : Envelope) (code : BitVec 16) (body : List Word) (s : State) : Host.Outcome State Fault
    Refusal :=
  whenFormed (.streamDatagram e code body) s fun s => s.streamDatagram e code body

end Sys2Proof.Machine
end

