-- ==== Sys2Proof/Machine/RowsLink.lean ====
section
/-!
DEFINITION. The meanings of the commands of the head links: one definition per command.
-/

namespace Sys2Proof.Machine

/-- UPSTREAM_STATUS (R713). Upstream blocks 1–9 of a frame are received and, if their CRC passes, the relay,
temperature, ALERT and RX_ERR reports are taken. -/
def execUpstreamStatus (c : Nat) (blocks : List (Nat × Block)) (before : BitVec 58) (s : State) :
    Host.Outcome State Fault Refusal :=
  whenFormed (.upstreamStatus c blocks before) s fun s => s.whileRunning fun s => s.upstreamStatus c blocks before

/-- HALERT_FALL (R447). A falling HALERT_N edge reads the heads' FAULT, acts as ALERT_ACT selects and sends
N_HEAD_ALERT. -/
def execHalertFall (b low : Nat) (s : State) : Host.Outcome State Fault Refusal :=
  whenFormed (.halertFall b low) s fun s => s.whileRunning fun s => s.halertFall b low

/-- LINK_TRAINING_START (R471). Once HRST_N and LCLK conditions hold, the controller starts training with TS1. -/
def execLinkTrainingStart (c : Nat) (s : State) : Host.Outcome State Fault Refusal :=
  whenFormed (.linkTrainingStart c) s fun s => s.whileRunning fun s => s.trainingStart c

/-- TRAINING_RETRY (R471). A new training attempt starts 10 ms after a failed one. -/
def execTrainingRetry (c : Nat) (s : State) : Host.Outcome State Fault Refusal :=
  whenFormed (.trainingRetry c) s fun s => s.whileRunning fun s => s.trainingRetry c

/-- TS1_ECHO (R473). Upstream lock and the CHAN echo are checked, and TS2 is sent. -/
def execTs1Echo (c : Nat) (heard : Heard) (s : State) : Host.Outcome State Fault Refusal :=
  whenFormed (.ts1Echo c heard) s fun s => s.whileRunning fun s => s.ts1Echo c heard

/-- TS2_ECHO (R473). The head's aligned TS2 is received, and round-trip measurement begins. -/
def execTs2Echo (r : OnLink) (s : State) : Host.Outcome State Fault Refusal :=
  whenFormed (.ts2Echo r) s fun s => s.whileRunning fun s => s.ts2Echo r.chan r.block

/-- RT_MEASURED (R474). The round trip over 64 frames is measured and TS3 carries ADV. -/
def execRtMeasured (c count : Nat) (s : State) : Host.Outcome State Fault Refusal :=
  whenFormed (.rtMeasured c count) s fun s => s.whileRunning fun s => s.rtMeasured c count

/-- TS3_ECHO (R473). The head's TS3 echoes ADV and the alignment check begins. -/
def execTs3Echo (c : Nat) (r : Received) (s : State) : Host.Outcome State Fault Refusal :=
  whenFormed (.ts3Echo c r) s fun s => s.whileRunning fun s => s.ts3Echo c r

/-- ALIGNMENT_CHECK (R473). Upstream frame alignment is checked over 64 frames, then IDLE frames start and the
descriptor is read. -/
def execAlignmentCheck (c : Nat) (ok : Bool) (s : State) : Host.Outcome State Fault Refusal :=
  whenFormed (.alignmentCheck c ok) s fun s => s.whileRunning fun s => s.alignmentCheck c ok

/-- DESCRIPTOR_CHECK (R477). The head's descriptor is checked and accepted, or refused. -/
def execDescriptorCheck (c : Nat) (words : List Block) (s : State) : Host.Outcome State Fault Refusal :=
  whenFormed (.descriptorCheck c words) s fun s =>
    s.whileRunning fun s => s.descriptorCheck c words (fun s => s.verifyChan c)

/-- TRAINING_TIMEOUT (R475). A training step missing its bound fails the attempt. -/
def execTrainingTimeout (c : Nat) (s : State) : Host.Outcome State Fault Refusal :=
  whenFormed (.trainingTimeout c) s fun s => s.whileRunning fun s => s.trainingTimeout c

/-- LINK_CRC_FAIL (R483). Link errors reaching THRESH within WINDOW fail the link: LINK_DOWN, with N_FAULT and
N_LINK_DOWN. -/
def execLinkCrcFail (c : Nat) (s : State) : Host.Outcome State Fault Refusal :=
  whenFormed (.linkCrcFail c) s fun s => s.whileRunning fun s => s.linkCrcFail c

/-- BLOCK_LOCK_LOST (R451). Loss of upstream block lock fails the link with F_LINK_LOCK. -/
def execBlockLockLost (c : Nat) (s : State) : Host.Outcome State Fault Refusal :=
  whenFormed (.blockLockLost c) s fun s => s.whileRunning fun s => s.blockLockLost c

/-- TRAINING_BLOCK_RECEIVED (R484). A training block received on a trained link fails the link with F_LINK_LOCK. -/
def execTrainingBlockReceived (r : OnLink) (s : State) : Host.Outcome State Fault Refusal :=
  whenFormed (.trainingBlockReceived r) s fun s => s.whileRunning fun s => s.trainingBlock r.chan r.block

/-- HEAD_MESSAGE_RESPONSE (R467). A head response on the message lane completes its request. -/
def execHeadMessageResponse (c tag status : Nat) (words : List Block) (s : State) : Host.Outcome State Fault Refusal
    :=
  whenFormed (.headMessageResponse c tag status words) s fun s =>
    s.whileRunning fun s => s.headResponse c tag status words

/-- HEAD_MESSAGE_TIMEOUT (R467). A request without a response after 4 µs is repeated, or fails after three repeats. -/
def execHeadMessageTimeout (c tag : Nat) (s : State) : Host.Outcome State Fault Refusal :=
  whenFormed (.headMessageTimeout c tag) s fun s => s.whileRunning fun s => s.headTimeout c tag

/-- HRST_N_RISE (R445). HRST_N rises once it has been low for 10 µs after HRST was written 0. -/
def execHrstNRise (b : Nat) (s : State) : Host.Outcome State Fault Refusal :=
  whenFormed (.hrstNRise b) s fun s => s.whileRunning fun s => s.hrstRise b

end Sys2Proof.Machine
end

