-- ==== Sys2Proof/Machine/RowsRecord.lean ====
section
/-!
DEFINITION. The meanings of the commands of acquisition, triggers, FIFOs, spool, egress and journal: one definition per command.
-/

namespace Sys2Proof.Machine

/-- ACQ_ARM (R368). Admits and arms acquisition units, which then form intervals from the next channel frame. -/
def execAcqArm (e : Envelope) (body : List Word) (s : State) : Host.Outcome State Fault Refusal :=
  whenFormed (.acqArm e body) s fun s => s.receive handle ⟨.acqArm, e, body⟩

/-- ACQ_STOP (R371). Completes a record in progress with TRUNC and puts the unit in DONE. -/
def execAcqStop (e : Envelope) (body : List Word) (s : State) : Host.Outcome State Fault Refusal :=
  whenFormed (.acqStop e body) s fun s => s.receive handle ⟨.acqStop, e, body⟩

/-- ACQ_FORCE (R376). Triggers the named units from the host at a device frame boundary. -/
def execAcqForce (e : Envelope) (body : List Word) (s : State) : Host.Outcome State Fault Refusal :=
  whenFormed (.acqForce e body) s fun s => s.receive handle ⟨.acqForce, e, body⟩

/-- ROUTE_SINK_READ (R345). Returns a consumer's overrun, coincidence, busy state and counts. -/
def execRouteSinkRead (e : Envelope) (body : List Word) (s : State) : Host.Outcome State Fault Refusal :=
  whenFormed (.routeSinkRead e body) s fun s => s.receive handle ⟨.sinkRead, e, body⟩

/-- ROUTE_SINK_CLEAR (R345). Clears a consumer's OVERRUN flag and sets OVERRUNS to 0. -/
def execRouteSinkClear (e : Envelope) (body : List Word) (s : State) : Host.Outcome State Fault Refusal :=
  whenFormed (.routeSinkClear e body) s fun s => s.receive handle ⟨.sinkClear, e, body⟩

/-- FIFO_FLUSH (R414). Closes the open packets of every unit of the named FIFOs at their next entry boundary. -/
def execFifoFlush (e : Envelope) (body : List Word) (s : State) : Host.Outcome State Fault Refusal :=
  whenFormed (.fifoFlush e body) s fun s => s.receive handle ⟨.fifoFlush, e, body⟩

/-- SPOOL_READ (R617). Pull read: returns whole spool packets with their cursors, or the not-valid tag. -/
def execSpoolRead (e : Envelope) (body : List Word) (s : State) : Host.Outcome State Fault Refusal :=
  whenFormed (.spoolRead e body) s fun s => s.receive handle ⟨.spoolRead, e, body⟩

/-- SPOOL_ACK (R618). Acknowledges pulled packets up to a cursor, so that they can leave the spool. -/
def execSpoolAck (e : Envelope) (body : List Word) (s : State) : Host.Outcome State Fault Refusal :=
  whenFormed (.spoolAck e body) s fun s => s.receive handle ⟨.spoolAck, e, body⟩

/-- SPOOL_DISCARD (R428). Empties the spool and every FIFO ring while no consumer is enabled. -/
def execSpoolDiscard (e : Envelope) (body : List Word) (s : State) : Host.Outcome State Fault Refusal :=
  whenFormed (.spoolDiscard e body) s fun s => s.receive handle ⟨.spoolDiscard, e, body⟩

/-- JOURNAL_OPEN (R438). Switches the journal device to 8D mode and starts the scan of the journal. -/
def execJournalOpen (e : Envelope) (body : List Word) (s : State) : Host.Outcome State Fault Refusal :=
  whenFormed (.journalOpen e body) s fun s => s.receive handle ⟨.journalOpen, e, body⟩

/-- JOURNAL_SCAN_DONE (R438). The journal scan ends, setting FIRST_JSEQ, NEXT_JSEQ, USED and TORN and placing the next
record. -/
def execJournalScanDone (found : List JImage) (s : State) : Host.Outcome State Fault Refusal :=
  whenFormed (.journalScanDone found) s fun s => s.whileRunning fun s => s.journalScanDone found

/-- JOURNAL_READ (R644). Returns the packets of a valid journal record from a given offset. -/
def execJournalRead (e : Envelope) (body : List Word) (s : State) : Host.Outcome State Fault Refusal :=
  whenFormed (.journalRead e body) s fun s => s.receive handle ⟨.journalRead, e, body⟩

/-- TRIG_INPUT_EDGE (R355). A selected edge at a TRIG input is stamped and fires its source. -/
def execTrigInputEdge (k : Nat) (high : Bool) (cyc stamp : Nat) (s : State) : Host.Outcome State Fault Refusal :=
  whenFormed (.trigInputEdge k high cyc stamp) s fun s => s.whileRunning fun s => s.trigEdge k high cyc stamp

/-- EVENT_DELIVERY (R343). Deliveries reaching a consumer in one cycle form an arrival group that activates the
consumer once. -/
def execEventDelivery (dst cyc : Nat) (s : State) : Host.Outcome State Fault Refusal :=
  whenFormed (.eventDelivery dst cyc) s fun s => s.whileRunning fun s => s.eventDelivery dst cyc

/-- TRIG_PULSE_END (R356). A TRIG output pulse ends after PULSE cycles and the pin is free. -/
def execTrigPulseEnd (k cyc : Nat) (s : State) : Host.Outcome State Fault Refusal :=
  whenFormed (.trigPulseEnd k cyc) s fun s => s.whileRunning fun s => s.pulseEnds k cyc

/-- ACQ_RECORD_COMPLETE (R369). A record's last post-trigger interval completes the record; the unit goes to HOLDOFF,
DONE or the next record. -/
def execAcqRecordComplete (a cyc : Nat) (s : State) : Host.Outcome State Fault Refusal :=
  whenFormed (.acqRecordComplete a cyc) s fun s => s.whileRunning fun s => s.recordComplete a cyc

/-- ACQ_HOLDOFF_END (R369). The holdoff ends and the unit returns to ARMED. -/
def execAcqHoldoffEnd (a : Nat) (s : State) : Host.Outcome State Fault Refusal :=
  whenFormed (.acqHoldoffEnd a) s fun s => s.whileRunning fun s => s.holdoffEnd a

/-- DETECTION_START (R390). DET_FRAMES detecting frames start a detection and fire DETECT. -/
def execDetectionStart (a cyc : Nat) (s : State) : Host.Outcome State Fault Refusal :=
  whenFormed (.detectionStart a cyc) s fun s => s.whileRunning fun s => s.detectionStart a cyc

/-- DETECTION_END (R390). DET_FRAMES releasing frames end a detection, fire DETECT_END and may write a detection
record. -/
def execDetectionEnd (a cyc : Nat) (s : State) : Host.Outcome State Fault Refusal :=
  whenFormed (.detectionEnd a cyc) s fun s => s.whileRunning fun s => s.detectionEnd a cyc

/-- PATTERN_FIRE (R395). A pattern matching for HOLD evaluations fires its source. -/
def execPatternFire (p cyc : Nat) (s : State) : Host.Outcome State Fault Refusal :=
  whenFormed (.patternFire p cyc) s fun s => s.whileRunning fun s => s.patternFire p cyc

/-- FLUSH_TIME (R403). A unit's open packet with payload closes after FLUSH_TIME. -/
def execFlushTime (u : Nat) (s : State) : Host.Outcome State Fault Refusal :=
  whenFormed (.flushTime u) s fun s => s.whileRunning fun s => s.flushTime u

/-- PACKET_TO_RING (R406). A closed packet is copied whole into its FIFO ring when there is room. -/
def execPacketToRing (f cyc : Nat) (r : MemRead) (s : State) : Host.Outcome State Fault Refusal :=
  whenFormed (.packetToRing f cyc r) s fun s => s.whileRunning fun s => s.packetToRing f cyc r

/-- SPOOL_WRITE (R411). The spool writer takes a packet from the next FIFO, writes its CRC and stores it. -/
def execSpoolWrite (cyc : Nat) (r : MemRead) (s : State) : Host.Outcome State Fault Refusal :=
  whenFormed (.spoolWrite cyc r) s fun s => s.whileRunning fun s => s.spoolWrite cyc r

/-- SPOOL_RESUME (R424). The spool writer resumes when the next packet fits. -/
def execSpoolResume (s : State) : Host.Outcome State Fault Refusal :=
  whenFormed .spoolResume s fun s => s.whileRunning fun s => s.spoolResume

/-- EGRESS_DATAGRAM (R616). Push egress sends a paced datagram of whole spool packets, checking each packet. -/
def execEgressDatagram (inverted : List (List Nat)) (s : State) : Host.Outcome State Fault Refusal :=
  whenFormed (.egressDatagram inverted) s fun s => s.whileRunning fun s => s.egressDatagram inverted

/-- EGRESS_FLUSH_TIMEOUT (R616). A datagram is sent 10 µs after its first packet was taken. -/
def execEgressFlushTimeout (s : State) : Host.Outcome State Fault Refusal :=
  whenFormed .egressFlushTimeout s fun s => s.whileRunning fun s => s.egressFlush

/-- JOURNAL_TAKE (R436). The journal port takes a spool packet into its open record, opening or closing records as
needed. -/
def execJournalTake (inverted : List Nat) (s : State) : Host.Outcome State Fault Refusal :=
  whenFormed (.journalTake inverted) s fun s => s.whileRunning fun s => s.journalTake inverted

/-- JOURNAL_MAX_AGE (R436). A journal record open for MAX_AGE closes. -/
def execJournalMaxAge (s : State) : Host.Outcome State Fault Refusal :=
  whenFormed .journalMaxAge s fun s => s.whileRunning fun s => s.journalMaxAge

/-- JOURNAL_PROGRAM_DONE (R434). All data units programmed lets the commit unit be programmed, committing the
record. -/
def execJournalProgramDone (s : State) : Host.Outcome State Fault Refusal :=
  whenFormed .journalProgramDone s fun s => s.journalProgramDone

/-- JOURNAL_PROGRAM_FAIL (R440). A failed erase or program retires the block and rewrites the record elsewhere. -/
def execJournalProgramFail (block : Nat) (s : State) : Host.Outcome State Fault Refusal :=
  whenFormed (.journalProgramFail block) s fun s => s.whileRunning fun s => s.journalProgramFail block

/-- JOURNAL_ERASE_DONE (R438). An erase of a journal block completes and records may be programmed into it. -/
def execJournalEraseDone (block : Nat) (s : State) : Host.Outcome State Fault Refusal :=
  whenFormed (.journalEraseDone block) s fun s => s.whileRunning fun s => s.journalEraseDone block

end Sys2Proof.Machine
end

