-- ==== Sys2Proof/Machine/RowsSequencer.lean ====
section
/-!
DEFINITION. The meanings of the commands of sequencers, sweeps and vectors: one definition per command.
-/

namespace Sys2Proof.Machine

/-- SEQ_RUN (R266). Admits and starts a channel sequencer at PC0, reserving its DRAM grant and cache. -/
def execSeqRun (e : Envelope) (body : List Word) (s : State) : Host.Outcome State Fault Refusal :=
  whenFormed (.seqRun e body) s fun s => s.receive handle ⟨.seqRun, e, body⟩

/-- RUN_APPLY (R720). At the apply boundary of a timed SEQ.RUN or BSEQ.RUN, each sequencer is checked again; one that
fails does not start and N_RUN_FAILED is sent. -/
def execRunApply (id : Nat) (s : State) : Host.Outcome State Fault Refusal :=
  whenFormed (.runApply id) s fun s => s.whileRunning fun s => s.timedActs [.seqRun, .bseqRun] id

/-- SEQ_STOP (R267). Ends playback at the next boundary, or at the segment end with AT_END, and enters DONE. -/
def execSeqStop (e : Envelope) (body : List Word) (s : State) : Host.Outcome State Fault Refusal :=
  whenFormed (.seqStop e body) s fun s => s.receive handle ⟨.seqStop, e, body⟩

/-- SEQ_RESUME (R302). Starts a parked sequencer's chosen segment after RECLAIM. -/
def execSeqResume (e : Envelope) (body : List Word) (s : State) : Host.Outcome State Fault Refusal :=
  whenFormed (.seqResume e body) s fun s => s.receive handle ⟨.seqResume, e, body⟩

/-- BSEQ_RUN (R318). Admits and starts a bank sequencer at its first issue boundary. -/
def execBseqRun (e : Envelope) (body : List Word) (s : State) : Host.Outcome State Fault Refusal :=
  whenFormed (.bseqRun e body) s fun s => s.receive handle ⟨.bseqRun, e, body⟩

/-- BSEQ_STOP (R317). Ends bank sequencer playback as SEQ.STOP does. -/
def execBseqStop (e : Envelope) (body : List Word) (s : State) : Host.Outcome State Fault Refusal :=
  whenFormed (.bseqStop e body) s fun s => s.receive handle ⟨.bseqStop, e, body⟩

/-- BSEQ_RESUME (R317). Resumes a parked bank sequencer as SEQ.RESUME does. -/
def execBseqResume (e : Envelope) (body : List Word) (s : State) : Host.Outcome State Fault Refusal :=
  whenFormed (.bseqResume e body) s fun s => s.receive handle ⟨.bseqResume, e, body⟩

/-- BSEQ_VEC_WRITE (R311). Writes vectors into both copies of the bank vector memory. -/
def execBseqVecWrite (e : Envelope) (body : List Word) (s : State) : Host.Outcome State Fault Refusal :=
  whenFormed (.bseqVecWrite e body) s fun s => s.receive handle ⟨.vecWrite, e, body⟩

/-- BSEQ_LANE_WRITE (R311). Writes lane entries into both copies of the bank vector memory. -/
def execBseqLaneWrite (e : Envelope) (body : List Word) (s : State) : Host.Outcome State Fault Refusal :=
  whenFormed (.bseqLaneWrite e body) s fun s => s.receive handle ⟨.laneWrite, e, body⟩

/-- BSEQ_CAPT_READ (R327). Returns the oldest capture ring entries and frees them. -/
def execBseqCaptRead (e : Envelope) (body : List Word) (s : State) : Host.Outcome State Fault Refusal :=
  whenFormed (.bseqCaptRead e body) s fun s => s.receive handle ⟨.captRead, e, body⟩

/-- SWEEP_LIST_WRITE (R252). Writes list entries into a LIST descriptor's list source, taking granules as needed. -/
def execSweepListWrite (e : Envelope) (body : List Word) (s : State) : Host.Outcome State Fault Refusal :=
  whenFormed (.sweepListWrite e body) s fun s => s.receive handle ⟨.listWrite, e, body⟩

/-- EXPANSION_DONE (R250). Expansion ends: LENGTH, VMIN and VMAX are set and the descriptor becomes READY, or
FAULT. -/
def execExpansionDone (d : Nat) (x : ExpansionEnd) (s : State) : Host.Outcome State Fault Refusal :=
  whenFormed (.expansionDone d x) s fun s => s.whileRunning fun s => s.expansionDone d x

/-- HALT (R272). Sequencer instruction: enters DONE, keeping the last output value. -/
def execHalt (bank : Bool) (n : Nat) (s : State) : Host.Outcome State Fault Refusal :=
  whenFormed (.halt bank n) s fun s => s.whileRunning fun s => s.stepOp (seqRef bank n) opHalt

/-- PLAY (R272). Sequencer instruction: starts playback of a segment. -/
def execPlay (bank : Bool) (n : Nat) (s : State) : Host.Outcome State Fault Refusal :=
  whenFormed (.play bank n) s fun s => s.whileRunning fun s => s.stepOp (seqRef bank n) opPlay

/-- JUMP (R272). Sequencer instruction: goes to TARGET if its condition holds on the latches. -/
def execJump (bank : Bool) (n : Nat) (s : State) : Host.Outcome State Fault Refusal :=
  whenFormed (.jump bank n) s fun s => s.whileRunning fun s => s.stepOp (seqRef bank n) opJump

/-- LOOP (R272). Sequencer instruction: sets a loop counter. -/
def execLoop (bank : Bool) (n : Nat) (s : State) : Host.Outcome State Fault Refusal :=
  whenFormed (.loop bank n) s fun s => s.whileRunning fun s => s.stepOp (seqRef bank n) opLoop

/-- ENDLOOP (R272). Sequencer instruction: decrements a counter and loops back unless it reached 0. -/
def execEndloop (bank : Bool) (n : Nat) (s : State) : Host.Outcome State Fault Refusal :=
  whenFormed (.endloop bank n) s fun s => s.whileRunning fun s => s.stepOp (seqRef bank n) opEndloop

/-- WAIT (R272). Sequencer instruction: holds the last input sample until its condition holds or ARG frames pass. -/
def execWait (bank : Bool) (n : Nat) (s : State) : Host.Outcome State Fault Refusal :=
  whenFormed (.wait bank n) s fun s => s.whileRunning fun s => s.stepOp (seqRef bank n) opWait

/-- WAIT_RELEASE (R721). A WAIT releases at the first channel frame boundary at which its condition holds. -/
def execWaitRelease (bank : Bool) (n : Nat) (s : State) : Host.Outcome State Fault Refusal :=
  whenFormed (.waitRelease bank n) s fun s => s.whileRunning fun s => (s.eventsAt (seqRef bank n)).waitRelease (seqRef bank n)

/-- WAIT_TIMEOUT (R272). A WAIT goes to TARGET after ARG frames without release. -/
def execWaitTimeout (bank : Bool) (n : Nat) (s : State) : Host.Outcome State Fault Refusal :=
  whenFormed (.waitTimeout bank n) s fun s => s.whileRunning fun s => (s.eventsAt (seqRef bank n)).waitTimeout (seqRef bank n)

/-- RATE (R282). Sequencer instruction: writes RATES[ARG] into RATE and starts a fresh input sample. -/
def execRate (n : Nat) (s : State) : Host.Outcome State Fault Refusal :=
  whenFormed (.rate n) s fun s => s.whileRunning fun s => s.stepOp (.chan n) opRate

/-- EMIT (R272). Sequencer instruction: emits markers. -/
def execEmit (bank : Bool) (n : Nat) (s : State) : Host.Outcome State Fault Refusal :=
  whenFormed (.emit bank n) s fun s => s.whileRunning fun s => s.stepOp (seqRef bank n) opEmit

/-- TSET (R317). Bank sequencer instruction: selects the timing set from the next issue boundary. -/
def execTset (b : Nat) (s : State) : Host.Outcome State Fault Refusal :=
  whenFormed (.tset b) s fun s => s.whileRunning fun s => s.stepOp (.bank b) opTset

/-- SEGMENT_END (R278). At the boundary ending a segment's last sample, the sequencer takes its decision on the
latches and emits SEGEND. -/
def execSegmentEnd (bank : Bool) (n : Nat) (s : State) : Host.Outcome State Fault Refusal :=
  whenFormed (.segmentEnd bank n) s fun s => s.whileRunning fun s => (s.eventsAt (seqRef bank n)).segmentEnd (seqRef bank n)

/-- INPUT_SAMPLE_BOUNDARY (R280). The resampler phase reaches 2^60 and the next input sample begins at the channel
frame boundary. -/
def execInputSampleBoundary (c : Nat) (s : State) : Host.Outcome State Fault Refusal :=
  whenFormed (.inputSampleBoundary c) s fun s => s.whileRunning fun s => s.inputSample c

/-- UNDERRUN_RESUME (R294). At a possible resume boundary where the chosen segment's head is cached, playback resumes
and a gap marker is written. -/
def execUnderrunResume (bank : Bool) (n : Nat) (s : State) : Host.Outcome State Fault Refusal :=
  whenFormed (.underrunResume bank n) s fun s =>
    s.whileRunning fun s => (s.eventsAt (seqRef bank n)).underrunResume (seqRef bank n)

/-- GRANULE_FETCH (R242). A fetched point, vector or list granule arrives from DRAM and is checked before it enters
the cache or window. -/
def execGranuleFetch (bank : Bool) (n key : Nat) (inA inB : List Nat) (s : State) : Host.Outcome State Fault Refusal :=
  whenFormed (.granuleFetch bank n key inA inB) s fun s =>
    s.whileRunning fun s => s.granuleFetch (seqRef bank n) key inA inB

/-- REGENERATION_DONE (R254). A regenerated granule is written back and delivered to the cache, and RECOMP_COUNT
increments. -/
def execRegenerationDone (g : Nat) (inverted : List Nat) (s : State) : Host.Outcome State Fault Refusal :=
  whenFormed (.regenerationDone g inverted) s fun s => s.whileRunning fun s => s.regenerationDone g inverted

/-- REMAP_REBUILD_DONE (R546). The rebuild of a remapped region ends. -/
def execRemapRebuildDone (r : Rebuild) (s : State) : Host.Outcome State Fault Refusal :=
  whenFormed (.remapRebuildDone r) s fun s => s.whileRunning fun s => s.rebuildDone r

/-- VECTOR_ISSUE (R319). At an issue boundary the bank sequencer selects the next vector and its timing set. -/
def execVectorIssue (b : Nat) (s : State) : Host.Outcome State Fault Refusal :=
  whenFormed (.vectorIssue b) s fun s => s.whileRunning fun s => s.vectorIssue b

/-- PIN_RESULT_CREDIT (R325). A pin compare result is credited to the open latches 300 ns after its strobe. -/
def execPinResultCredit (b t j : Nat) (r : PinReport) (s : State) : Host.Outcome State Fault Refusal :=
  whenFormed (.pinResultCredit b t j r) s fun s => s.whileRunning fun s => s.pinResult b t j r

end Sys2Proof.Machine
end

