-- ==== Sys2Proof/Machine/RowsShared.lean ====
section
/-!
DEFINITION. The meanings of the commands of the arbiter, locks, housekeeping, aux outputs, time and synchronisation: one definition per command.
-/

namespace Sys2Proof.Machine

/-- ARB_READ (R526). Returns a master's arbiter grants, waits and starvation data. -/
def execArbRead (e : Envelope) (body : List Word) (s : State) : Host.Outcome State Fault Refusal :=
  whenFormed (.arbRead e body) s fun s => s.receive handle ⟨.arbRead, e, body⟩

/-- ARB_CLEAR (R526). Clears a master's WAITS, LONGEST, STARVES and STARVED. -/
def execArbClear (e : Envelope) (body : List Word) (s : State) : Host.Outcome State Fault Refusal :=
  whenFormed (.arbClear e body) s fun s => s.receive handle ⟨.arbClear, e, body⟩

/-- LOCK_TAKE (R553). Takes the lowest free lock on an instance with a lease. -/
def execLockTake (e : Envelope) (body : List Word) (s : State) : Host.Outcome State Fault Refusal :=
  whenFormed (.lockTake e body) s fun s => s.receive handle ⟨.lockTake, e, body⟩

/-- LOCK_RENEW (R553). Restarts the lease of an owned lock. -/
def execLockRenew (e : Envelope) (body : List Word) (s : State) : Host.Outcome State Fault Refusal :=
  whenFormed (.lockRenew e body) s fun s => s.receive handle ⟨.lockRenew, e, body⟩

/-- LOCK_RELEASE (R553). Ends an owned lock. -/
def execLockRelease (e : Envelope) (body : List Word) (s : State) : Host.Outcome State Fault Refusal :=
  whenFormed (.lockRelease e body) s fun s => s.receive handle ⟨.lockRelease, e, body⟩

/-- LOCK_RECLAIM (R556). Makes the session the owner of an ORPHANED lock with a new lease. -/
def execLockReclaim (e : Envelope) (body : List Word) (s : State) : Host.Outcome State Fault Refusal :=
  whenFormed (.lockReclaim e body) s fun s => s.receive handle ⟨.lockReclaim, e, body⟩

/-- LEASE_EXPIRY (R554). An unrenewed lease or the loss of its session makes the lock ORPHANED, and N_LOCK_ORPHANED is
sent. -/
def execLeaseExpiry (k : Nat) (s : State) : Host.Outcome State Fault Refusal :=
  whenFormed (.leaseExpiry k) s fun s => s.whileRunning fun s => s.leaseExpiry k

/-- HK_RUN (R670). Starts the housekeeping conversion sequence at slot 0. -/
def execHkRun (e : Envelope) (body : List Word) (s : State) : Host.Outcome State Fault Refusal :=
  whenFormed (.hkRun e body) s fun s => s.receive handle ⟨.hkRun, e, body⟩

/-- HK_STOP (R674). Ends the sequence and abandons a sequence conversion in progress. -/
def execHkStop (e : Envelope) (body : List Word) (s : State) : Host.Outcome State Fault Refusal :=
  whenFormed (.hkStop e body) s fun s => s.receive handle ⟨.hkStop, e, body⟩

/-- HK_CONVERT (R672). Starts or queues a host conversion of one input. -/
def execHkConvert (e : Envelope) (body : List Word) (s : State) : Host.Outcome State Fault Refusal :=
  whenFormed (.hkConvert e body) s fun s => s.receive handle ⟨.hkConvert, e, body⟩

/-- HK_SLOT_DUE (R670). A sequence slot becomes due after GAP and starts, or waits and slips. -/
def execHkSlotDue (t : Nat) (s : State) : Host.Outcome State Fault Refusal :=
  whenFormed (.hkSlotDue t) s fun s => s.whileRunning fun s => s.hkSlotDue t

/-- HK_CONVERSION_DONE (R675). A conversion result arrives: VALUE, STAMP and OVR are updated, the HK source fires and
the next conversion may start. -/
def execHkConversionDone (x : Sample) (t cyc : Nat) (s : State) : Host.Outcome State Fault Refusal :=
  whenFormed (.hkConversionDone x t cyc) s fun s => s.whileRunning fun s => s.hkDone x t cyc

/-- HK_URGENT_ACTIVATION (R673). An activation reaching the aux island starts an urgent conversion, or is dropped and
counted. -/
def execHkUrgentActivation (n t : Nat) (s : State) : Host.Outcome State Fault Refusal :=
  whenFormed (.hkUrgentActivation n t) s fun s => s.whileRunning fun s => s.hkUrgent n t

/-- HK_PACKET_TIMEOUT (R676). An HK packet closes 1 ms after its first record. -/
def execHkPacketTimeout (cyc : Nat) (s : State) : Host.Outcome State Fault Refusal :=
  whenFormed (.hkPacketTimeout cyc) s fun s => s.whileRunning fun s => s.hkPacketTimeout cyc

/-- AOUT_RUN (R680). Requests playback of the named aux outputs. -/
def execAoutRun (e : Envelope) (body : List Word) (s : State) : Host.Outcome State Fault Refusal :=
  whenFormed (.aoutRun e body) s fun s => s.receive handle ⟨.aoutRun, e, body⟩

/-- AOUT_STOP (R681). Requests the end of playback of the named outputs. -/
def execAoutStop (e : Envelope) (body : List Word) (s : State) : Host.Outcome State Fault Refusal :=
  whenFormed (.aoutStop e body) s fun s => s.receive handle ⟨.aoutStop, e, body⟩

/-- AOUT_WAVE_WRITE (R683). Writes samples into an output's waveform memory. -/
def execAoutWaveWrite (e : Envelope) (body : List Word) (s : State) : Host.Outcome State Fault Refusal :=
  whenFormed (.aoutWaveWrite e body) s fun s => s.receive handle ⟨.waveWrite, e, body⟩

/-- AOUT_PLAYBACK_START (R680). Playback begins at the first update instant at least 200 ns after the command or start
activation, and source 2k fires. -/
def execAoutPlaybackStart (k t cyc : Nat) (r : MemRead) (s : State) : Host.Outcome State Fault Refusal :=
  whenFormed (.aoutPlaybackStart k t cyc r) s fun s => s.whileRunning fun s => s.playbackStart k t cyc r

/-- AOUT_PLAYBACK_END (R681). Playback ends at its last pass or on a stop; the output keeps its sample and source 2k +
1 fires. -/
def execAoutPlaybackEnd (k t cyc : Nat) (s : State) : Host.Outcome State Fault Refusal :=
  whenFormed (.aoutPlaybackEnd k t cyc) s fun s => s.whileRunning fun s => s.playbackEnd k t cyc

/-- AOUT_UPDATE_INSTANT (R677). At each 1 µs update instant a playing output advances to its next sample, counting
passes, with double-bit memory errors replaced by the previous sample. -/
def execAoutUpdateInstant (k t : Nat) (r : WaveRead) (s : State) : Host.Outcome State Fault Refusal :=
  whenFormed (.aoutUpdateInstant k t r) s fun s => s.whileRunning fun s => s.aoutInstant k t r

/-- TIME_LOAD (R493). Sets device time at the next frame boundary on a quiet device. -/
def execTimeLoad (e : Envelope) (body : List Word) (s : State) : Host.Outcome State Fault Refusal :=
  whenFormed (.timeLoad e body) s fun s => s.receive handle ⟨.timeLoad, e, body⟩

/-- SYNC_CALIBRATE (R511). The origin sends a CAL word and starts a skew calibration run over W hop windows. -/
def execSyncCalibrate (e : Envelope) (body : List Word) (s : State) : Host.Outcome State Fault Refusal :=
  whenFormed (.syncCalibrate e body) s fun s => s.receive handle ⟨.syncCalibrate, e, body⟩

/-- CALIBRATION_WINDOW (R512). A hop window ends with CAL_RT and CAL_TURN recorded and the next hop measured. -/
def execCalibrationWindow (sum answers : Nat) (s : State) : Host.Outcome State Fault Refusal :=
  whenFormed (.calibrationWindow sum answers) s fun s => s.whileRunning fun s => s.calWindow sum answers

/-- DRAM_REQUEST (R522). A DRAM request is queued for a slot, or a sequencer exceeding its grant is refused. -/
def execDramRequest (m unit : Nat) (regen : Bool) (sel : Nat) (s : State) : Host.Outcome State Fault Refusal :=
  whenFormed (.dramRequest m unit regen sel) s fun s => s.whileRunning fun s => s.dramRequest m unit regen sel

/-- ARB_GRANT_LATE (R549). A request within grant waiting over 1.2 µs counts as an ARB_GRANT error. -/
def execArbGrantLate (m slot : Nat) (s : State) : Host.Outcome State Fault Refusal :=
  whenFormed (.arbGrantLate m slot) s fun s => s.whileRunning fun s => s.arbGrantLate m slot

/-- STARVATION (R524). A request waiting past STARVE sets STARVED and sends N_ARB_STARVE. -/
def execStarvation (m slot : Nat) (s : State) : Host.Outcome State Fault Refusal :=
  whenFormed (.starvation m slot) s fun s => s.whileRunning fun s => s.starvation m slot

/-- QUAD_RETURN (R525). A moved quad returns to FREE after REBAL_HOLD without starvation. -/
def execQuadReturn (k slot : Nat) (s : State) : Host.Outcome State Fault Refusal :=
  whenFormed (.quadReturn k slot) s fun s => s.whileRunning fun s => s.quadReturn k slot

/-- TABLE_SWAP (R519). A requested arbiter table swap takes effect at the next table-cycle boundary. -/
def execTableSwap (slot : Nat) (s : State) : Host.Outcome State Fault Refusal :=
  whenFormed (.tableSwap slot) s fun s => s.whileRunning fun s => s.tableSwap slot

/-- MERIDIAN (R504). At a meridian the origin launches MARK, followed by TIME_HI, TIME_LO and PERIOD. -/
def execMeridian (s : State) : Host.Outcome State Fault Refusal :=
  whenFormed .meridian s fun s => s.whileRunning fun s => s.meridian

/-- SYNC_WORD (R507). A complete SYNC word is received, checked and acted on. -/
def execSyncWord (w : BitVec 48) (cyc : Nat) (s : State) : Host.Outcome State Fault Refusal :=
  whenFormed (.syncWord w cyc) s fun s => s.whileRunning fun s => s.syncWordIn w cyc

/-- SYNC_EVENT_FIRE (R510). At the target boundary every device fires SEk, or counts EVT_LATE. -/
def execSyncEventFire (k : Nat) (s : State) : Host.Outcome State Fault Refusal :=
  whenFormed (.syncEventFire k) s fun s => s.whileRunning fun s => s.syncFire k

/-- SYNC_LOST (R509). No SYNC_IN edge for 8 frames clears PRESENT and sends N_SYNC_LOST. -/
def execSyncLost (s : State) : Host.Outcome State Fault Refusal :=
  whenFormed .syncLost s fun s => s.whileRunning fun s => s.syncLost

/-- SYNC_IN_EDGE (R506). A SYNC_IN rising edge and its symbol arrive: the edge is stamped and filtered into PHASE_ERR,
ALIGNED and PRESENT are updated, the symbol is relaunched with REPEAT, and during calibration it is answered. -/
def execSyncInEdge (stamp : Nat) (y : SyncSymbol) (s : State) : Host.Outcome State Fault Refusal :=
  whenFormed (.syncInEdge stamp y) s fun s => s.whileRunning fun s => s.syncEdge stamp y

/-- ALIGNED_EXPIRY (R509). One second after SYNC is lost the follower stops being ALIGNED. -/
def execAlignedExpiry (s : State) : Host.Outcome State Fault Refusal :=
  whenFormed .alignedExpiry s fun s => s.whileRunning fun s => s.alignedExpiry

/-- PTP_MESSAGE (R497). A PTP message is handled by the ordinary clock, disciplining time when SOURCE is PTP. -/
def execPtpMessage (p : Port) (f : PtpFrame) (m : PtpMsg) (rx residence : Int) (s : State) : Host.Outcome State Fault
    Refusal :=
  whenFormed (.ptpMessage p f m rx residence) s fun s => s.whileRunning fun s => s.ptpMessage p f m rx residence

/-- PTP_TRANSMIT (R497). The ordinary clock sends its periodic Sync, Follow_Up, Announce or Delay_Req messages. -/
def execPtpTransmit (k : PtpKind) (tx : Int) (s : State) : Host.Outcome State Fault Refusal :=
  whenFormed (.ptpTransmit k tx) s fun s => s.whileRunning fun s => s.ptpTransmit k tx

/-- REFCLK_LOST (R496). REFCLK absent for four periods puts the PLLs in holdover and sends N_REFCLK_LOST. -/
def execRefclkLost (s : State) : Host.Outcome State Fault Refusal :=
  whenFormed .refclkLost s fun s => s.whileRunning fun s => s.refclkLost

/-- REFCLK_RELOCK (R496). REFCLK present for 10 ms relocks the PLLs without a phase step. -/
def execRefclkRelock (s : State) : Host.Outcome State Fault Refusal :=
  whenFormed .refclkRelock s fun s => s.whileRunning fun s => s.refclkRelock

end Sys2Proof.Machine
end

