-- ==== Sys2Proof/Machine/Dispatch.lean ====
section
/-!
DEFINITION. Every command's meaning, one arm per constructor of Instr.
-/

namespace Sys2Proof.Machine

/-- The effect of a command on everything but the queue. -/
def exec (i : Instr) (s : State) : Host.Outcome State Fault Refusal :=
  match i with
  | .sessionOpen e body => Sys2Proof.Machine.execSessionOpen e body s
  | .sessionClose e body => Sys2Proof.Machine.execSessionClose e body s
  | .sessionPing e body => Sys2Proof.Machine.execSessionPing e body s
  | .objRead e obj body => Sys2Proof.Machine.execObjRead e obj body s
  | .objWrite e obj body => Sys2Proof.Machine.execObjWrite e obj body s
  | .objStage e obj body => Sys2Proof.Machine.execObjStage e obj body s
  | .commit e body => Sys2Proof.Machine.execCommit e body s
  | .commitRelease num => Sys2Proof.Machine.execCommitRelease num s
  | .groupApply t => Sys2Proof.Machine.execGroupApply t s
  | .discard e body => Sys2Proof.Machine.execDiscard e body s
  | .devCaps e body => Sys2Proof.Machine.execDevCaps e body s
  | .devCalWrite e body => Sys2Proof.Machine.execDevCalWrite e body s
  | .devCalSeal e body => Sys2Proof.Machine.execDevCalSeal e body s
  | .devCalFree e body => Sys2Proof.Machine.execDevCalFree e body s
  | .devCalInfo e body => Sys2Proof.Machine.execDevCalInfo e body s
  | .devThaw e body => Sys2Proof.Machine.execDevThaw e body s
  | .devMasterReset e body => Sys2Proof.Machine.execDevMasterReset e body s
  | .devFaultRead e body => Sys2Proof.Machine.execDevFaultRead e body s
  | .devNoticeRead e body => Sys2Proof.Machine.execDevNoticeRead e body s
  | .arm e body => Sys2Proof.Machine.execArm e body s
  | .armApply id => Sys2Proof.Machine.execArmApply id s
  | .disarm e body => Sys2Proof.Machine.execDisarm e body s
  | .chanClear e body => Sys2Proof.Machine.execChanClear e body s
  | .chanHeadRead e body => Sys2Proof.Machine.execChanHeadRead e body s
  | .chanHeadWrite e body => Sys2Proof.Machine.execChanHeadWrite e body s
  | .engineRetire e body => Sys2Proof.Machine.execEngineRetire e body s
  | .seqRun e body => Sys2Proof.Machine.execSeqRun e body s
  | .runApply id => Sys2Proof.Machine.execRunApply id s
  | .timedCommandApply id => Sys2Proof.Machine.execTimedCommandApply id s
  | .seqStop e body => Sys2Proof.Machine.execSeqStop e body s
  | .seqResume e body => Sys2Proof.Machine.execSeqResume e body s
  | .bseqRun e body => Sys2Proof.Machine.execBseqRun e body s
  | .bseqStop e body => Sys2Proof.Machine.execBseqStop e body s
  | .bseqResume e body => Sys2Proof.Machine.execBseqResume e body s
  | .bseqVecWrite e body => Sys2Proof.Machine.execBseqVecWrite e body s
  | .bseqLaneWrite e body => Sys2Proof.Machine.execBseqLaneWrite e body s
  | .bseqCaptRead e body => Sys2Proof.Machine.execBseqCaptRead e body s
  | .sweepListWrite e body => Sys2Proof.Machine.execSweepListWrite e body s
  | .acqArm e body => Sys2Proof.Machine.execAcqArm e body s
  | .acqStop e body => Sys2Proof.Machine.execAcqStop e body s
  | .acqForce e body => Sys2Proof.Machine.execAcqForce e body s
  | .routeSinkRead e body => Sys2Proof.Machine.execRouteSinkRead e body s
  | .routeSinkClear e body => Sys2Proof.Machine.execRouteSinkClear e body s
  | .fifoFlush e body => Sys2Proof.Machine.execFifoFlush e body s
  | .spoolRead e body => Sys2Proof.Machine.execSpoolRead e body s
  | .spoolAck e body => Sys2Proof.Machine.execSpoolAck e body s
  | .spoolDiscard e body => Sys2Proof.Machine.execSpoolDiscard e body s
  | .journalOpen e body => Sys2Proof.Machine.execJournalOpen e body s
  | .journalScanDone found => Sys2Proof.Machine.execJournalScanDone found s
  | .journalRead e body => Sys2Proof.Machine.execJournalRead e body s
  | .arbRead e body => Sys2Proof.Machine.execArbRead e body s
  | .arbClear e body => Sys2Proof.Machine.execArbClear e body s
  | .lockTake e body => Sys2Proof.Machine.execLockTake e body s
  | .lockRenew e body => Sys2Proof.Machine.execLockRenew e body s
  | .lockRelease e body => Sys2Proof.Machine.execLockRelease e body s
  | .lockReclaim e body => Sys2Proof.Machine.execLockReclaim e body s
  | .leaseExpiry k => Sys2Proof.Machine.execLeaseExpiry k s
  | .hkRun e body => Sys2Proof.Machine.execHkRun e body s
  | .hkStop e body => Sys2Proof.Machine.execHkStop e body s
  | .hkConvert e body => Sys2Proof.Machine.execHkConvert e body s
  | .hkSlotDue t => Sys2Proof.Machine.execHkSlotDue t s
  | .hkConversionDone x t cyc => Sys2Proof.Machine.execHkConversionDone x t cyc s
  | .hkUrgentActivation n t => Sys2Proof.Machine.execHkUrgentActivation n t s
  | .hkPacketTimeout cyc => Sys2Proof.Machine.execHkPacketTimeout cyc s
  | .aoutRun e body => Sys2Proof.Machine.execAoutRun e body s
  | .aoutStop e body => Sys2Proof.Machine.execAoutStop e body s
  | .aoutWaveWrite e body => Sys2Proof.Machine.execAoutWaveWrite e body s
  | .aoutPlaybackStart k t cyc r => Sys2Proof.Machine.execAoutPlaybackStart k t cyc r s
  | .aoutPlaybackEnd k t cyc => Sys2Proof.Machine.execAoutPlaybackEnd k t cyc s
  | .aoutLevel e k w => Sys2Proof.Machine.execAoutLevel e k w s
  | .timeLoad e body => Sys2Proof.Machine.execTimeLoad e body s
  | .syncCalibrate e body => Sys2Proof.Machine.execSyncCalibrate e body s
  | .calibrationWindow sum answers => Sys2Proof.Machine.execCalibrationWindow sum answers s
  | .expand e d => Sys2Proof.Machine.execExpand e d s
  | .expansionDone d x => Sys2Proof.Machine.execExpansionDone d x s
  | .release e d => Sys2Proof.Machine.execRelease e d s
  | .clear e c => Sys2Proof.Machine.execClear e c s
  | .swflag e bank n => Sys2Proof.Machine.execSwflag e bank n s
  | .acceptNew e c w => Sys2Proof.Machine.execAcceptNew e c w s
  | .faultStatus e w => Sys2Proof.Machine.execFaultStatus e w s
  | .forceLevel e c w => Sys2Proof.Machine.execForceLevel e c w s
  | .rateWrite e c hi lo => Sys2Proof.Machine.execRateWrite e c hi lo s
  | .hrst e b on w => Sys2Proof.Machine.execHrst e b on w s
  | .lclkEn e b on w => Sys2Proof.Machine.execLclkEn e b on w s
  | .linkEn e c on w => Sys2Proof.Machine.execLinkEn e c on w s
  | .curfew e c v w => Sys2Proof.Machine.execCurfew e c v w s
  | .egressEn e on => Sys2Proof.Machine.execEgressEn e on s
  | .logEn e on => Sys2Proof.Machine.execLogEn e on s
  | .spoolSize e v w => Sys2Proof.Machine.execSpoolSize e v w s
  | .halt bank n => Sys2Proof.Machine.execHalt bank n s
  | .play bank n => Sys2Proof.Machine.execPlay bank n s
  | .jump bank n => Sys2Proof.Machine.execJump bank n s
  | .loop bank n => Sys2Proof.Machine.execLoop bank n s
  | .endloop bank n => Sys2Proof.Machine.execEndloop bank n s
  | .wait bank n => Sys2Proof.Machine.execWait bank n s
  | .waitRelease bank n => Sys2Proof.Machine.execWaitRelease bank n s
  | .waitTimeout bank n => Sys2Proof.Machine.execWaitTimeout bank n s
  | .rate n => Sys2Proof.Machine.execRate n s
  | .emit bank n => Sys2Proof.Machine.execEmit bank n s
  | .tset b => Sys2Proof.Machine.execTset b s
  | .segmentEnd bank n => Sys2Proof.Machine.execSegmentEnd bank n s
  | .inputSampleBoundary c => Sys2Proof.Machine.execInputSampleBoundary c s
  | .underrunResume bank n => Sys2Proof.Machine.execUnderrunResume bank n s
  | .granuleFetch bank n key inA inB => Sys2Proof.Machine.execGranuleFetch bank n key inA inB s
  | .regenerationDone g inverted => Sys2Proof.Machine.execRegenerationDone g inverted s
  | .remapRebuildDone r => Sys2Proof.Machine.execRemapRebuildDone r s
  | .streamDatagram e code body => Sys2Proof.Machine.execStreamDatagram e code body s
  | .vectorIssue b => Sys2Proof.Machine.execVectorIssue b s
  | .pinResultCredit b t j r => Sys2Proof.Machine.execPinResultCredit b t j r s
  | .loopUpdate c up cyc delay r x => Sys2Proof.Machine.execLoopUpdate c up cyc delay r x s
  | .lateResult c slot => Sys2Proof.Machine.execLateResult c slot s
  | .predictionHold c => Sys2Proof.Machine.execPredictionHold c s
  | .complianceExit c => Sys2Proof.Machine.execComplianceExit c s
  | .crossTime c => Sys2Proof.Machine.execCrossTime c s
  | .protectionTrip c => Sys2Proof.Machine.execProtectionTrip c s
  | .chanEventTrip c => Sys2Proof.Machine.execChanEventTrip c s
  | .outerUpdate c => Sys2Proof.Machine.execOuterUpdate c s
  | .thermSrcLost c => Sys2Proof.Machine.execThermSrcLost c s
  | .thermSrcTrip c => Sys2Proof.Machine.execThermSrcTrip c s
  | .repetBinEnd c => Sys2Proof.Machine.execRepetBinEnd c s
  | .feAction c => Sys2Proof.Machine.execFeAction c s
  | .plausAction c => Sys2Proof.Machine.execPlausAction c s
  | .supvPhaseEnd c => Sys2Proof.Machine.execSupvPhaseEnd c s
  | .rangeTimeout c => Sys2Proof.Machine.execRangeTimeout c s
  | .upRange c current => Sys2Proof.Machine.execUpRange c current s
  | .downRange c current => Sys2Proof.Machine.execDownRange c current s
  | .correctionEval b inverted => Sys2Proof.Machine.execCorrectionEval b inverted s
  | .pairsTakeEffect c => Sys2Proof.Machine.execPairsTakeEffect c s
  | .rampStart c => Sys2Proof.Machine.execRampStart c s
  | .relayCloseTimeout c => Sys2Proof.Machine.execRelayCloseTimeout c s
  | .disarmComplete c => Sys2Proof.Machine.execDisarmComplete c s
  | .upstreamStatus c blocks before => Sys2Proof.Machine.execUpstreamStatus c blocks before s
  | .halertFall b low => Sys2Proof.Machine.execHalertFall b low s
  | .linkTrainingStart c => Sys2Proof.Machine.execLinkTrainingStart c s
  | .trainingRetry c => Sys2Proof.Machine.execTrainingRetry c s
  | .ts1Echo c heard => Sys2Proof.Machine.execTs1Echo c heard s
  | .ts2Echo r => Sys2Proof.Machine.execTs2Echo r s
  | .rtMeasured c count => Sys2Proof.Machine.execRtMeasured c count s
  | .ts3Echo c r => Sys2Proof.Machine.execTs3Echo c r s
  | .alignmentCheck c ok => Sys2Proof.Machine.execAlignmentCheck c ok s
  | .descriptorCheck c words => Sys2Proof.Machine.execDescriptorCheck c words s
  | .trainingTimeout c => Sys2Proof.Machine.execTrainingTimeout c s
  | .linkCrcFail c => Sys2Proof.Machine.execLinkCrcFail c s
  | .blockLockLost c => Sys2Proof.Machine.execBlockLockLost c s
  | .trainingBlockReceived r => Sys2Proof.Machine.execTrainingBlockReceived r s
  | .headMessageResponse c tag status words => Sys2Proof.Machine.execHeadMessageResponse c tag status words s
  | .headMessageTimeout c tag => Sys2Proof.Machine.execHeadMessageTimeout c tag s
  | .heldFrame c up cyc slot => Sys2Proof.Machine.execHeldFrame c up cyc slot s
  | .heldProtectionTrip c => Sys2Proof.Machine.execHeldProtectionTrip c s
  | .engineFrame n pass => Sys2Proof.Machine.execEngineFrame n pass s
  | .failover o pass => Sys2Proof.Machine.execFailover o pass s
  | .failoverTimeout o => Sys2Proof.Machine.execFailoverTimeout o s
  | .sramScrub pass => Sys2Proof.Machine.execSramScrub pass s
  | .dramRequest m unit regen sel => Sys2Proof.Machine.execDramRequest m unit regen sel s
  | .firmwareRegionViolation task => Sys2Proof.Machine.execFirmwareRegionViolation task s
  | .arbGrantLate m slot => Sys2Proof.Machine.execArbGrantLate m slot s
  | .starvation m slot => Sys2Proof.Machine.execStarvation m slot s
  | .quadReturn k slot => Sys2Proof.Machine.execQuadReturn k slot s
  | .tableSwap slot => Sys2Proof.Machine.execTableSwap slot s
  | .trigInputEdge k high cyc stamp => Sys2Proof.Machine.execTrigInputEdge k high cyc stamp s
  | .eventDelivery dst cyc => Sys2Proof.Machine.execEventDelivery dst cyc s
  | .trigPulseEnd k cyc => Sys2Proof.Machine.execTrigPulseEnd k cyc s
  | .meridian => Sys2Proof.Machine.execMeridian s
  | .syncWord w cyc => Sys2Proof.Machine.execSyncWord w cyc s
  | .syncEventFire k => Sys2Proof.Machine.execSyncEventFire k s
  | .syncLost => Sys2Proof.Machine.execSyncLost s
  | .ptpMessage p f m rx residence => Sys2Proof.Machine.execPtpMessage p f m rx residence s
  | .refclkLost => Sys2Proof.Machine.execRefclkLost s
  | .refclkRelock => Sys2Proof.Machine.execRefclkRelock s
  | .acqRecordComplete a cyc => Sys2Proof.Machine.execAcqRecordComplete a cyc s
  | .acqHoldoffEnd a => Sys2Proof.Machine.execAcqHoldoffEnd a s
  | .detectionStart a cyc => Sys2Proof.Machine.execDetectionStart a cyc s
  | .detectionEnd a cyc => Sys2Proof.Machine.execDetectionEnd a cyc s
  | .patternFire p cyc => Sys2Proof.Machine.execPatternFire p cyc s
  | .flushTime u => Sys2Proof.Machine.execFlushTime u s
  | .packetToRing f cyc r => Sys2Proof.Machine.execPacketToRing f cyc r s
  | .spoolWrite cyc r => Sys2Proof.Machine.execSpoolWrite cyc r s
  | .spoolResume => Sys2Proof.Machine.execSpoolResume s
  | .egressDatagram inverted => Sys2Proof.Machine.execEgressDatagram inverted s
  | .egressFlushTimeout => Sys2Proof.Machine.execEgressFlushTimeout s
  | .pauseFrame p quanta => Sys2Proof.Machine.execPauseFrame p quanta s
  | .journalTake inverted => Sys2Proof.Machine.execJournalTake inverted s
  | .journalMaxAge => Sys2Proof.Machine.execJournalMaxAge s
  | .journalProgramDone => Sys2Proof.Machine.execJournalProgramDone s
  | .journalProgramFail block => Sys2Proof.Machine.execJournalProgramFail block s
  | .coreWatchdog held ticket => Sys2Proof.Machine.execCoreWatchdog held ticket s
  | .hostTimeout => Sys2Proof.Machine.execHostTimeout s
  | .sessionTimeout n => Sys2Proof.Machine.execSessionTimeout n s
  | .heldRequestExpiry n => Sys2Proof.Machine.execHeldRequestExpiry n s
  | .lantern => Sys2Proof.Machine.execLantern s
  | .portLost p lock localFault remoteFault => Sys2Proof.Machine.execPortLost p lock localFault remoteFault s
  | .ringFault f => Sys2Proof.Machine.execRingFault f s
  | .portUp p => Sys2Proof.Machine.execPortUp p s
  | .ringRestore f => Sys2Proof.Machine.execRingRestore f s
  | .frameForward p f => Sys2Proof.Machine.execFrameForward p f s
  | .addressAgeOut mac => Sys2Proof.Machine.execAddressAgeOut mac s
  | .arpRequest p f target => Sys2Proof.Machine.execArpRequest p f target s
  | .neighbourSolicitation p f target => Sys2Proof.Machine.execNeighbourSolicitation p f target s
  | .echoRequest src v6 id seq data => Sys2Proof.Machine.execEchoRequest src v6 id seq data s
  | .dieTempMeasure tj => Sys2Proof.Machine.execDieTempMeasure tj s
  | .pwrgoodFall => Sys2Proof.Machine.execPwrgoodFall s
  | .supplyDetector vddio33 => Sys2Proof.Machine.execSupplyDetector vddio33 s
  | .controllerReset low => Sys2Proof.Machine.execControllerReset low s
  | .powerUp resetLow => Sys2Proof.Machine.execPowerUp resetLow s
  | .bootRomStart => Sys2Proof.Machine.execBootRomStart s
  | .discover f => Sys2Proof.Machine.execDiscover f s
  | .assign f => Sys2Proof.Machine.execAssign f s
  | .loadBegin f => Sys2Proof.Machine.execLoadBegin f s
  | .loadData f => Sys2Proof.Machine.execLoadData f s
  | .loadEnd f => Sys2Proof.Machine.execLoadEnd f s
  | .loadQuery f => Sys2Proof.Machine.execLoadQuery f s
  | .loadAbort f => Sys2Proof.Machine.execLoadAbort f s
  | .imageCheckDone => Sys2Proof.Machine.execImageCheckDone s
  | .firmwareStart => Sys2Proof.Machine.execFirmwareStart s
  | .syncInEdge stamp y => Sys2Proof.Machine.execSyncInEdge stamp y s
  | .alignedExpiry => Sys2Proof.Machine.execAlignedExpiry s
  | .pauseTimeEnd p => Sys2Proof.Machine.execPauseTimeEnd p s
  | .hrstNRise b => Sys2Proof.Machine.execHrstNRise b s
  | .aoutUpdateInstant k t r => Sys2Proof.Machine.execAoutUpdateInstant k t r s
  | .journalEraseDone block => Sys2Proof.Machine.execJournalEraseDone block s
  | .firmwareRestartDone => Sys2Proof.Machine.execFirmwareRestartDone s
  | .ptpTransmit k tx => Sys2Proof.Machine.execPtpTransmit k tx s

end Sys2Proof.Machine
end

