-- ==== Sys2Proof/Safety.lean ====
section
/-!
DEFINITION. What claims about runs are stated in: a request that is in order, the state in which its command works, the answer it
gets, and the canonical forms that no command breaks.
-/

namespace Sys2Proof.Machine

/-! ## Requests in order -/

/-- The UDP payload that carries a request, with its IP and UDP headers, fits the device's MTU (R570). -/
def State.fitsMtu (s : State) (e : Envelope) : Bool := !s.tooLong (clientBytes e)

/-- The envelope of R587 is right, and its LENGTH is that of the datagram (R590). -/
def Req.framed (r : Req) : Bool :=
  r.env.magic == 0x52D0 && r.env.version == 1 && r.env.kind == 1 && r.env.length.toNat == r.env.udpLength && r.size == r.env.udpLength

/-- The tokens a session's bucket holds when a request arrives, in 10^-9 token (R597). -/
def State.tokens (s : State) (x : Session) : Nat := refill x.bucket x.bucketAt s.clock x.msgRate x.burst

/-- What a request costs: one token for each 1,024 bytes of its LENGTH or part of them (R597), in 10^-9 token. -/
def Req.cost (r : Req) : Nat := ceilDiv r.env.length.toNat 1024 * 10 ^ 9

/-- A request is the next of open session n, whose state is x: the firmware runs, the envelope and the tag are right, neither the
session nor the task that serves the command is frozen, and the session can pay (R588, R590, R591, R597, R599). -/
structure InOrder (s : State) (r : Req) (n : Nat) (x : Session) : Prop where
  formed : r.env.wellFormed = true
  running : s.boot.phase = .running
  steady : s.faults.restart = none
  fits : s.fitsMtu r.env = true
  framed : r.framed = true
  number : r.env.session.toNat = n
  inSession : n ≠ 0
  opened : s.session n = some x
  tagged : r.tagOk x.key = true
  free : s.isFrozen (sessionMaster n) = false
  served : (r.cmd.releases || !s.isFrozen (0x2000 + Config.servingTask r.cmd.code % 4096)) = true
  paid : r.cost ≤ s.tokens x
  next : r.env.seq.toNat = x.next
  whole : r.env.tail = []
  bounded : r.env.length.toNat ≤ 8960
  control : bitsOf r.env.ctl.toNat 13 0 = 0
  timing : bitsOf r.env.ctl.toNat 15 14 = 0 ∨ bitsOf r.env.ctl.toNat 15 14 ≠ 3 ∧ r.cmd.takesAt = true
  room : 1024 ≤ x.maxReply

/-- The request names no time: AT_KIND is 0 (R591). -/
abbrev Req.untimed (r : Req) : Prop := bitsOf r.env.ctl.toNat 15 14 = 0

/-- The session once a request in order has been paid for (R597, R598). -/
def State.paying (s : State) (r : Req) (x : Session) : Session :=
  { x with lastValid := s.clock, src := { x.src with port := r.env.src.port }, bucket := s.tokens x - r.cost,
           bucketAt := s.clock, next := (x.next + 1) % 2 ^ 32 }

/-- The state in which the command of a request in order works: the frame is counted, its sender learned, the session has paid
and expects the next SEQ (R572, R597, R599). -/
def State.admitted (s : State) (r : Req) (n : Nat) (x : Session) : State :=
  (s.frameIn r.env.src.port r.env.src.mac).setSession n (s.paying r x)

/-- The answer to a request in order: the command's state, its reply with status 0, and the held requests that are now in order
(R599, R601). -/
def State.answered (s : State) (r : Req) (n : Nat) (x : Session) (d : Done) : State :=
  State.drainHeld handle n 31 (d.state.reply n x.key r 0 (d.state.shown (d.time.getD s.nextBoundary)) d.body)

/-- The refusal of a request in order: nothing but the reply with its status and refusal body (R602). -/
def State.turnedAway (s : State) (r : Req) (n : Nat) (x : Session) (d : Denial) : State :=
  State.drainHeld handle n 31 ((s.admitted r n x).reply n x.key r d.err.code s.now d.body)

/-- What the checks of R593 come to for a write of one field of object n of type o by a session: the object and the field exist, the
words are the field's and set no bit it does not use, no other owner locks the object, the field's class takes the write, and the
field's own limits hold (R12-R17, R28-R31, R553, R593). -/
structure Accepts (a : State) (session : Nat) (o : Obj) (n f : Nat) (ws : List Word) (row : FieldRow) : Prop where
  named : n < objCount o
  field : f < 65536
  known : fieldRowForWrite o f = some row
  whole : row.words = ws.length
  sized : 1 ≤ ws.length ∧ ws.length ≤ 2048
  used : reservedBits row ws = false
  unlocked : a.demandUnlocked session o n = .ok ()
  taken : a.writeAllowed o n f row ws = .ok ()
  within : fieldLimit a (a.projected (objCode o) [⟨objCode o, false, 0, n, f, ws.length, ws⟩]) o n f ws = .ok ()

/-- The write that an accepted request for one field makes: it waits for its boundary (R28). -/
def State.writeOf (a : State) (e : Envelope) (o : Obj) (n f : Nat) (ws : List Word) : LiveWrite :=
  ⟨a.writeBoundary e o, o, n, ws.zipIdx.map fun q => ⟨storedField o f, q.2, q.1⟩, e.session.toNat⟩

/-- An accepted write joins those that wait (R28, R33). -/
def State.withWrite (a : State) (w : LiveWrite) : State :=
  { a with commits := { a.commits with liveWrites := a.commits.liveWrites ++ [w], accepted := a.commits.accepted + 1 } }

/-! ## Canonical forms -/

/-- Every keyed list of the state is in its canonical form: keys strictly rise. -/
def State.sorted (s : State) : Bool :=
  sortedKeys s.regs && sortedKeys s.host.sessions && sortedKeys s.faults.locks && sortedKeys s.faults.frozen

/-- The word file is in canonical form: keys strictly rise and no listed word equals its reset value. -/
abbrev State.regsCanonical (s : State) : Prop := regsWf s.regs = true

end Sys2Proof.Machine
end

