-- ==== Sys2Proof/Certificates/Slice0/Obligations.lean ====
section
/-!
DEFINITION. The statements about the TH512 for the provers, family by family. Each docstring names the rules of spec/ it follows,
and the log entry where a part of it is the model's own choice.
-/

open Sys2Proof Sys2Proof.Machine
/-! ## The queue, reset, and every command -/

/-- A step gives the command at the front of the queue its effect on the state with the rest of the queue; with nothing waiting the
block idles (log entry 4). -/
def Obligations.StepRunsFrontCommand : Prop :=
  (∀ (c : Instr) (rest : List Instr) (s : State), s.pending = c :: rest → step s = exec c { s with pending := rest }) ∧
  (∀ s : State, s.pending = [] → step s = .next s)

/-- Every command that can be given is answered with a next state, in every state; one with an operand no host and no hardware can
produce faults (log entry 3). -/
def Obligations.EveryFormedCommandCompletes : Prop :=
  ∀ (i : Instr) (s : State),
    (i.wellFormed = true → ∃ t, exec i s = .next t) ∧ (i.wellFormed = false → exec i s = .fault .illFormed)

/-- What the manual says of the device right after its firmware starts: no session, no ticket and no staging buffer, no lock, and every
numbered field at its reset value (R52, R260, R595, R660). That State.reset is the moment at which the firmware has started is the model's
choice (log entry 2), and so are the values of the fields for which the manual gives none (log entry 7). -/
def Obligations.ResetLeavesFieldsAtResetValues : Prop :=
  (∀ (o : Obj) (n f w : Nat), State.reset.regAt o n f w = regDefault (regKey o n f w)) ∧
  State.reset.host.sessions = [] ∧ State.reset.commits.tickets = [] ∧ State.reset.commits.staging = [] ∧
  State.reset.faults.locks = [] ∧ State.reset.faults.frozen = [] ∧ State.reset.pending = [] ∧
  State.reset.regsCanonical ∧ State.reset.sorted = true ∧ State.reset.boot.phase = .running

/-! ## The message protocol -/

/-- A datagram whose envelope is wrong is dropped: nothing is sent and nothing is done but counting the frame, learning its sender and
counting it in RX_BAD_MSG of its port (R590). A request whose tag is not that of its session's key, or which names a session that is not
open, is dropped and counted (R588, R590). -/
def Obligations.BadMessagesAreCountedAndDropped : Prop :=
  (∀ (s : State) (r : Req), s.boot.phase = .running → s.faults.restart = none → s.fitsMtu r.env = true → r.framed = false →
      s.receive handle r = (s.frameIn r.env.src.port r.env.src.mac).count .port (portNum r.env.src.port) 0x25) ∧
  (∀ (s : State) (r : Req) (n : Nat), s.boot.phase = .running → s.faults.restart = none → s.fitsMtu r.env = true →
      r.framed = true → r.env.session.toNat = n → n ≠ 0 → (∀ x, s.session n = some x → r.tagOk x.key = false) →
      s.receive handle r = (s.frameIn r.env.src.port r.env.src.mac).count .port (portNum r.env.src.port) 0x25)

/-- A request in order is answered: where its command works, with status 0 and the command's reply body after the command's effect
(R599, R601); where its command is refused, with the error and the refusal body and no effect of the command (R594, R602). -/
def Obligations.RequestsInOrderAreAnswered : Prop :=
  ∀ (s : State) (r : Req) (n : Nat) (x : Session), InOrder s r n x →
    (∀ d : Done, handle r (s.admitted r n x) = .ok d → d.later = false → 40 + 4 * d.body.length ≤ x.maxReply →
      s.receive handle r = s.answered r n x d) ∧
    (∀ d : Denial, handle r (s.admitted r n x) = .error d → s.receive handle r = s.turnedAway r n x d)

/-- A request beyond its session's rate is not done: the session is frozen and no tokens are taken (R551, R597). A retransmitted request
among the latest 64 is answered with the kept reply again, out of the port it came in on, and its command is not run again: the session
pays and nothing else changes (R562, R599). A request up to 31 ahead of the next SEQ is held once and not yet done (R599). -/
def Obligations.RequestsOutOfOrderAreHeldOrRepeated : Prop :=
  (∀ (s : State) (r : Req) (n : Nat) (x : Session), s.boot.phase = .running → s.faults.restart = none →
      s.fitsMtu r.env = true → r.framed = true → r.env.session.toNat = n → n ≠ 0 → s.session n = some x →
      r.tagOk x.key = true → s.isFrozen (sessionMaster n) = false → s.tokens x < r.cost →
      s.receive handle r =
        ((s.frameIn r.env.src.port r.env.src.mac).setSession n
          { x with lastValid := s.clock, src := { x.src with port := r.env.src.port }, bucket := s.tokens x,
                   bucketAt := s.clock }).freezeSession n) ∧
  (∀ (s : State) (r : Req) (n : Nat) (x : Session) (m : OutMsg), s.boot.phase = .running → s.faults.restart = none →
      s.fitsMtu r.env = true → r.framed = true → r.env.session.toNat = n → n ≠ 0 → s.session n = some x →
      r.tagOk x.key = true → s.isFrozen (sessionMaster n) = false → r.cost ≤ s.tokens x →
      2 ^ 32 - 64 ≤ (r.env.seq.toNat + 2 ^ 32 - x.next) % 2 ^ 32 →
      x.replies.find? (fun k => k.1 == r.env.seq.toNat) = some (r.env.seq.toNat, m) →
      s.receive handle r =
        ((s.frameIn r.env.src.port r.env.src.mac).setSession n { s.paying r x with next := x.next }).send r.env.src.port 3 (m.outOf r.env.src.port)) ∧
  (∀ (s : State) (r : Req) (n : Nat) (x : Session), s.boot.phase = .running → s.faults.restart = none →
      s.fitsMtu r.env = true → r.framed = true → r.env.session.toNat = n → n ≠ 0 → s.session n = some x →
      r.tagOk x.key = true → s.isFrozen (sessionMaster n) = false → r.cost ≤ s.tokens x →
      1 ≤ (r.env.seq.toNat + 2 ^ 32 - x.next) % 2 ^ 32 → (r.env.seq.toNat + 2 ^ 32 - x.next) % 2 ^ 32 ≤ 31 →
      (∀ h ∈ x.held, h.seq ≠ r.env.seq.toNat) →
      s.receive handle r =
        (s.frameIn r.env.src.port r.env.src.mac).setSession n
          { s.paying r x with next := x.next, held := x.held ++ [⟨r.env.seq.toNat, r, s.clock⟩] })

/-! ## Sessions -/

/-- SESSION_OPEN with room for the session and its rate opens one of the free numbers 1 to 16, derives its key from CHAIN_KEY and both
nonces, starts it with a full bucket and SEQ 1, and replies with the nonce, the number and the granted values, authenticated with
CHAIN_KEY (R588, R589, R595, R596, R633; which free number and which nonce, log entry 20). SESSION_PING costs its tokens, keeps the
session alive and does nothing else; SESSION_CLOSE ends the session (R598, R633). A session that ends is no longer open, the other
sessions stay open, none of its staging buffers remains, and none of its locks still runs: each is ORPHANED (R38, R554, R598). -/
def Obligations.SessionsOpenActAndEnd : Prop :=
  (∀ (s : State) (e : Envelope) (h0 h1 h2 h3 rate cfg ports masks : Word) (key : List Byte),
      let body := [h0, h1, h2, h3, rate, cfg, ports, masks]
      let r : Req := ⟨.sessionOpen, e, body⟩
      e.wellFormed = true → s.boot.phase = .running → s.faults.restart = none → s.fitsMtu e = true → r.framed = true →
      e.session = 0 → e.tail = [] → e.ctl = 0 → s.net.chainKey = some key → r.tagOk key = true →
      (∃ k, 1 ≤ k ∧ k ≤ 16 ∧ s.session k = none) → s.rateGranted + rate.toNat ≤ 40000 → 10 ≤ rate.toNat →
      1 ≤ fld cfg 31 16 → fld cfg 31 16 ≤ 1024 → 1 ≤ fld cfg 15 0 → fld cfg 15 0 ≤ 600 →
      1024 ≤ fld ports 31 16 → fld ports 31 16 ≤ 8960 →
      ∃ (n : Nat) (y : Session) (t : State), 1 ≤ n ∧ n ≤ 16 ∧ s.session n = none ∧
        exec (.sessionOpen e body) s = .next (t.replyOnce key r 0 s.nextBoundary
          (wordsOf 4 (Config.deviceNonce s.free).toNat ++ [word n] ++ [rate, cfg, ports, masks])) ∧
        t.session n = some y ∧ (∀ m, m ≠ n → t.session m = s.session m) ∧
        y.key = sessionKey key (ofWords [h0, h1, h2, h3]) (Config.deviceNonce s.free).toNat n ∧
        y.msgRate = rate.toNat ∧ y.burst = fld cfg 31 16 ∧ y.timeout = fld cfg 15 0 ∧ y.maxReply = fld ports 31 16 ∧
        y.next = 1 ∧ y.bucket = fld cfg 31 16 * 10 ^ 9 ∧ y.held = [] ∧ y.replies = [] ∧ t.free = s.free + 1) ∧
  ((∀ (s : State) (e : Envelope) (n : Nat) (x : Session), InOrder s ⟨.sessionPing, e, []⟩ n x →
      exec (.sessionPing e []) s =
        .next (s.answered ⟨.sessionPing, e, []⟩ n x { state := s.admitted ⟨.sessionPing, e, []⟩ n x })) ∧
    (∀ (s : State) (e : Envelope) (n : Nat) (x : Session), InOrder s ⟨.sessionClose, e, []⟩ n x →
      exec (.sessionClose e []) s =
        .next (s.answered ⟨.sessionClose, e, []⟩ n x
          { state := (s.admitted ⟨.sessionClose, e, []⟩ n x).endSession n 1 }))) ∧
  (∀ (s : State) (n cause : Nat) (x : Session), s.sorted = true → s.session n = some x →
      (s.endSession n cause).session n = none ∧
      (∀ m, m ≠ n → ((s.endSession n cause).session m).isSome = (s.session m).isSome) ∧
      (∀ g ∈ (s.endSession n cause).commits.staging, g.owner ≠ n) ∧
      (∀ l ∈ (s.endSession n cause).faults.locks, l.2.owner = sessionMaster n → l.2.leaseEnds = none))

/-! ## Access to fields, staging and commits -/

/-- OBJ_READ of one field of one word returns its head and the field's value: in the applied view the value the device derives, else
the stored word; in the staged view a staged word before those (R36, R592, R624). Nothing else changes. -/
def Obligations.ReadReturnsTheField : Prop :=
  ∀ (s : State) (e : Envelope) (n : Nat) (x : Session) (o : Obj) (k f : Nat) (view : Bool) (row : FieldRow),
    let head := (⟨objCode o, view, 0, k, f, 1, []⟩ : Item).head
    let r : Req := ⟨.read (objCode o), e, word 1 :: head⟩
    let a := s.admitted r n x
    InOrder s r n x → k < objCount o → f < 65536 → fieldRow o f = some row → row.words = 1 →
    exec (.objRead e (objCode o) (word 1 :: head)) s = .next (s.answered r n x
      { state := a, body := head ++
          [let applied := (a.derivedWord o k f 0).getD (a.reg o k f)
           if view then (a.stagedWord o k f 0).getD applied else applied] })

/-- OBJ_WRITE of one field that passes the checks of R593 is accepted: the write waits for its boundary, which the reply names
(R28, R601); of a sweep descriptor's CTRL, an EXPAND is accepted at once (R718). -/
def Obligations.WritesWaitForTheirBoundary : Prop :=
  ∀ (s : State) (e : Envelope) (n : Nat) (x : Session) (o : Obj) (k f : Nat) (ws : List Word) (row : FieldRow),
    let item : Item := ⟨objCode o, false, 0, k, f, ws.length, ws⟩
    let r : Req := ⟨.write (objCode o), e, word 1 :: encodeItems [item]⟩
    let a := s.admitted r n x
    let w := a.writeOf e o k f ws
    InOrder s r n x → Accepts a n o k f ws row →
    exec (.objWrite e (objCode o) (word 1 :: encodeItems [item])) s = .next (s.answered r n x
      { state := ((a.projected (objCode o) [item]).acceptExpand w a).withWrite w, time := some (a.writeBoundary e o) })

/-- The rows that write one field are that write: EXPAND, RELEASE, CLEAR, SWFLAG, ACCEPT_NEW, FAULT_STATUS, FORCE_LEVEL, RATE_WRITE,
HRST, LCLK_EN, LINK_EN, CURFEW, EGRESS_EN, LOG_EN, SPOOL_SIZE and AOUT_LEVEL, where their write passes the checks of R593, are
accepted, and the write named here waits for its boundary (R28, R65, R164, R247, R253, R262, R282, R421, R432, R444, R445, R471, R478,
R482, R530, R615, R679). -/
def Obligations.FieldCommandsWaitForTheirBoundary : Prop :=
  ∀ (s : State) (e : Envelope) (n : Nat) (x : Session) (i : Instr) (o : Obj) (k f : Nat) (ws : List Word) (row : FieldRow),
    let r := fieldWrite e o k f ws
    let a := s.admitted r n x
    let w := a.writeOf e o k f ws
    (i, o, f, ws) ∈ ([(.expand e k, .sweep, 0xA, [0x80000000]), (.release e k, .sweep, 0xA, [0x40000000]),
      (.clear e k, .repet, 1, [0x20000000]), (.swflag e true k, .bseq, 0x50, [0x80000000]),
      (.swflag e false k, .seq, 0x51, [0x80000000])] : List (Instr × Obj × Nat × List Word)) ∨
    (∃ v, (i, o, f, ws) ∈ ([(.acceptNew e k v, .chan, 0x50, [v ||| 0x40000000]), (.forceLevel e k v, .chan, 0x10, [v]),
      (.aoutLevel e k v, .aout, 4, [v])] : List (Instr × Obj × Nat × List Word))) ∨
    (∃ v, k = 0 ∧ (i, o, f, ws) = (.faultStatus e v, .dev, 0x140, [v])) ∨
    (∃ hi lo, (i, o, f, ws) = (.rateWrite e k hi lo, .seq, 0x50, [hi, lo])) ∨
    (∃ on v, (i, o, f, ws) ∈ ([(.hrst e k on v, .bank, 0x40, [withBit v 31 on]), (.lclkEn e k on v, .bank, 0x40, [withBit v 30 on]),
      (.linkEn e k on v, .chan, 0x50, [withBit v 31 on])] : List (Instr × Obj × Nat × List Word))) ∨
    (∃ u v, u < 65536 ∧ (i, o, f, ws) = (.curfew e k u v, .chan, 0x50, [putFld v 15 0 u])) ∨
    (∃ on, k = 0 ∧ (i, o, f, ws) ∈ ([(.egressEn e on, .spool, 8, [withBit 0 31 on]),
      (.logEn e on, .journal, 8, [withBit 0 31 on])] : List (Instr × Obj × Nat × List Word))) ∨
    (∃ u v, u < 128 ∧ k = 0 ∧ (i, o, f, ws) = (.spoolSize e u v, .spool, 0, [putFld v 31 25 u])) →
    InOrder s r n x → Accepts a n o k f ws row →
    exec i s = .next (s.answered r n x
      { state := ((a.projected (objCode o) [⟨objCode o, false, 0, k, f, ws.length, ws⟩]).acceptExpand w a).withWrite w,
        time := some (a.writeBoundary e o) })

/-- OBJ_STAGE of items that pass the checks of R35 and R593 stores their words in the groups' staging buffers for the session; nothing
applied changes (R34, R35). A staged word is found again in the buffer of its group, owned by the session that first staged into it, and
staging a word twice keeps the later value (R34, R35). -/
def Obligations.StagingFillsTheBuffers : Prop :=
  (∀ (s : State) (e : Envelope) (n : Nat) (x : Session) (o : Obj) (body : List Word) (items : List Item)
      (parts : List (GroupRef × List FieldWord)),
      let r : Req := ⟨.stage (objCode o), e, body⟩
      let a := s.admitted r n x
      InOrder s r n x → itemsOf true body = .ok items → a.formStages r (objCode o) 0 items = .ok parts →
      exec (.objStage e (objCode o) body) s = .next (s.answered r n x
        { state := parts.foldl (fun t p => t.stageWords n p.1 p.2) a })) ∧
  (∀ (s : State) (n : Nat) (g : GroupRef) (v : FieldWord),
      (∃ b, (s.stageWords n g [v]).buffer g = some b ∧ v ∈ b.words ∧ (∀ y ∈ b.words, y.field = v.field → y.idx = v.idx → y = v) ∧
        (s.buffer g = none → b.owner = n) ∧ (∀ b', s.buffer g = some b' → b.owner = b'.owner)) ∧
      (∀ h, h ≠ g → (s.stageWords n g [v]).buffer h = s.buffer h))

/-- An untimed COMMIT of groups that are staged by the session and pass every check takes a free ticket number, moves the staged words into
the ticket's snapshot, empties their buffers, occupies the commit path until its lead work ends, and goes on executing without a reply
(R39, R40, R43, R47, R48, R634; which free number, log entry 20). COMMIT_RELEASE of a ticket whose lead work has ended, with no earlier
ticket naming one of its groups, writes the shadow copies and the release word, for the boundary it names or, of an untimed commit, for
the next boundary, and answers an untimed commit with its ticket number and that boundary (R43, R46). -/
def Obligations.CommitsTakeTicketsAndAreReleased : Prop :=
  (∀ (s : State) (e : Envelope) (n : Nat) (x : Session) (body : List Word) (groups : List GroupRef) (d : Done),
      let r : Req := ⟨.commit, e, body⟩
      let a := s.admitted r n x
      InOrder s r n x → r.untimed → groupsOf body = .ok groups → commitGroups a r = .ok d →
      let snapshot := a.commits.staging.filter fun b => groups.contains b.ref
      let earlier := ((groups.flatMap a.ticketsNaming).map Ticket.boundary).foldl max 0
      let ends := max (max a.now a.commits.pathBusy) earlier +
        (4000 + 4 * (snapshot.map fun b => b.words.length).sum + 500 * snapshot.length)
      (∀ y, d.state.session n = some y → exec (.commit e body) s = .next (State.drainHeld handle n 31
        (d.state.setSession n { y with executing := y.executing ++ [e.seq.toNat] }))) ∧
      ∃ num, num < 16 ∧ (∀ t ∈ a.commits.tickets, t.num ≠ num) ∧
        d.state.commits.staging = a.commits.staging.filter (fun b => !groups.contains b.ref) ∧
        d.state.commits.tickets = a.commits.tickets ++
          [⟨num, a.commits.accepted, n, snapshot, false, ends, nextMultiple 100 ends, false, false, some r⟩] ∧
        d.state.commits.pathBusy = ends) ∧
  (∀ (s : State) (t : Ticket), s.boot.phase = .running → s.faults.restart = none →
      s.commits.tickets.find? (fun u => u.num == t.num && !u.released) = some t →
      t.leadEnd < s.now + 100 → (t.timed = true → s.now < t.boundary) →
      (∀ u ∈ s.commits.tickets, u.order < t.order → ∀ b ∈ u.snapshot, ∀ c ∈ t.snapshot, b.ref ≠ c.ref) →
      let b := if t.timed then t.boundary else s.nextBoundary
      let v : State := { s with commits := { s.commits with
        shadows := s.commits.shadows ++ t.snapshot.map fun b => ⟨b.ref, t.num, b.words⟩,
        tickets := s.commits.tickets.map fun u =>
          if u.order == t.order then { u with released := true, boundary := b, answer := none } else u } }
      (t.answer = none → exec (.commitRelease t.num) s = .next v) ∧
      (∀ r x, t.answer = some r → s.session t.session = some x → x.executing.contains r.env.seq.toNat = true →
        exec (.commitRelease t.num) s = .next (v.reply t.session x.key r 0 (v.shown b) [word t.num])))

/-- DISCARD empties the named groups' staging buffers and releases their ownership; nothing else, so no applied value, changes (R37). -/
def Obligations.DiscardEmptiesTheBuffers : Prop :=
  ∀ (s : State) (e : Envelope) (n : Nat) (x : Session) (body : List Word) (groups : List GroupRef),
    let r : Req := ⟨.discard, e, body⟩
    let a := s.admitted r n x
    InOrder s r n x → groupsOf body = .ok groups →
    (∀ g ∈ groups, ∃ b, a.buffer g = some b ∧ b.owner = n) →
    exec (.discard e body) s = .next (s.answered r n x
      { state := { a with commits := { a.commits with
          staging := a.commits.staging.filter fun b => !groups.contains b.ref } } })

/-- GROUP_APPLY at a device frame boundary with nothing due before it: device time and patterns follow it, and then what is due acts in the
order of R33: the groups of released tickets in the order their commits were accepted, then the accepted writes in their order, of which
the last to each field acts, then the untimed commands (R30, R33, R44; that patterns are evaluated first, and that bits to be cleared and
the fields a group's enable locks land before the groups, is the model's choice, log entry 95). The groups of one ticket are applied
together: after it, every field of every staged word of the ticket reads as staged, where the ticket's words are for distinct fields of
objects whose groups do nothing more on being applied (R44, R45). -/
def Obligations.BoundariesActInOrder : Prop :=
  (∀ (s : State) (t : Nat), s.boot.phase = .running → t % 100 = 0 → s.now < t → t ≤ timeSpan → s.timeJumps = false → s.nextDue t = t →
      let frames := (t - s.now) / 100
      let s1 : State := { s.framesPass frames with clock := s.clock + (t - s.now), now := t }
      let s2 := (s1.timeBoundary frames).evalPatterns frames
      let writes := s2.commits.liveWrites.filter fun w => decide (w.boundary ≤ s2.now)
      let s2' := writes.foldl (fun u w => (u.landWords .clear w).landWords .locked w)
        { s2 with commits := { s2.commits with liveWrites := s2.commits.liveWrites.filter fun w => decide (s2.now < w.boundary) } }
      let s3 := (s2'.commits.tickets.filter fun k => k.released && decide (k.boundary ≤ s2'.now)).foldl State.applyTicket s2'
      let s4 := (lastWrites writes).foldl (fun u p => s3.fieldApplied p.1 u p.2)
        (writes.foldl (fun u w => u.landWords .live w) s3)
      let s5 := (s4.commits.timed.filter fun q => !q.timed && decide (q.boundary ≤ s4.now)).foldl State.commandActs
        { s4 with commits := { s4.commits with timed := s4.commits.timed.filter fun q => q.timed || decide (s4.now < q.boundary) } }
      exec (.groupApply t) s = .next { s5 with time := { s5.time with symbol := s5.syncOut } }) ∧
  (∀ (s : State) (t : Ticket), s.regsCanonical →
      let mine := s.commits.shadows.filter fun k => k.ticket == t.num
      (∀ k ∈ mine, k.ref.obj ∈ [Obj.profile, .repet, .sweep, .acq, .pattern, .lock, .hk, .aout, .seq] ∧ k.ref.inst < 65536 ∧
        ∀ w ∈ k.words, w.field < 65536 ∧ w.idx < 16) →
      (mine.flatMap fun k => k.words.map fun w => (k.ref.obj, k.ref.inst, w.field, w.idx)).Nodup →
      (∀ k ∈ mine, ∀ w ∈ k.words, (s.applyTicket t).regAt k.ref.obj k.ref.inst w.field w.idx = w.value) ∧
      (∀ u ∈ (s.applyTicket t).commits.tickets, u.order ≠ t.order))

/-! ## Calibration sets -/

/-- DEV_CAL_WRITE writes its words into a set that no busy channel uses, from its offset on, and makes it FILLING (that a word with a bit set that the
set's layout reserves is refused is the model's choice, log entry 92); DEV_CAL_SEAL makes a set that passes the checks of R228 LOADED; DEV_CAL_FREE makes a set EMPTY; DEV_CAL_INFO returns its state, the number of channels that name
it and its header, and changes nothing (R226-R229, R636). DEV_CAPS returns the counts of the device; DEV_FAULT_READ returns and frees
the oldest entries of the fault log, the first of them saying whether entries before it were lost; DEV_NOTICE_READ returns notices of
the ring from an NSEQ on and frees none (R567, R611, R635, R643). -/
def Obligations.DeviceCommandsAct : Prop :=
  ((∀ (s : State) (e : Envelope) (n : Nat) (x : Session) (h w : Word) (l : List Word),
      let r : Req := ⟨.calWrite, e, h :: w :: l⟩
      let a := s.admitted r n x
      let id := fld h 31 16
      InOrder s r n x → fld h 15 0 = 0 → id ≠ 0 → fld w 31 30 = 0 → fld w 15 12 = 0 → 1 ≤ l.length → l.length ≤ 2048 →
      fld w 11 0 = l.length → fld w 29 16 + l.length ≤ 16384 → a.calInUse id = false →
      ((a.calSet id).state ≠ 0 ∨ a.calSets.length < 4096) →
      let y : CalSet := ⟨1, l.zipIdx.foldl (fun m p => insertKey m (fld w 29 16 + p.2) p.1) (a.calSet id).words,
        max (a.calSet id).top (fld w 29 16 + l.length - 1), [], []⟩
      y.reservedClear (fld w 29 16) (fld w 29 16 + l.length) = true →
      exec (.devCalWrite e (h :: w :: l)) s = .next (s.answered r n x { state := a.setCalSet id y })) ∧
    (∀ (s : State) (e : Envelope) (n : Nat) (x : Session) (h : Word),
      let r : Req := ⟨.calSeal, e, [h]⟩
      let a := s.admitted r n x
      let id := fld h 31 16
      InOrder s r n x → fld h 15 0 = 0 → id ≠ 0 → (a.calSet id).state ≠ 0 → (a.calSet id).sealCheck id = .ok () →
      exec (.devCalSeal e [h]) s = .next (s.answered r n x
        { state := a.setCalSet id (a.calSet id).seal })) ∧
    (∀ (s : State) (e : Envelope) (n : Nat) (x : Session) (h : Word),
      let r : Req := ⟨.calFree, e, [h]⟩
      let a := s.admitted r n x
      let id := fld h 31 16
      InOrder s r n x → fld h 15 0 = 0 → id ≠ 0 → a.calInUse id = false →
      exec (.devCalFree e [h]) s = .next (s.answered r n x { state := { a with calSets := eraseKey a.calSets id } })) ∧
    (∀ (s : State) (e : Envelope) (n : Nat) (x : Session) (h : Word),
      let r : Req := ⟨.calInfo, e, [h]⟩
      let a := s.admitted r n x
      let id := fld h 31 16
      InOrder s r n x → fld h 15 0 = 0 →
      exec (.devCalInfo e [h]) s = .next (s.answered r n x
        { state := a, body :=
            word ((a.calSet id).state * 2 ^ 28 + ((upto 512).filter fun c => a.rf .chan c 0xA 15 0 == id).length) ::
              (upto 6).map fun i => if 2 ≤ (a.calSet id).state then (a.calSet id).word i else 0 }))) ∧
  ((∀ (s : State) (e : Envelope) (n : Nat) (x : Session),
      let r : Req := ⟨.caps, e, []⟩
      let a := s.admitted r n x
      InOrder s r n x →
      exec (.devCaps e []) s = .next (s.answered r n x
        { state := a, body := [word (0x0200 * 65536 + Config.stepping.toNat), 0x02000040, 0x00080048, 0x20000400, 0x00100010, 0x00090008,
            0x00200100, 0x10000400, 0x01000000, 0x10000010, word (a.boot.major * 65536 + a.boot.minor), Config.serial] ++
            wordsOf 2 Config.dieId.toNat })) ∧
    (∀ (s : State) (e : Envelope) (n : Nat) (x : Session) (w : Word) (f : FaultEntry) (rest : List FaultEntry),
      let r : Req := ⟨.faultRead, e, [w]⟩
      let a := s.admitted r n x
      InOrder s r n x → w.toNat = 1 → a.faults.log = f :: rest →
      exec (.devFaultRead e [w]) s = .next (s.answered r n x
        { state := { a with faults := { a.faults with log := rest, logLost := false } },
          body := countWord 1 (!rest.isEmpty) :: f.words a.faults.logLost })) ∧
    (∀ (s : State) (e : Envelope) (n : Nat) (x : Session) (q0 q1 w : Word) (q : Notice) (rest : List Notice),
      let r : Req := ⟨.noticeRead, e, [q0, q1, w]⟩
      let a := s.admitted r n x
      InOrder s r n x → w.toNat = 1 → a.host.ring = q :: rest → dword [q0, q1] 0 = q.nseq → (∀ y ∈ rest, q.nseq < y.nseq) →
      q.body.length ≤ 200 →
      exec (.devNoticeRead e [q0, q1, w]) s = .next (s.answered r n x
        { state := a, body := putBit (countWord 1 (!rest.isEmpty)) 30 false :: noticePayload q })))

/-! ## Capabilities, faults and notices -/

/-! ## Event routing and trigger pins -/

/-- EVENT_DELIVERY of a virtual event that is not busy: the deliveries to it in one core cycle make one arrival group, counted once,
COINCIDENT where they are two or more, and the event fires in the same cycle (R343-R345); TRIG_INPUT_EDGE of a selected edge past its
re-arm interval sets LEVEL, counts, stamps and fires source TRIGk; TRIG_PULSE_END of the one pulse of an output pin leaves the pin at its inactive level (R350-R356,
R381). A firing source past its re-arm interval that no enabled route names and that is no window gate changes nothing but the cycle of
its last firing; within the interval it is ignored and the one enabled route from it counts it (R340). ROUTE_SINK_READ returns what reached a consumer and
changes nothing; ROUTE_SINK_CLEAR clears OVERRUN and sets OVERRUNS to 0, leaving the activations (R345). -/
def Obligations.EventsReachTheirConsumers : Prop :=
  ((∀ (s : State) (k cyc : Nat), s.boot.phase = .running → k < 4096 →
      let i := mkId 8 k
      let n := (s.events.deliveries.filter fun d => d.consumer == i && d.cycle == cyc).length
      1 ≤ n → find s.events.busyEnd i ≠ some cyc →
      exec (.eventDelivery i cyc) s = .next
        ((({ s with events := { s.events with
              deliveries := s.events.deliveries.filter fun d => !(d.consumer == i && d.cycle == cyc) } } : State).setSink i
            { s.sink i with coincident := decide (2 ≤ n), lastCount := n,
                            activations := min (2 ^ 32 - 1) ((s.sink i).activations + 1) }).fire i cyc)) ∧
    (∀ (s : State) (k cyc stamp : Nat) (high : Bool), s.boot.phase = .running → k < 16 → s.rb .trigpin k 0 31 = false →
      (high != s.rb .trigpin k 0 28) ≠ s.rb .trigpin k 0x20 31 → s.edgeSelected k (high != s.rb .trigpin k 0 28) = true →
      s.rearming (mkId 1 k) cyc = false →
      ∃ t, exec (.trigInputEdge k high cyc stamp) s = .next t ∧
        t = State.fire { ((s.setRb .trigpin k 0x20 31 (high != s.rb .trigpin k 0 28)).count .trigpin k 0x21).setWords .trigpin k 0x22
              (wordsOf 2 (stamp / 128) ++ [word (stamp % 128 * 2 ^ 25)]) with
            stamps := (s.stamps.filter fun e => decide (cyc ≤ e.2.1 + 4096)) ++ [(k, cyc, stamp)] } (mkId 1 k) cyc) ∧
    (∀ (s : State) (k cyc a b : Nat), s.boot.phase = .running → k < 16 → find s.events.pulse k = some [(a, b)] → b ≤ cyc →
      s.rb .trigpin k 0 31 = true → s.rf .trigpin k 0 27 26 ≠ 1 → sortedKeys s.events.pulse = true →
      ∃ t, exec (.trigPulseEnd k cyc) s = .next t ∧
        t = { s with events := { s.events with pulse := eraseKey s.events.pulse k } } ∧ t.pinLevel k cyc = false)) ∧
  (∀ (s : State) (i cyc : Nat),
      ((∀ r ∈ s.enabledRoutes, s.routeSrc r ≠ i ∧ (s.gateMode r = 3 → s.rf .route r 2 31 16 ≠ i)) →
        s.fire i cyc = { s with events := { s.events with lastFire := insertKey s.events.lastFire i cyc } }) ∧
      (∀ r t, (s.enabledRoutes.filter fun q => s.routeSrc q == i) = [r] → find s.events.lastFire i = some t →
        cyc < t + s.rf .route r 0 15 0 → s.fire i cyc = s.count .route r 0x23)) ∧
  ((∀ (s : State) (e : Envelope) (n : Nat) (x : Session) (w : Word),
      let r : Req := ⟨.sinkRead, e, [w]⟩
      let a := s.admitted r n x
      let k := a.sink w.toNat
      InOrder s r n x → w.toNat < 65536 → isConsumer w.toNat = true →
      exec (.routeSinkRead e [w]) s = .next (s.answered r n x
        { state := a, body := [word (k.overrun.toNat * 2 ^ 31 + k.coincident.toNat * 2 ^ 30 +
            (a.consumerBusy w.toNat a.frameCycle).toNat * 2 ^ 29 + min 1024 k.lastCount * 2 ^ 18), word k.activations,
            word k.overruns] })) ∧
    (∀ (s : State) (e : Envelope) (n : Nat) (x : Session) (w : Word),
      let r : Req := ⟨.sinkClear, e, [w]⟩
      let a := s.admitted r n x
      InOrder s r n x → w.toNat < 65536 → isConsumer w.toNat = true →
      exec (.routeSinkClear e [w]) s = .next (s.answered r n x
        { state := a.setSink w.toNat { a.sink w.toNat with overrun := false, overruns := 0, noticed := false } })))

/-! ## The DRAM arbiter -/

/-- DRAM_REQUEST of a master within its grant waits in its class for a slot; one that would exceed the grant freezes the sequencer and is
refused, and a master that is frozen, for this or another violation, has no request waiting any more (R515, R522, R524, R550, R551). TABLE_SWAP at a table-cycle boundary after the request makes the shadow table live and counts it (R519).
QUAD_RETURN after REBAL_HOLD without starvation returns one quad to FREE (R525). STARVATION of a request that has waited past STARVE of
its class marks it, counts it in STARVES, sets STARVED, sends N_ARB_STARVE on the first since the last ARB.CLEAR and may move quads (R524);
ARB_GRANT_LATE of a request within grant that has waited over 1.2 µs counts one ARB_GRANT error (R529, R549). ARB_READ returns a
master's counts once the slots up to now are decided; ARB_CLEAR clears WAITS, LONGEST, STARVES and STARVED and keeps the slots granted
(R526). -/
def Obligations.TheArbiterServesItsMasters : Prop :=
  ((∀ (s : State) (m unit i : Nat) (regen : Bool), s.boot.phase = .running → m < 65536 → i ≤ s.arb.slot →
      (arbClass m).isSome → s.isFrozen m = false → (regen = true ∨ s.exceeds m i = false) →
      exec (.dramRequest m unit regen i) s =
        .next { s with arb := { s.arb with queue := s.arb.queue ++ [⟨m, unit, i, regen, false, false, false⟩] } }) ∧
    (∀ (s : State) (c unit i : Nat), s.boot.phase = .running → c < 512 → i ≤ s.arb.slot →
      s.isFrozen (0x3000 + c) = false → s.exceeds (0x3000 + c) i = true →
      exec (.dramRequest (0x3000 + c) unit false i) s =
        .next ((s.freezeSeq (.chan c)).freeze (0x3000 + c) 2)) ∧
    (∀ (s : State) (m v : Nat), ∀ q ∈ (s.freeze m v).arb.queue, s.isFrozen m = false → q.master ≠ m) ∧
    (∀ (s : State) (i r : Nat), s.boot.phase = .running → i ≤ s.arb.slot → s.arb.swapAt = some r → r < i → i % 256 = 0 →
      s.arb.rebuild = false →
      exec (.tableSwap i) s = .next
        ((({ (upto 32).foldl (fun t k => t.setReg .arb 0 (0x100 + k) (t.reg .arb 0 (0x140 + k))) s with
            arb := { s.arb with swapAt := none } } : State).setRb .arb 0 0x20 31 false).count .arb 0 0x21)) ∧
    (∀ (s : State) (k i : Nat), s.boot.phase = .running → k < 9 → i ≤ s.arb.slot → 1 ≤ (s.movedOf k).count →
      max ((s.movedOf k).movedAt.getD 0) (s.movedOf k).starvedAt + s.rf .arb 0 0 15 0 * 10 ^ 6 ≤ slotNs i →
      exec (.quadReturn k i) s = .next
        (State.rebuildTable { s with arb := { s.arb with
          moved := insertKey s.arb.moved k { s.movedOf k with count := (s.movedOf k).count - 1 } } } i))) ∧
  ((∀ (s : State) (m i k : Nat) (q : ArbReq), s.boot.phase = .running → m < 65536 → i ≤ s.arb.slot → arbClass m = some k →
      s.arb.queue.find? (fun p => p.master == m && decide (s.rf .arb 0 (1 + k) 15 0 < slotNs (i - p.since)) && !p.starved) = some q →
      let u := s.markReq q fun p => { p with starved := true }
      let y := u.arbMaster q.master
      let v := u.setArbMaster q.master { y with starved := true, starves := min 0xFFFF (y.starves + 1), noticed := true }
      exec (.starvation m i) s = .next
        ((if y.noticed then v else v.notify 0x0506 .arb 0 [q.master, slotNs (i - q.since)]).rebalance k i) ∧
      ((s.arbMaster m).noticed = true → k ≤ 1 →
        ∃ t, exec (.starvation m i) s = .next t ∧ (t.arbMaster m).starved = true ∧
          (t.arbMaster m).starves = min 0xFFFF ((s.arbMaster m).starves + 1) ∧ t.regs = s.regs ∧ t.host = s.host)) ∧
    (∀ (s : State) (m i : Nat) (q : ArbReq), s.boot.phase = .running → m < 65536 → i ≤ s.arb.slot →
      (∃ k, arbClass m = some k ∧ (k ≤ 1 ∨ k = 7)) →
      s.arb.queue.find? (fun p => p.master == m && decide (3072 < i - p.since) && !p.late) = some q →
      exec (.arbGrantLate m i) s = .next
        (let t := (s.markReq q fun p => { p with late := true }).countFault .arbGrant m
         if t.1 then t.2.raiseFault 28 else t.2))) ∧
  ((∀ (s : State) (e : Envelope) (n : Nat) (x : Session) (w : Word),
      let r : Req := ⟨.arbRead, e, [w]⟩
      let a := s.admitted r n x
      let t := a.slotsTo a.slotNow
      let y := t.arbMaster w.toNat
      InOrder s r n x → w.toNat < 65536 → a.isMaster w.toNat = true →
      exec (.arbRead e [w]) s = .next (s.answered r n x
        { state := t, body := wordsOf 2 y.grants ++ [word y.waits, word y.longest,
            word (y.starves * 2 ^ 16 + y.starved.toNat * 2 ^ 15), word ((t.grantOf w.toNat).getD 0 * 2 ^ 16 + min 0xFFFF y.usedMax)] })) ∧
    (∀ (s : State) (e : Envelope) (n : Nat) (x : Session) (w : Word),
      let r : Req := ⟨.arbClear, e, [w]⟩
      let a := s.admitted r n x
      let t := a.slotsTo a.slotNow
      let y := t.arbMaster w.toNat
      InOrder s r n x → w.toNat < 65536 → a.isMaster w.toNat = true →
      exec (.arbClear e [w]) s = .next (s.answered r n x
        { state := t.setArbMaster w.toNat { y with waits := 0, longest := 0, starves := 0, starved := false, noticed := false,
                                                   usedMax := (y.inWindow t.slotNow).length } })))

/-! ## Locks -/

/-- LOCK_TAKE of an object no one has locked takes the lowest free lock with a lease; LOCK_RENEW of a running lock of the session restarts
its lease; LOCK_RELEASE ends it (R553, R554, R646). LEASE_EXPIRY of a lock whose lease has run out makes it ORPHANED and sends
N_LOCK_ORPHANED, which leaves the object locked; a lease that still runs stays (R554). -/
def Obligations.LocksAreTakenAndExpire : Prop :=
  ((∀ (s : State) (e : Envelope) (n : Nat) (x : Session) (w ms : Word) (o : Obj) (k i : Nat),
      let r : Req := ⟨.lockTake, e, [w, ms]⟩
      let a := s.admitted r n x
      InOrder s r n x → o ∈ [Obj.chan, .seq, .bseq] → objOfCode (fld w 31 24) = some o → fld w 23 16 = 0 → fld w 15 0 = k →
      k < objCount o → 1 ≤ ms.toNat → ms.toNat ≤ 60000 → a.lockOn o k = none → i < 1024 → find a.faults.locks i = none →
      (∀ j, j < i → (find a.faults.locks j).isSome) →
      exec (.lockTake e [w, ms]) s = .next (s.answered r n x
        { state := a.setLock i ⟨o, k, sessionMaster n, some (a.clock + ms.toNat * 10 ^ 6)⟩, body := [word i] })) ∧
    (∀ (s : State) (e : Envelope) (n : Nat) (x : Session) (w ms : Word) (o : Obj) (k i : Nat) (l : Lock),
      let r : Req := ⟨.lockRenew, e, [w, ms]⟩
      let a := s.admitted r n x
      InOrder s r n x → o ∈ [Obj.chan, .seq, .bseq] → objOfCode (fld w 31 24) = some o → fld w 23 16 = 0 → fld w 15 0 = k →
      k < objCount o → 1 ≤ ms.toNat → ms.toNat ≤ 60000 → a.lockOn o k = some (i, l) → l.owner = sessionMaster n →
      l.leased a.clock = true →
      exec (.lockRenew e [w, ms]) s = .next (s.answered r n x
        { state := a.setLock i { l with leaseEnds := some (a.clock + ms.toNat * 10 ^ 6) } })) ∧
    (∀ (s : State) (e : Envelope) (n : Nat) (x : Session) (w : Word) (o : Obj) (k i : Nat) (l : Lock),
      let r : Req := ⟨.lockRelease, e, [w]⟩
      let a := s.admitted r n x
      InOrder s r n x → o ∈ [Obj.chan, .seq, .bseq] → objOfCode (fld w 31 24) = some o → fld w 23 16 = 0 → fld w 15 0 = k →
      k < objCount o → a.lockOn o k = some (i, l) → l.owner = sessionMaster n → l.leased a.clock = true →
      exec (.lockRelease e [w]) s = .next (s.answered r n x
        { state := { a with faults := { a.faults with locks := eraseKey a.faults.locks i } } }))) ∧
  ((∀ (s : State) (i : Nat) (l : Lock) (t : Nat), s.boot.phase = .running → i < 1024 → find s.faults.locks i = some l →
      l.leaseEnds = some t → t ≤ s.clock →
      ∃ u, exec (.leaseExpiry i) s = .next u ∧ find u.faults.locks i = some { l with leaseEnds := none } ∧
        u = (s.setLock i { l with leaseEnds := none }).notify 0x0602 .lock i [objCode l.obj * 2 ^ 24 + l.inst, l.owner]) ∧
    (∀ (s : State) (i : Nat) (l : Lock) (t : Nat), s.boot.phase = .running → i < 1024 → find s.faults.locks i = some l →
      l.leaseEnds = some t → s.clock < t → exec (.leaseExpiry i) s = .next s))

/-! ## Housekeeping converter -/

/-- HK_RUN starts the sequence at slot 0, due at once; HK_STOP ends it and abandons a sequence conversion in progress, after which a waiting
conversion starts; HK_CONVERT starts a host conversion, or lets it wait for the one in progress (R670-R674, R686). A conversion starts
with the settings of its input captured: GAIN a power of two, ORDER, RATE and LOG of INCFG, and STATUS shows CONV, INPUT and ORIGIN
(R665, R675). HK_SLOT_DUE of a due slot starts its conversion, or during another conversion waits and counts a slip (R670, R671);
HK_URGENT_ACTIVATION starts an urgent conversion of its input when none is in progress and counts the activation (R344, R673);
HK_PACKET_TIMEOUT closes the open packet 1 ms after its first record (R676). HK_CONVERSION_DONE at the end of a sequence conversion
writes VALUE, STAMP (the end of its window) and OVR of its input and counts it, fires the HK source, and the next slot becomes due GAP µs later, or from slot 0
again, or the sequence ends (R664, R670, R675). A result before the conversion time has passed is none. -/
def Obligations.HousekeepingConverts : Prop :=
  ((∀ (s : State) (e : Envelope) (n : Nat) (x : Session),
      let r : Req := ⟨.hkRun, e, []⟩
      let a := s.admitted r n x
      InOrder s r n x → a.rb .hk 0 0x20 31 = false →
      (∀ i, i ≤ a.rf .hk 0 2 31 26 → a.hkInput (a.hkSlotInput i) = true) →
      exec (.hkRun e []) s = .next (s.answered r n x
        { state := { a.setRb .hk 0 0x20 31 true with hk := { a.hk with slot := 0, due := some s.now, slotWaits := false } } })) ∧
    (∀ (s : State) (e : Envelope) (n : Nat) (x : Session),
      let r : Req := ⟨.hkStop, e, []⟩
      let a := s.admitted r n x
      InOrder s r n x → (∀ k, a.hk.conv = some k → k.origin ≠ 0) →
      exec (.hkStop e []) s = .next (s.answered r n x
        { state := ({ a with hk := { a.hk with due := none, slotWaits := false } } : State).setRb .hk 0 0x20 31 false })) ∧
    (∀ (s : State) (e : Envelope) (n : Nat) (x : Session) (k : HkConv),
      let r : Req := ⟨.hkStop, e, []⟩
      let a := s.admitted r n x
      InOrder s r n x → a.hk.conv = some k → k.origin = 0 → a.hk.hostWaits = none →
      exec (.hkStop e []) s = .next (s.answered r n x
        { state := ({ ({ a with hk := { a.hk with due := none, slotWaits := false } } : State).setRb .hk 0 0x20 31 false with
            hk := { a.hk with due := none, slotWaits := false, conv := none } } : State).setRb .hk 0 0x20 30 false })) ∧
    (∀ (s : State) (e : Envelope) (n : Nat) (x : Session) (w : Word),
      let r : Req := ⟨.hkConvert, e, [w]⟩
      let a := s.admitted r n x
      InOrder s r n x → w.toNat < 32 → a.hkInput w.toNat = true → a.hk.hostWaits = none → a.hk.conv = none →
      exec (.hkConvert e [w]) s = .next (s.answered r n x
        { state := (a.setRb .hk 0 0x24 31 false).hkStart w.toNat 1 s.now })) ∧
    (∀ (s : State) (e : Envelope) (n : Nat) (x : Session) (w : Word) (k : HkConv),
      let r : Req := ⟨.hkConvert, e, [w]⟩
      let a := s.admitted r n x
      InOrder s r n x → w.toNat < 32 → a.hkInput w.toNat = true → a.hk.hostWaits = none → a.hk.conv = some k → k.origin ≠ 1 →
      exec (.hkConvert e [w]) s = .next (s.answered r n x
        { state := ({ a.setRb .hk 0 0x24 31 false with hk := { a.hk with hostWaits := some w.toNat } } : State).setRb .hk 0 0x20 22 true }))) ∧
  (∀ (s : State) (n origin t : Nat), s.regsCanonical → n < 32 → origin < 3 →
      (s.hkStart n origin t).hk.conv = some ⟨n, origin, 2 ^ s.rf .hk 0 (0x60 + n) 30 28, s.rf .hk 0 (0x60 + n) 27 25,
        s.rf .hk 0 (0x60 + n) 24 21, s.rb .hk 0 (0x60 + n) 20, t⟩ ∧
      (s.hkStart n origin t).rb .hk 0 0x20 30 = true ∧ (s.hkStart n origin t).rf .hk 0 0x20 29 25 = n ∧
      (s.hkStart n origin t).rf .hk 0 0x20 24 23 = origin ∧
      ∀ o k f w, o ≠ Obj.hk → k < 65536 → f < 65536 → w < 16 → (s.hkStart n origin t).regAt o k f w = s.regAt o k f w) ∧
  ((∀ (s : State) (t due : Nat), s.boot.phase = .running → s.hk.due = some due → due ≤ t → s.rb .hk 0 0x20 31 = true →
      s.hk.slotWaits = false → s.hk.conv = none →
      exec (.hkSlotDue t) s =
        .next (State.hkStart { s with hk := { s.hk with due := none } } (s.hkSlotInput s.hk.slot) 0 t)) ∧
    (∀ (s : State) (t due : Nat) (k : HkConv), s.boot.phase = .running → s.hk.due = some due → due ≤ t →
      s.rb .hk 0 0x20 31 = true → s.hk.slotWaits = false → s.hk.conv = some k →
      exec (.hkSlotDue t) s = .next (State.count { s with hk := { s.hk with slotWaits := true } } .hk 0 0x23)) ∧
    (∀ (s : State) (n t k cyc : Nat), s.boot.phase = .running → n < 32 → s.hk.urgent = [(n, k, cyc)] → s.hk.conv = none →
      (∀ done, find s.events.busyEnd (mkId 0xA 0) = some done → done < cyc) →
      exec (.hkUrgentActivation n t) s = .next
        ((({ s with hk := { s.hk with urgent := [] } } : State).setSink (mkId 0xA n)
          { s.sink (mkId 0xA n) with coincident := decide (2 ≤ k), lastCount := k,
                                     activations := min (2 ^ 32 - 1) ((s.sink (mkId 0xA n)).activations + 1) }).hkStart n 2 t)) ∧
    (∀ (s : State) (cyc : Nat), s.boot.phase = .running → s.hk.packet ≠ [] → s.hk.packetAt + 10 ^ 6 ≤ s.clock →
      ∃ t, exec (.hkPacketTimeout cyc) s = .next t ∧ t.hk = { s.hk with packet := [] } ∧ t.chans = s.chans ∧ t.seqs = s.seqs)) ∧
  ((∀ (s : State) (y : Sample) (t cyc : Nat) (c : HkConv), s.boot.phase = .running → s.hk.conv = some c → c.origin = 0 →
      c.started + hkTime c ≤ t → c.log = false → s.hk.hostWaits = none → s.hk.slotWaits = false →
      let u := (((({ s with hk := { s.hk with conv := none, doneAt := insertKey s.hk.doneAt c.input s.clock } } : State).setRb .hk 0 0x20
        30 false).hkPublish c y (c.started + hkTime c - 1000)).busyEnds (mkId 0xA 0) cyc).fire (mkId 0xA 0) cyc
      u.rb .hk 0 0x20 31 = true → u.hk.hostWaits = none → u.hk.slotWaits = false →
      exec (.hkConversionDone y t cyc) s = .next
        (if u.hk.slot < u.rf .hk 0 2 31 26 then
          { u with hk := { u.hk with slot := u.hk.slot + 1, due := some (t + u.rf .hk 0 2 15 0 * 1000) } }
        else if u.rb .hk 0 2 25 then { u with hk := { u.hk with slot := 0, due := some (t + u.rf .hk 0 2 15 0 * 1000) } }
        else State.setRb { u with hk := { u.hk with due := none } } .hk 0 0x20 31 false)) ∧
    (∀ (s : State) (c : HkConv) (y : Sample) (stamp : Nat), s.regsCanonical → c.input < 32 → c.origin ≠ 1 →
      (s.hkPublish c y stamp).reg .hk 0 (0x100 + c.input) = s.hkValue c y ∧
      (s.hkPublish c y stamp).rb .hk 0 0x25 c.input = (y == 0x7FFFFF || y == 0x800000) ∧
      (s.hkPublish c y stamp).reg .hk 0 0x21 = satInc (s.reg .hk 0 0x21)))

/-! ## Auxiliary outputs -/

/-- AOUT_RUN of outputs that are idle, in a mode that plays, asks for playback from the first update instant at least 200 ns after its
boundary and clears FAULT_HELD, and leaves others as they are; AOUT_STOP asks for its end; AOUT_WAVE_WRITE of one sample writes it (R680, R681, R683, R685). A written waveform sample
reads back and every other sample of every output reads as before (R683). The update instant of a playback is a multiple of 1 µs, at
least 200 ns and less than 1,200 ns after the command (R679-R681). AOUT_PLAYBACK_START at a due update instant of an output in a playing
mode begins playback with its first sample, its passes at 0, and fires source 2k (R680, R682). AOUT_UPDATE_INSTANT counts an instant of
the sample, or advances to the next sample, or on an idle output drives a level that is due (R677, R679). AOUT_PLAYBACK_END at a stop
ends playback: the output keeps its sample, LEVEL takes it and source 2k + 1 fires; a further stop keeps the instants of those before
it (R681). In these no FAULT_ACT is due at the instant. -/
def Obligations.AuxOutputsPlay : Prop :=
  ((∀ (s : State) (e : Envelope) (n : Nat) (x : Session) (body : List Word) (l : List Nat),
      let r : Req := ⟨.aoutRun, e, body⟩
      let a := s.admitted r n x
      let b := a.auxBoundary e
      InOrder s r n x → flagsAndSet .aout 0 body = .ok (0, l) →
      (∀ k ∈ l, a.rb .aout k 0x20 31 = false ∧ (a.aout k).startAt = none) →
      exec (.aoutRun e body) s = .next (s.answered r n x
        { state := l.foldl (fun t k => if t.aoutMode k = 0 then t else
            (t.setRb .aout k 0x20 30 false).setAout k { (t.setRb .aout k 0x20 30 false).aout k with startAt := some (updateInstant b) }) a,
          time := some b })) ∧
    (∀ (s : State) (e : Envelope) (n : Nat) (x : Session) (body : List Word) (l : List Nat),
      let r : Req := ⟨.aoutStop, e, body⟩
      let a := s.admitted r n x
      let b := a.auxBoundary e
      InOrder s r n x → flagsAndSet .aout 0 body = .ok (0, l) →
      exec (.aoutStop e body) s = .next (s.answered r n x
        { state := l.foldl (fun t k => t.setAout k { t.aout k with stopAt := (t.aout k).stopAt ++ [updateInstant b] }) a, time := some b })) ∧
    (∀ (s : State) (e : Envelope) (n : Nat) (x : Session) (k i : Nat) (v : Word),
      let r : Req := ⟨.waveWrite, e, [word (k * 65536 + 1), word i, v]⟩
      let a := s.admitted r n x
      InOrder s r n x → k < 8 → i < 65536 → a.aoutPlaying k = false →
      exec (.aoutWaveWrite e [word (k * 65536 + 1), word i, v]) s = .next (s.answered r n x
        { state := a.setWave k i (BitVec.ofNat 16 (fld v 31 16)) }))) ∧
  (∀ (s : State) (k i : Nat) (v : BitVec 16), sortedKeys s.waves = true → i < 65536 →
      (s.setWave k i v).wave k i = v.toNat ∧ sortedKeys (s.setWave k i v).waves = true ∧
      (∀ j m, m < 65536 → (j ≠ k ∨ m ≠ i) → (s.setWave k i v).wave j m = s.wave j m)) ∧
  (∀ t, updateInstant t % 1000 = 0 ∧ t + 200 ≤ updateInstant t ∧ updateInstant t < t + 1200) ∧
  ((∀ (s : State) (k t cyc due : Nat), s.boot.phase = .running → k < 8 → (s.aout k).startAt = some due → t % 1000 = 0 → due ≤ t →
      s.aoutPlaying k = false → s.aoutMode k ≠ 0 → (s.aout k).stopAt = [] → (s.aout k).faultAt = none → sortedKeys s.aouts = true →
      let u := ((s.setRb .aout k 0x20 31 true).setReg .aout k 0x21 0).setAout k
        { s.aout k with startAt := none, levelAt := none, ticks := 0, passes := 0, badWord := none }
      exec (.aoutPlaybackStart k t cyc .ok) s = .next
        (State.fire (u.driveSample k (u.rf .aout k 1 31 16) .ok) (mkId 0xC (2 * k)) cyc)) ∧
    (∀ (s : State) (k t : Nat) (r : WaveRead), s.boot.phase = .running → k < 8 → t % 1000 = 0 → s.aoutPlaying k = true →
      (s.aout k).ticks < s.rf .aout k 0 15 0 → (s.aout k).faultAt = none →
      exec (.aoutUpdateInstant k t r) s = .next (s.setAout k { s.aout k with ticks := (s.aout k).ticks + 1 })) ∧
    (∀ (s : State) (k t : Nat) (r : WaveRead), s.boot.phase = .running → k < 8 → t % 1000 = 0 → s.aoutPlaying k = true →
      s.rf .aout k 0 15 0 ≤ (s.aout k).ticks → s.passEnds k = false → (s.aout k).faultAt = none →
      exec (.aoutUpdateInstant k t r) s = .next
        ((s.setAout k { s.aout k with ticks := 0 }).driveSample k (s.rf .aout k 0x20 15 0 + 1) r.read)) ∧
    (∀ (s : State) (k t due : Nat) (r : WaveRead), s.boot.phase = .running → k < 8 → t % 1000 = 0 → s.aoutPlaying k = false →
      (s.aout k).levelAt = some due → due ≤ t → (s.aout k).faultAt = none →
      exec (.aoutUpdateInstant k t r) s =
        .next (s.setAout k { s.aout k with code := s.rf .aout k 4 15 0, levelAt := none })) ∧
    (∀ (s : State) (k t cyc due : Nat), s.boot.phase = .running → k < 8 → t % 1000 = 0 → s.aoutPlaying k = true →
      s.passEnds k = false → due ∈ (s.aout k).stopAt → due ≤ t →
      exec (.aoutPlaybackEnd k t cyc) s = .next
        (State.fire ((((s.setRb .aout k 0x20 31 false).setReg .aout k 4 (word (s.aout k).code)).setAout k
          { s.aout k with stopAt := (s.aout k).stopAt.filter (fun stop => decide (t < stop)), levelAt := none, ticks := 0, passes := 0,
                          badWord := none, endedAt := some t }).busyEnds (mkId 0xC (2 * k)) cyc) (mkId 0xC (2 * k + 1)) cyc)) ∧
    (∀ (s : State) (k t : Nat), sortedKeys s.aouts = true → k < 8 →
      (s.requestStop k t).aout k = { s.aout k with stopAt := (s.aout k).stopAt ++ [updateInstant t] } ∧
      ∀ j, j ≠ k → (s.requestStop k t).aout j = s.aout j))

/-! ## Commands that act at a boundary -/

/-- An untimed ARM, DISARM, stop, resumption, ACQ_STOP or ACQ_FORCE that passes its checks is accepted and waits for the first boundary,
which its reply names (R82, R85, R90, R267, R302, R317, R371, R376, R604, R628, R631, R637). -/
def Obligations.BoundaryCommandsAreAccepted : Prop :=
  ∀ (s : State) (e : Envelope) (n : Nat) (x : Session) (body : List Word) (f : Word) (l : List Nat) (i : Instr) (cmd : HostCmd)
    (o : Obj) (flags : Nat) (kind : TimedKind),
    (i, cmd, o, flags, kind) ∈ ([(.arm e body, .arm, .chan, 0xC0000000, .arm), (.seqStop e body, .seqStop, .seq, 0x80000000, .seqStop),
      (.bseqStop e body, .bseqStop, .bseq, 0x80000000, .bseqStop), (.seqResume e body, .seqResume, .seq, 0, .seqResume),
      (.bseqResume e body, .bseqResume, .bseq, 0, .bseqResume), (.acqStop e body, .acqStop, .acq, 0, .acqStop),
      (.acqForce e body, .acqForce, .acq, 0, .acqForce), (.disarm e body, .disarm, .chan, 0x80000000, .disarm)] :
      List (Instr × HostCmd × Obj × Nat × TimedKind)) →
    let r : Req := ⟨cmd, e, body⟩
    let a := s.admitted r n x
    InOrder s r n x → r.untimed → flagsAndSet o flags body = .ok (f, l) →
    a.allUnlocked n o l = .ok () → a.noTimed o l = .ok () →
    (kind = .arm → ∀ c ∈ l, a.armCheck c (bitAt f 31) = .ok ()) →
    (kind = .seqResume → ∀ c ∈ l, a.run (.chan c) = 4) → (kind = .bseqResume → ∀ b ∈ l, a.run (.bank b) = 4) →
    (kind = .disarm → a.commits.timed = []) →
    exec i s = .next (s.answered r n x
      { state := { a with commits := { a.commits with
          timed := a.commits.timed ++ [⟨a.commits.accepted, n, kind, l, f, false, s.nextBoundary, e.src.port, false⟩],
          accepted := a.commits.accepted + 1 } },
        time := some s.nextBoundary })

/-- An untimed SEQ_RUN, BSEQ_RUN or ACQ_ARM whose every sequencer or unit is admitted, each beside those before it, charges its resources
and waits for the first boundary after its load work (R266, R298-R300, R318, R368, R396, R429, R606; when an untimed run starts, log
entry 46). -/
def Obligations.RunsAreAdmittedAndAccepted : Prop :=
  (∀ (s t : State) (e : Envelope) (n : Nat) (x : Session) (body : List Word) (f : Word) (l : List Nat) (bank : Bool),
    let r : Req := ⟨if bank then .bseqRun else .seqRun, e, body⟩
    let a := s.admitted r n x
    let b := nextMultiple 100 (t.now + a.loadWork (l.map (seqRef bank)))
    InOrder s r n x → r.untimed → flagsAndSet (if bank then .bseq else .seq) 0 body = .ok (f, l) →
    a.allUnlocked n (if bank then .bseq else .seq) l = .ok () → a.noTimed (if bank then .bseq else .seq) l = .ok () →
    a.admitRuns e.src.port (l.map (seqRef bank)) = .ok t →
    exec (if bank then .bseqRun e body else .seqRun e body) s = .next (s.answered r n x
      { state := { t with commits := { t.commits with
          timed := t.commits.timed ++ [⟨t.commits.accepted, n, if bank then .bseqRun else .seqRun, l, f, false, b, e.src.port, false⟩],
          accepted := t.commits.accepted + 1 } },
        time := some b })) ∧
  (∀ (s t : State) (e : Envelope) (n : Nat) (x : Session) (body : List Word) (f : Word) (l : List Nat),
    let r : Req := ⟨.acqArm, e, body⟩
    let a := s.admitted r n x
    InOrder s r n x → r.untimed → flagsAndSet .acq 0 body = .ok (f, l) → a.noTimed .acq l = .ok () →
    (∀ u ∈ l, a.acqRuns u = false ∧ find a.records.spool.charged u = none ∧ a.acqArmOk u = true) →
    a.admitUnits l = .ok t → t.now = a.now →
    exec (.acqArm e body) s = .next (s.answered r n x
      { state := { t with commits := { t.commits with
          timed := t.commits.timed ++ [⟨t.commits.accepted, n, .acqArm, l, f, false, s.nextBoundary, e.src.port, false⟩],
          accepted := t.commits.accepted + 1 } },
        time := some s.nextBoundary }))

/-- ARM_APPLY, RUN_APPLY and TIMED_COMMAND_APPLY: an admitted timed command whose boundary has come leaves the almanac and acts on its
objects in their order: ARM, SEQ_RUN, BSEQ_RUN, DISARM, SEQ_STOP, BSEQ_STOP, SEQ_RESUME, BSEQ_RESUME, ACQ_ARM, ACQ_STOP, ACQ_FORCE. An
ARM and a run make their checks again: a channel that fails them is not armed and N_ARM_FAILED names it with the reason, one that passes
is ARMING; a sequencer that fails them does not start, gives back what was admitted for it and N_RUN_FAILED names it with the error, one
that passes is RUNNING at its PC0 (R85, R720). -/
def Obligations.AdmittedCommandsActAtTheirBoundary : Prop :=
  ∀ (s : State) (id : Nat) (q : TimedReq), s.boot.phase = .running → q.boundary ≤ s.now → q.timed = true → q.id = id →
    s.commits.timed.find? (fun p => p.id == id && p.timed) = some q →
    (∀ p ∈ s.commits.timed, p.id = id → p = q) →
    let t : State := { s with commits := { s.commits with timed := s.commits.timed.filter fun p => p.id != id } }
    (q.kind = .arm → exec (.armApply id) s = .next (t.armActs q.insts q.flags)) ∧
    (q.kind = .seqRun → exec (.runApply id) s = .next (q.insts.foldl (fun u k => u.runActs (.chan k)) t)) ∧
    (q.kind = .bseqRun → exec (.runApply id) s = .next (q.insts.foldl (fun u k => u.runActs (.bank k)) t)) ∧
    (q.kind = .disarm →
      exec (.timedCommandApply id) s = .next (q.insts.foldl (fun u c => u.disarmChannel c (bitAt q.flags 31)) t)) ∧
    (q.kind = .seqStop →
      exec (.timedCommandApply id) s = .next (q.insts.foldl (fun u k => u.stopSeq (.chan k) (bitAt q.flags 31)) t)) ∧
    (q.kind = .bseqStop →
      exec (.timedCommandApply id) s = .next (q.insts.foldl (fun u k => u.stopSeq (.bank k) (bitAt q.flags 31)) t)) ∧
    (q.kind = .seqResume → exec (.timedCommandApply id) s = .next (q.insts.foldl (fun u k => u.resumeSeq (.chan k)) t)) ∧
    (q.kind = .bseqResume → exec (.timedCommandApply id) s = .next (q.insts.foldl (fun u k => u.resumeSeq (.bank k)) t)) ∧
    (q.kind = .acqArm → exec (.timedCommandApply id) s = .next (q.insts.foldl State.acqArm t)) ∧
    (q.kind = .acqStop → exec (.timedCommandApply id) s = .next (q.insts.foldl State.acqStop t)) ∧
    (q.kind = .acqForce → exec (.timedCommandApply id) s =
      .next (q.insts.foldl (fun u k => u.acqTrigger k ⟨.software, u.now * 128, 0, false, false, false⟩) t)) ∧
    (∀ c, q.kind = .arm → q.insts = [c] → c < 512 →
      (∀ d, t.armCheck c (bitAt q.flags 31) = .error d →
        exec (.armApply id) s = .next (t.notify 0x0103 .chan c [if d.err = .notReady then 3 else 4])) ∧
      (t.armCheck c (bitAt q.flags 31) = .ok () → (t.engineOf (octetOf c)).isSome = true → s.regsCanonical →
        ∃ u, exec (.armApply id) s = .next u ∧ u.chState c = 3)) ∧
    (∀ bank k, q.kind = (if bank then .bseqRun else .seqRun) → q.insts = [k] → k < (if bank then 8 else 512) →
      (∀ d, t.runStill (seqRef bank k) = .error d → t.seqRuns (seqRef bank k) = false →
        exec (.runApply id) s = .next (((t.charge (seqRef bank k) 0 0 (t.seqx (seqRef bank k)).port).request (seqRef bank k) []).notify
          0x0206 (seqRef bank k).obj k [d.err.code, d.instr])) ∧
      (t.runStill (seqRef bank k) = .ok () → s.regsCanonical → sortedKeys s.seqs = true → sortedKeys s.bseqs = true →
        ∃ u, exec (.runApply id) s = .next u ∧ u.run (seqRef bank k) = 1 ∧ u.pc (seqRef bank k) = s.pc0 (seqRef bank k) ∧
          (u.seqx (seqRef bank k)).exec = true))

/-! ## Record path -/

/-- FIFO_FLUSH flushes every unit of the named FIFOs that is not dropping: its open packet closes, unless the record it belongs to has its
last word written, when the record's end closes it (R414, R441); SPOOL_READ with no packet after its
start returns none, both cursors where it stands, and the not-valid tag, and with one that fits and whose check holds returns it between
its cursors and goes on after it; SPOOL_ACK takes the packets up to the cursor; SPOOL_DISCARD with no
consumer enabled empties the spool and every ring (R412, R428, R617, R618). FLUSH_TIME closes a unit's open packet whose flush time has
passed, but for such a record (R403, R441); PACKET_TO_RING copies the packet that closed first whole into a ring with room for it, and a unit that was dropping
writes its gap marker and goes on (R406, R408); SPOOL_WRITE stops the writer with FULL at a packet that does not fit, which stays the next the writer takes (R424), and stores
one that fits with its CRC-32 in word 7 (R411, R422); SPOOL_RESUME clears FULL once the packet fits (R424). -/
def Obligations.TheRecordPathActs : Prop :=
  ((∀ (s : State) (e : Envelope) (n : Nat) (x : Session) (body : List Word) (l : List Nat),
      let r : Req := ⟨.fifoFlush, e, body⟩
      let a := s.admitted r n x
      InOrder s r n x → flagsAndSet .fifo 0 body = .ok (0, l) →
      exec (.fifoFlush e body) s = .next (s.answered r n x
        { state := l.foldl (fun t f => (t.records.units.filterMap fun u =>
            if bankOf u.1 = f && !u.2.drops then some u.1 else none).foldl State.flushOpen t) a })) ∧
    (∀ (s : State) (e : Envelope) (n : Nat) (x : Session) (w : Word),
      let r : Req := ⟨.spoolRead, e, [w]⟩
      let a := s.admitted r n x
      let sp := a.records.spool
      let start := if bitAt w 31 then sp.acknowledged else sp.delivered
      InOrder s r n x → fld w 30 16 = 0 → 64 ≤ fld w 15 0 → fld w 15 0 ≤ 8912 →
      (∀ p ∈ sp.packets, p.cursorEnd ≤ start) →
      exec (.spoolRead e [w]) s = .next (s.answered r n x
        { state := a, body := [0] ++ wordsOf 2 start ++ wordsOf 2 start ++ [word (0x000F0000 + if a.pullOn then 1 else 2)] })) ∧
    (∀ (s : State) (e : Envelope) (n : Nat) (x : Session) (w : Word) (p : SpoolPacket),
      let r : Req := ⟨.spoolRead, e, [w]⟩
      let a := s.admitted r n x
      let sp := a.records.spool
      let start := if bitAt w 31 then sp.acknowledged else sp.delivered
      InOrder s r n x → fld w 30 16 = 0 → 4 * p.words.length ≤ fld w 15 0 → 64 ≤ fld w 15 0 → fld w 15 0 ≤ 8912 →
      p.words.length + 5 ≤ a.replyRoom r → a.pullOn = true → sp.packets = [p] → start < p.cursorEnd → p.check [] = .good →
      exec (.spoolRead e [w]) s = .next (s.answered r n x
        { state := { a with records := { a.records with spool := { sp with delivered := p.cursorEnd } } },
          body := [1] ++ wordsOf 2 (p.cursorEnd - 4 * p.words.length) ++ wordsOf 2 p.cursorEnd ++ p.words })) ∧
    (∀ (s : State) (e : Envelope) (n : Nat) (x : Session) (c0 c1 : Word),
      let r : Req := ⟨.spoolAck, e, [c0, c1]⟩
      let a := s.admitted r n x
      let sp := a.records.spool
      let c := dword [c0, c1] 0
      InOrder s r n x → c ≤ sp.delivered → (c = sp.acknowledged ∨ ∃ p ∈ sp.packets, p.cursorEnd = c) →
      exec (.spoolAck e [c0, c1]) s = .next (s.answered r n x
        { state := State.takeUpTo { a with records := { a.records with spool := { sp with acknowledged := max c sp.acknowledged } } } c
            fun p => { p with pullTaken := true } })) ∧
    (∀ (s : State) (e : Envelope) (n : Nat) (x : Session),
      let r : Req := ⟨.spoolDiscard, e, []⟩
      let a := s.admitted r n x
      InOrder s r n x → a.rb .spool 0 8 31 = false → a.rb .journal 0 8 31 = false →
      ∃ t, exec (.spoolDiscard e []) s = .next (s.answered r n x { state := t }) ∧
        t.records.spool.packets = [] ∧ t.records.spool.datagram = [] ∧ t.records.spool.delivered = a.records.spool.cursor ∧
        t.records.spool.acknowledged = a.records.spool.cursor ∧ t.chans = a.chans ∧ t.acqs = a.acqs)) ∧
  ((∀ (s : State) (u : Nat) (o : OpenPacket), s.boot.phase = .running → u < 512 → (s.unitPkts u).openPkt = some o →
      o.since + s.rf .fifo (bankOf u) 0 15 0 * 100000 ≤ s.clock → o.payload ≠ [] →
      (s.recordWhole u o.recno = true → exec (.flushTime u) s = .next s ∧ s.flushOpen u = s) ∧
      (s.recordWhole u o.recno = false → exec (.flushTime u) s = .next (s.flushOpen u) ∧ s.flushOpen u =
        (let t := s.setUnitPkts u { s.unitPkts u with openPkt := none }
         t.setWaitingPkts (bankOf u) (t.waitingPkts (bankOf u) ++ [⟨some u,
          mkPacket o.ptype o.first false (o.provisional || o.first) (bankOf u) 0x40 u o.recno o.offset s.now o.payload⟩])))) ∧
    (∀ (s : State) (f cyc u : Nat) (w : List Word) (rest : List WaitingPacket), s.boot.phase = .running → f < 9 →
      s.waitingPkts f = ⟨some u, w⟩ :: rest → s.ringFits f w = true →
      exec (.packetToRing f cyc .ok) s = .next (((s.setWaitingPkts f rest).pushRing f w cyc).resumeUnit u)) ∧
    (∀ (s : State) (u : Nat), ((s.unitPkts u).dropping = none → s.resumeUnit u = s) ∧
      (∀ d, (s.unitPkts u).dropping = some d →
        let f := bankOf u
        let t := (s.setUnitPkts u { s.unitPkts u with dropping := none }).countDropping f
        s.resumeUnit u = t.setWaitingPkts f (t.waitingPkts f ++ [⟨some u, mkPacket 3 false false false f 0x40 u 0 0 t.now
          (gapPayload 1 d.spoolFull d.begins d.ends d.count d.recnoFirst 0)⟩]))) ∧
    (∀ (s : State) (cyc f : Nat) (p : List Word) (rest : List (List Word)), s.boot.phase = .running → s.rb .spool 0 0x20 30 = false →
      s.nextFifo = some f → (s.ring f).packets = p :: rest →
      (s.spoolFits p = false → ∀ m, exec (.spoolWrite cyc m) s = .next
        (State.setRb { s with records := { s.records with spool := { s.records.spool with stopped := some f } } } .spool 0 0x20 30 true)) ∧
      (s.spoolFits p = false → s.rb .spool 0 0 (16 + f) = true → ∀ t : State, t.records.spool.stopped = some f →
        t.rb .spool 0 0 (16 + f) = true → (t.ring f).packets ≠ [] → t.nextFifo = some f) ∧
      (s.spoolFits p = true → ∃ t, exec (.spoolWrite cyc .ok) s = .next t ∧
        t.records.spool.packets = s.records.spool.packets ++
          [⟨p.set 7 (word (crc32 (wordBytes (p.set 7 0)))), s.records.spool.cursor + 4 * p.length, false, false, false⟩] ∧
        t.records.spool.cursor = s.records.spool.cursor + 4 * p.length ∧ t.records.spool.turn = (f + 1) % 9 ∧
        t.records.spool.stopped = none)) ∧
    (∀ (s : State) (f : Nat) (p : List Word) (rest : List (List Word)), s.boot.phase = .running → s.rb .spool 0 0x20 30 = true →
      s.nextFifo = some f → (s.ring f).packets = p :: rest → s.spoolFits p = true →
      exec .spoolResume s = .next (s.setRb .spool 0 0x20 30 false)))

/-- Packets leave the spool when a consumer and every consumer enabled now have taken them: after any sweep each packet left is one that
was there and that no consumer has taken, or that some enabled consumer still has to take (R423). The stored check of a packet is the CRC-32
of its words with word 7 taken as 0 (R422). EGRESS_DATAGRAM takes the next spool packet, whose check holds, into an empty datagram, which
waits to be filled; EGRESS_FLUSH_TIMEOUT sends a datagram 10 µs after its first packet was taken, within its pace and while its port is
not paused, with the next sequence number, and the packets count as taken (R426, R615, R616). -/
def Obligations.PacketsAreKeptAndSent : Prop :=
  (∀ (s : State) (p : SpoolPacket), p ∈ s.records.spool.packets →
      (p ∈ s.sweepSpool.records.spool.packets ↔
        (p.pushTaken = false ∧ p.pullTaken = false ∧ p.journalTaken = false) ∨ (s.pushOn = true ∧ p.pushTaken = false) ∨
          (s.pullOn = true ∧ p.pullTaken = false) ∨ (s.logOn = true ∧ p.journalTaken = false))) ∧
  (∀ p : List Word, 8 ≤ p.length →
      (wget (withCheck p) 7).toNat = crc32 (wordBytes ((withCheck p).set 7 0)) ∧ (withCheck p).length = p.length) ∧
  ((∀ (s : State) (e : EgressTo) (p : SpoolPacket) (rest : List SpoolPacket), s.boot.phase = .running → s.pushOn = true →
      s.host.egress = some e → s.records.spool.datagram = [] → p.pushTaken = false → s.records.spool.datagramEnd < p.cursorEnd →
      s.records.spool.packets = p :: rest →
      p.check (rest.filter fun q => decide (s.records.spool.datagramEnd < q.cursorEnd) && !q.pushTaken) = .good →
      exec (.egressDatagram [[]]) s = .next { s with records := { s.records with spool := { s.records.spool with
        datagram := [p.words], datagramEnd := p.cursorEnd, datagramAt := s.clock } } }) ∧
    (∀ (s : State) (e : EgressTo), s.boot.phase = .running → s.host.egress = some e → s.records.spool.datagram ≠ [] →
      s.records.spool.datagramAt + 10000 ≤ s.clock → s.paused e.dst.port = false →
      (s.records.spool.datagram.map pktBytes).sum * 10 ^ 9 ≤ s.egressCredit →
      ∃ t, exec .egressFlushTimeout s = .next t ∧ t.records.spool.datagram = [] ∧ t.host.egSeq = (s.host.egSeq + 1) % 2 ^ 32 ∧
        t.host.tx = s.host.tx ++ [⟨s.ownMac, true, rmp e.key e.dst e.udp 5 e.session (((s.host.egSeq + 1) % 2 ^ 32 + 2 ^ 32 - 1) % 2 ^ 32)
          s.records.spool.datagram.length 0 s.now s.records.spool.datagram.flatten⟩] ∧
        t.records.spool.credit = s.egressCredit - (s.records.spool.datagram.map pktBytes).sum * 10 ^ 9))

/-! ## The journal -/

/-- JOURNAL_OPEN of a device whose KIND is set and that is not logging starts the scan; JOURNAL_SCAN_DONE makes the journal ready with the
records found, each placed among them by its number, the next JSEQ one after the newest valid record (R435, R438). JOURNAL_READ is
refused before the journal is ready and for a JSEQ that no valid record has; of the only valid record, with one packet that fits, it
returns that packet, the end of the record and that the record is the newest, and changes nothing (R643, R644). JOURNAL_TAKE of a packet
whose check holds and whose blocks are erased and not still being programmed, with no record open, no block retired and the record not
longer than the journal, opens a record with it; JOURNAL_MAX_AGE closes a
record open for MAX_AGE; JOURNAL_ERASE_DONE makes the block ready; JOURNAL_PROGRAM_DONE, once every data unit of the oldest closed record
has reported success, forms its commit unit of COMMIT, the record's JSEQ, DATA_CRC and CLOSE_TIME, and once that is programmed commits the
record, whose packets count as taken (that these are two reports of the device, log entry 128); JOURNAL_PROGRAM_FAIL retires the block
(R433, R434, R436, R440). -/
def Obligations.TheJournalIsWrittenAndRead : Prop :=
  ((∀ (s : State) (e : Envelope) (n : Nat) (x : Session),
      let r : Req := ⟨.journalOpen, e, []⟩
      let a := s.admitted r n x
      InOrder s r n x → a.rf .journal 0 0 31 28 ≠ 0 → a.logOn = false →
      exec (.journalOpen e []) s = .next (s.answered r n x
        { state := { a.setRb .journal 0 0x20 31 false with
            records := { a.records with journal := { a.records.journal with scanning := true } } } })) ∧
    (∀ (s : State) (found : List JImage), s.boot.phase = .running → s.records.journal.scanning = true →
      let records := (found.map s.jRecord).foldl (fun l r => placeRecord r l) []
      ∃ t next, exec (.journalScanDone found) s = .next t ∧ t.records.journal.scanning = false ∧ t.records.journal.records = records ∧
        t.records.journal.openRec = none ∧
        (match (records.filter fun r => r.committed).getLast? with
          | some r => next = r.jseq + 1
          | none => next = 0) ∧
        t = ((({ s with records := t.records } : State).setRb .journal 0 0x20 31 true).setRb .journal 0 0x20 30 false).watchJournal next)) ∧
  (∀ (s : State) (e : Envelope) (n : Nat) (x : Session) (q0 q1 off w : Word),
      let r : Req := ⟨.journalRead, e, [q0, q1, off, w]⟩
      let a := s.admitted r n x
      InOrder s r n x → fld w 31 16 = 0 → 64 ≤ fld w 15 0 → fld w 15 0 ≤ 8912 →
      (a.rb .journal 0 0x20 31 = false →
        exec (.journalRead e [q0, q1, off, w]) s = .next (s.turnedAway r n x { err := .notReady, obj := objCode .journal })) ∧
      (a.rb .journal 0 0x20 31 = true → (∀ j ∈ a.jValid, j.jseq ≠ dword [q0, q1] 0) →
        exec (.journalRead e [q0, q1, off, w]) s = .next (s.turnedAway r n x { err := .noRecord, obj := objCode .journal }))) ∧
  (∀ (s : State) (e : Envelope) (n : Nat) (x : Session) (q0 q1 w : Word) (rec : JRecord) (p : List Word),
      let r : Req := ⟨.journalRead, e, [q0, q1, 0, w]⟩
      let a := s.admitted r n x
      InOrder s r n x → fld w 31 16 = 0 → 64 ≤ fld w 15 0 → fld w 15 0 ≤ 8912 → a.rb .journal 0 0x20 31 = true →
      a.jValid = [rec] → rec.jseq = dword [q0, q1] 0 → rec.packets = [p] → 4 * p.length ≤ 64 →
      a.wide .journal 0 0x21 2 ≤ rec.jseq → rec.jseq < a.jNext →
      exec (.journalRead e [q0, q1, 0, w]) s = .next (s.answered r n x
        { state := a, body := [1, 0xC0000000] ++ wordsOf 2 rec.jseq ++ [word (4 * p.length)] ++ wordsOf 2 rec.openTime ++
            wordsOf 2 rec.closeTime ++ p })) ∧
  ((∀ (s : State) (p : SpoolPacket) (rest : List SpoolPacket), s.boot.phase = .running → s.logOn = true →
      s.rb .journal 0 0x20 31 = true → s.rb .journal 0 0x20 30 = false → s.records.journal.closing = false → s.jLeft = p :: rest →
      s.records.journal.openRec = none → s.records.journal.bad = [] →
      (∀ b ∈ s.jBlocks s.records.journal.nextUnit (s.jUnits [p.words] + 1), b ∈ s.records.journal.erased) → p.check rest = .good →
      s.records.journal.nextUnit % s.jBlockUnits + (s.jUnits [p.words] + 1) ≤ s.jTotalUnits →
      (∀ b ∈ s.jFresh s.records.journal.nextUnit (s.jUnits [p.words] + 1), s.jBusy b = false) →
      exec (.journalTake []) s = .next
        { s.setRb .journal 0 0x20 29 true with records := { s.records with journal := { s.records.journal with
            openRec := some ⟨s.jNext + s.records.journal.programming.length, s.records.journal.nextUnit, [p.words], p.cursorEnd, s.now,
              s.clock⟩ } } }) ∧
    (∀ (s : State) (o : JOpen), s.boot.phase = .running → s.records.journal.openRec = some o →
      o.since + s.rf .journal 0 3 15 0 * 10 ^ 6 ≤ s.clock →
      ∃ t, exec .journalMaxAge s = .next t ∧ t.records.journal.openRec = none ∧
        t.records.journal.programming = s.records.journal.programming ++
          [(⟨o.jseq, o.unit, s.jUnits o.packets, o.packets, o.openTime, s.now,
            s.jDataCrc o.jseq (s.jUnits o.packets) o.openTime o.packets, [], false⟩, o.cursorEnd)] ∧
        t.records.journal.nextUnit = o.unit + s.jUnits o.packets + 1) ∧
    (∀ (s : State) (b : Nat), s.boot.phase = .running → b ∈ s.records.journal.erasing →
      exec (.journalEraseDone b) s = .next { s with records := { s.records with journal := { s.records.journal with
        erasing := s.records.journal.erasing.filter (· != b), erased := s.records.journal.erased ++ [b] } } }) ∧
    (∀ (s : State) (r : JRecord) (cursor : Nat) (rest : List (JRecord × Nat)), s.records.journal.programming = (r, cursor) :: rest →
      (∀ b ∈ s.jBlocks r.unit (r.units + 1), b ∈ s.records.journal.erased) →
      (r.commit = [] → exec .journalProgramDone s = .next { s with records := { s.records with journal := { s.records.journal with
        programming := ({ r with commit := [0x5AC33CA5] ++ wordsOf 2 r.jseq ++ [word r.dataCrc] ++ wordsOf 2 r.closeTime }, cursor) ::
          rest } } }) ∧
      (r.commit ≠ [] → ∃ t, exec .journalProgramDone s = .next t ∧ t.records.journal.records = s.records.journal.records ++ [{ r with committed := true }] ∧
        t.records.journal.programming = rest ∧
        ∀ p ∈ t.records.spool.packets, p.cursorEnd ≤ cursor → p.journalTaken = true)) ∧
    (∀ (s : State) (b : Nat), s.boot.phase = .running → b ∉ s.records.journal.bad →
      ∃ t, exec (.journalProgramFail b) s = .next t ∧ b ∈ t.records.journal.bad ∧ b ∉ t.records.journal.erased ∧
        b ∉ t.records.journal.erasing))

/-! ## Acquisition -/

/-- ACQ_HOLDOFF_END of a unit whose holdoff has passed returns it to ARMED, not primed and with nothing kept (R369); DETECTION_START sets
IN_DET, counts and fires DETECT (R390); DETECTION_END lowers the level and fires DETECT_END (R390); PATTERN_FIRE of a pattern that has
matched for HOLD evaluations fires its source once (R395); ACQ_RECORD_COMPLETE ends a record whose last interval is whole (R369). A
completed record is counted, nothing of it stays in the unit, and the unit goes on as its mode says: a single record or the last of its
run ends in DONE, a repetitive run goes to HOLDOFF for HOLDOFF frames, or to ARMED with none (R369). -/
def Obligations.RecordsAreTaken : Prop :=
  ((∀ (s : State) (u : Nat), s.boot.phase = .running → u < 512 → s.acqState u = 3 → (s.acq u).holdLeft = 0 →
      exec (.acqHoldoffEnd u) s =
        .next ((s.setAcq u { s.acq u with primed := false, pre := [], ival := none, trigs := [] }).setAcqState u 1)) ∧
    (∀ (s : State) (u cyc : Nat), s.boot.phase = .running → u < 512 → (s.acq u).det.toStart = true →
      exec (.detectionStart u cyc) s = .next
        ((((s.setAcq u { s.acq u with det := { (s.acq u).det with toStart := false } }).count .acq u 0x23).setRb .acq u 0x20 27 true).fire
          (mkId 6 (8 * u + 2)) cyc)) ∧
    (∀ (s : State) (u cyc ends : Nat), s.boot.phase = .running → u < 512 → (s.acq u).det.toEnd = some ends →
      exec (.detectionEnd u cyc) s = .next
        ((((s.setAcq u { s.acq u with det := { (s.acq u).det with toEnd := none } }).setRb .acq u 0x20 27
          (s.acq u).det.inForce).fire (mkId 6 (8 * u + 3)) cyc).detRecord u (s.acq u).det (some ends))) ∧
    (∀ (s : State) (p cyc : Nat), s.boot.phase = .running → p < 16 → s.rb .pattern p 0 31 = true →
      s.rf .pattern p 0 15 0 ≤ s.rf .pattern p 0x80 15 0 → s.rb .pattern p 0x80 31 = true → p ∉ s.patternFired →
      exec (.patternFire p cyc) s = .next
        ((({ s with patternFired := s.patternFired ++ [p] } : State).count .pattern p 0x81).fire (mkId 7 p) cyc)) ∧
    (∀ (s : State) (u cyc : Nat) (r : Record), s.boot.phase = .running → u < 512 → (s.acq u).rcd = some r → r.whole = true →
      exec (.acqRecordComplete u cyc) s = .next (s.endRecord u false cyc))) ∧
  (∀ (s : State) (u cyc : Nat) (r : Record), s.regsCanonical → sortedKeys s.acqs = true → s.boot.phase = .running → u < 512 → (s.acq u).rcd = some r →
      r.whole = true →
      ∃ t, exec (.acqRecordComplete u cyc) s = .next t ∧ (t.acq u).rcd = none ∧ t.reg .acq u 0x21 = satInc (s.reg .acq u 0x21) ∧
        (s.acqMode u = 1 → s.rf .acq u 7 31 16 = 0 → s.rf .acq u 7 15 0 ≠ 0 →
          t.acqState u = 3 ∧ (t.acq u).holdLeft = s.rf .acq u 7 15 0) ∧
        (s.acqMode u = 1 → s.rf .acq u 7 31 16 = 0 → s.rf .acq u 7 15 0 = 0 → t.acqState u = 1) ∧
        (s.acqMode u = 0 ∨ s.rf .acq u 7 31 16 ≠ 0 ∧ s.rf .acq u 7 31 16 ≤ (satInc (s.reg .acq u 0x21)).toNat → t.acqState u = 4))

/-- ACQ.ARM sets the unit's counts to 0 and puts it in ARMED, or in the continuous mode's state; a trigger waits for its frame while the unit
is armed, counts in TRIG_LOST while it is busy unless it is an event, and is ignored in IDLE and DONE (R368, R370, R377). -/
def Obligations.UnitsArmAndTrigger : Prop :=
  (∀ (s : State) (u : Nat), s.regsCanonical → sortedKeys s.acqs = true → u < 512 →
    (s.acqArm u).acqState u = (if s.acqMode u = 2 then 5 else 1) ∧
    (s.acqArm u).acq u = { Acq.fresh with detTimes := (s.acq u).detTimes } ∧
    (∀ f ∈ [0x21, 0x22, 0x23, 0x24], (s.acqArm u).reg .acq u f = 0) ∧
    ∀ v f w, v < 512 → v ≠ u → f < 65536 → w < 16 → (s.acqArm u).regAt .acq v f w = s.regAt .acq v f w) ∧
  (∀ (s : State) (u : Nat) (t : Trigger),
    (s.acqState u = 0 ∨ s.acqState u = 4 → s.acqTrigger u t = s) ∧
    (s.acqState u = 2 ∨ s.acqState u = 3 → t.cause ≠ .event → s.acqTrigger u t = s.count .acq u 0x22) ∧
    (s.acqState u = 1 ∨ s.acqState u = 5 → (s.acq u).taken = none →
      s.acqTrigger u t = s.setAcq u { s.acq u with trigs := (s.acq u).trigs ++ [t] }))

/-! ## Channels and loops -/

/-- CROSS_TIME, PROTECTION_TRIP, THERM_SRC_TRIP, RANGE_TIMEOUT and CHAN_EVENT_TRIP of a driving channel: where the rule's condition holds
and no supervision action is due beside it, TRIP_COUNT counts, TRIPPED is set, N_PROTECT is sent with the limit and its value, the trip
event fires, and ACTION decides: ZERO holds the channel at zero, SAFE stops the run, with no relay command, no test phase, no limit moving
and no inner set-point handed off, and leaves the channel TRIPPED (R71, R73-R75, R159, R205, R334). FE_ACTION and PLAUS_ACTION of a channel with one of the two due: the count is raised and the
timer or the run of implausible frames starts again, and the action sends its notice, or, where no protection limit or stale source is due
beside it, trips the channel (R185, R190, R191). -/
def Obligations.TripsAndSupervisionAct : Prop :=
  ((∀ (s : State) (c : Nat) (i : Instr) (l : Limit) (v : Word) (k : RangeChange), s.boot.phase = .running → c < 512 → s.active c = true →
      (s.chan c).supv.feDue = none → (s.chan c).supv.plDue = none →
      (i = .protectionTrip c ∧ s.protDue c = some (l, v) ∨
       i = .crossTime c ∧ s.rf .chan c 8 31 16 ≠ 0 ∧ s.inCompliance c = true ∧
         s.rf .chan c 8 31 16 * 100 ≤ (s.chan c).compFrames ∧ l = .crossTime ∧
         v = (if s.forcesCurrent c then (s.chan c).lastV else (s.chan c).lastI) ∨
       i = .thermSrcTrip c ∧ s.outerRuns c = true ∧ s.mode c = 5 ∧ 2 * s.maxAge c ≤ s.thermalAge c ∧ l = .thermSrc ∧ v = 0 ∨
       i = .rangeTimeout c ∧ (s.chan c).change = some k ∧ k.since + 2 * s.overlap c k.current k.target * 100 + 20000 ≤ s.clock ∧
         l = .range ∧ v = 0) →
      exec i s = .next (if s.rf .chan c 7 15 14 = 1 then
          let t := s.countTrip c l v 0
          t.setChan c { t.chan c with zero := true, overRuns := [0, 0, 0, 0, 0], compFrames := 0, eventTrip := none }
        else ((s.countTrip c l v 0).stopRun c).setChState c 7)) ∧
    (∀ (s : State) (c : Nat) (l : Limit) (v : Word), s.countTrip c l v 0 =
      ((((s.count .chan c 0x24).setRb .chan c 0x21 11 true).notify 0x0101 .chan c [l.code, v.toNat, 0]).fireChan c 2)) ∧
    (∀ (s : State) (c cyc : Nat), s.boot.phase = .running → c < 512 → s.active c = true →
      (s.chan c).eventTrip = some cyc → cyc ≤ s.chanCycle c → s.protDue c = none → (s.chan c).supv.feDue = none →
      (s.chan c).supv.plDue = none → sortedKeys s.chans = true →
      let u := (s.setChan c { s.chan c with eventTrip := none }).countTrip c .event 0 0
      exec (.chanEventTrip c) s = .next (if s.rf .chan c 7 15 14 = 1 then
          u.setChan c { u.chan c with zero := true, overRuns := [0, 0, 0, 0, 0], compFrames := 0, eventTrip := none }
        else (u.stopRun c).setChState c 7)) ∧
    (∀ (s : State) (c : Nat), s.regsCanonical → sortedKeys s.chans = true →
      let t := (s.stopRun c).setChState c 7
      t.chState c = 7 ∧ (t.chan c).started = false ∧ (t.chan c).relayCmd = false ∧ (t.chan c).change = none ∧ t.phase c = 0 ∧
        t.rb .profile c 0x20 4 = false ∧ t.rb .outer c 0x20 4 = false)) ∧
  ((∀ (s : State) (c : Nat) (fe : Word), s.boot.phase = .running → c < 512 → (s.chan c).supv.feDue = some fe →
      (s.chan c).supv.plDue = none → sortedKeys s.chans = true →
      let t := s.followActs c
      t = ((s.count .profile c 0x24).setRb .profile c 0x20 3 false).setChan c
        { s.chan c with supv := { (s.chan c).supv with feTimer := 0, feDue := none } } ∧
      (t.rf .profile c 0x10 15 14 = 1 → t.protDue c = none → t.thermDue c = false →
        exec (.feAction c) s = .next (t.trip c .follow fe)) ∧
      (t.rf .profile c 0x10 15 14 ≠ 1 → exec (.feAction c) s = .next (t.notify 0x0106 .chan c [fe.toNat]))) ∧
    (∀ (s : State) (c ph : Nat) (rho : Word), s.boot.phase = .running → c < 512 → (s.chan c).supv.plDue = some (ph, rho) →
      (s.chan c).supv.feDue = none →
      let t := s.plausActs c
      t = (s.count .profile c 0x25).setChan c { s.chan c with supv := { (s.chan c).supv with implausible := 0, plDue := none } } ∧
      (t.plausAction c ph = 0 → exec (.plausAction c) s = .next t) ∧
      (t.plausAction c ph = 1 → exec (.plausAction c) s = .next (t.notify 0x0107 .chan c [ph, rho.toNat])) ∧
      (2 ≤ t.plausAction c ph → t.protDue c = none → t.thermDue c = false →
        exec (.plausAction c) s = .next (t.trip c .plaus rho))))

/-- PREDICTION_HOLD after its run of predicted frames holds the loop and counts; COMPLIANCE_EXIT after 16 frames clears IN_COMPLIANCE, fires
its event and begins the recovery phase; SUPV_PHASE_END ends the start-up and recovery phases once their times have passed; THERM_SRC_LOST
of a source older than its greatest age holds the outer loop and sends its notice once; UP_RANGE and DOWN_RANGE leave the range that the
rule calls for waiting; PAIRS_TAKE_EFFECT puts the waiting pairs whose time has come into use, those of ranges that the channel has left
since apart (R114, R128, R159, R189, R201, R215, R216).
CORRECTION_EVAL on a 3.2 microsecond boundary reads the coefficients of each busy calibrated channel of its bank, where a block whose check
fails makes the set FAULTED, evaluates the pairs of those whose set stays LOADED, writes the codes of the other busy channels, and sums
anew for every channel (R231, R232, R544). -/
def Obligations.ChannelEventsAct : Prop :=
  ((∀ (s : State) (c : Nat), s.boot.phase = .running → c < 512 → s.active c = true → s.predMax c ≤ (s.chan c).predRun →
      s.rb .loop c 0x40 10 = false → exec (.predictionHold c) s = .next ((s.setRb .loop c 0x40 10 true).count .loop c 0x48)) ∧
    (∀ (s : State) (c : Nat), s.boot.phase = .running → c < 512 → s.inCompliance c = true → 16 ≤ (s.chan c).exitRun →
      exec (.complianceExit c) s = .next ((((s.setRb .chan c 0x21 12 false).setChan c
        { s.chan c with exitRun := 0, compFrames := 0 }).fireChan c 1).beginRecovery c)) ∧
    (∀ (s : State) (c : Nat), s.boot.phase = .running → c < 512 → s.chState c ≠ 6 → s.rb .loop c 0x40 10 = false →
      (s.phase c = 1 ∧ (s.chan c).supv.phaseSince + s.rf .profile c 0x14 31 16 * 10000 ≤ s.clock ∧
          ((s.chan c).supv.arrivedOnce = true ∨ s.mode c = 7) ∨
        s.phase c = 3 ∧ (s.chan c).supv.phaseSince + s.rf .profile c 0x14 15 0 * 10000 ≤ s.clock) →
      exec (.supvPhaseEnd c) s = .next (s.setRf .profile c 0x20 7 6 2)) ∧
    (∀ (s : State) (c : Nat), s.boot.phase = .running → c < 512 → s.outerRuns c = true → (s.chan c).outer.due = true →
      s.mode c = 5 → s.maxAge c < s.thermalAge c →
      let o := (s.chan c).outer
      let t := (s.setRb .outer c 0x20 7 true).setChan c { s.chan c with outer :=
        { o with sumY := 0, sumV := 0, sumI := 0, good := 0, due := false, lostSent := true } }
      exec (.thermSrcLost c) s = .next (if o.lostSent then t else t.notify 0x0105 .chan c [t.sourceAge c])) ∧
    (∀ (s : State) (c r : Nat) (current : Bool), s.boot.phase = .running → c < 512 → s.autoDecides c current = true →
      (s.upRangeTo c current = some r → exec (.upRange c current) s = .next (s.decideRange c current r)) ∧
      (s.downRangeTo c current = some r → exec (.downRange c current) s = .next (s.decideRange c current r)) ∧
      (sortedKeys s.chans = true → ((s.decideRange c current r).chan c).waiting current = some r)) ∧
    (∀ (s : State) (c : Nat) (w : PairWait), s.boot.phase = .running → c < 512 → (s.chan c).pairWaits = [w] → w.due ≤ s.now →
      sortedKeys s.chans = true →
      let mine := w.pairs.filter fun p => (s.keysInUse c).contains p.1
      ∃ t, exec (.pairsTakeEffect c) s = .next t ∧ (t.chan c).pairWaits = [] ∧
        (t.chan c).pairs = mine.foldl (fun l p => insertKey l p.1 p.2) (s.chan c).pairs ∧
        t = State.takePairs (s.setChan c { s.chan c with pairWaits := [] }) c mine w.extrap)) ∧
  (∀ (s : State) (b : Nat), s.boot.phase = .running → b < 8 → s.now / 100 % 32 = 0 →
      exec (.correctionEval b []) s = .next (((upto 64).map fun k => 64 * b + k).foldl (fun s c =>
        let t := if s.busyChan c && !s.uncal c then s.calRead c (s.rangesInUse c) else s
        if s.busyChan c && !t.uncal c && (t.calSet (t.calSetOf c)).state == 2 then t.evalChannel c
        else
          let t := t.setChan c { t.chan c with sumI := 0, sumV := 0, goodFrames := 0 }
          if s.busyChan c then t.writeCodes c else t) s)) ∧
  (∀ (s : State) (c : Nat) (ranges : List (Bool × Nat)),
      let id := s.calSetOf c
      ((s.calSet id).badBlock ranges = none → s.calRead c ranges = s) ∧
      (∀ k, (s.calSet id).badBlock ranges = some k → s.calRead c ranges = s.calFaulted id k))

/-- OUTER_UPDATE of a running outer loop at a divider frame with fresh feedback and a good frame in its period: Y_MEAN is the mean over the
good frames, the integrator is that of R151, held in compliance, in an up-range of the forced quantity and by CI_EN against its clamp, or
on the first update after a change into the mode set so that the inner set-point goes on, and the inner set-point is the control law
clamped to the outer loop's limits; it is handed off in one step, or with HANDOFF over the divider's frames (R150, R151, R154,
R156). A period without a good frame changes nothing but the fields that begin the next period (R150). -/
def Obligations.OuterLoopFollowsItsLaw : Prop :=
  ∀ (s : State) (c : Nat), s.boot.phase = .running → c < 512 → s.regsCanonical → sortedKeys s.chans = true →
    s.outerRuns c = true → (s.chan c).outer.due = true → s.feedbackFresh c = true →
    let o := (s.chan c).outer
    ((s.chan c).outer.good ≠ 0 →
      let y := meanEng o.sumY o.good
      let lo := s.reg .outer c 5
      let hi := s.reg .outer c 4
      let e := fsub o.ro y
      let base := fma (s.reg .outer c 2) e (s.feedforward c o.ro (meanEng o.sumV o.good) (meanEng o.sumI o.good))
      let begun := if o.adopt then fsub (if s.negQuadrant c then fneg o.inner else o.inner) base else s.reg .outer c 0x22
      let un := fadd base begun
      let stays := s.inCompliance c || s.forcedRising c ||
        (s.rb .outer c 0 5 && ((flt hi un && fpos e) || (flt un lo && flt e 0)))
      let integ := if stays then begun
        else fclamp lo hi (fadd begun (fmul (fmul (s.reg .outer c 3) (fmul (ofInt (s.divider c)) frame32)) e))
      let u := fclamp lo hi (fadd base integ)
      let ri := if s.negQuadrant c then fneg u else u
      ∃ t, exec (.outerUpdate c) s = .next t ∧ t.reg .outer c 0x21 = y ∧ t.reg .outer c 0x22 = integ ∧ t.reg .outer c 0x23 = u ∧
        t.rb .outer c 0x20 6 = stays ∧ (t.chan c).outer.due = false ∧ (t.chan c).outer.good = 0 ∧ (t.chan c).outer.adopt = false ∧
        (s.rb .outer c 0 6 = false → (t.chan c).outer.handOff.inner = ri) ∧
        (s.rb .outer c 0 6 = true → (t.chan c).outer.fromSp = o.inner ∧ (t.chan c).outer.toSp = ri ∧
          (t.chan c).outer.span = s.divider c ∧ (t.chan c).outer.step = 1)) ∧
    ((s.chan c).outer.good = 0 → ∃ t, exec (.outerUpdate c) s = .next t ∧ (t.chan c).outer =
        { o with sumY := 0, sumV := 0, sumI := 0, good := 0, due := false, lostSent := false } ∧
      t.reg .outer c 0x21 = s.reg .outer c 0x21 ∧ t.reg .outer c 0x22 = s.reg .outer c 0x22 ∧ t.reg .outer c 0x23 = s.reg .outer c 0x23) ∧
    (∀ (h : Outer) (k : Nat), h.step = k → 0 < k → k < h.span → h.handOff.inner =
      fadd h.fromSp (fquot (fmul (fsub h.toSp h.fromSp) (ofInt k)) (ofInt h.span)))

/-- REPET_BIN_END of a learnt bin: the bin's new value is the filtered sum of the learning law, written one bin behind and clamped to
the cap (R167). -/
def Obligations.RepetitiveBinsLearn : Prop :=
  ∀ (s : State) (c j : Nat) (sum : Word), s.boot.phase = .running → c < 512 → s.regsCanonical → sortedKeys s.chans = true → j < s.nBin c → s.nBin c ≤ 2048 →
    (s.chan c).repet.done = some (j, sum, true) → s.rb .repet c 1 31 = true →
    let r := (s.chan c).repet
    let u := fma (fquot (s.reg .repet c 2) (ofInt (s.decim c))) sum (fmul (s.reg .repet c 3) (s.bin c j))
    let v := fma (s.reg .repet c 5) (fadd r.u2 u) (fmul (s.reg .repet c 4) r.u1)
    let cap := s.reg .repet c 6
    ∃ t, exec (.repetBinEnd c) s = .next t ∧ t.bin c ((j + s.nBin c - 1) % s.nBin c) = fclamp (fneg cap) cap v ∧
      (t.chan c).repet = { r with done := none, u1 := u, u2 := r.u1 } ∧ t.rb .repet c 0x20 19 = true

/-- LOOP_UPDATE of a trained driving channel whose upstream block is good: the engine's new state copy is kept beside the old one, the
run has started, the measured delay is kept as the frame's record, and the fast block sent in its slot carries the relay command and,
where a loop or an open set-point computes it, the code (R106, R120, R121; the code in MONITOR and VECTOR is a free value, log entry
112). A late result sends a hold block instead and counts against the engine (R123). On a link that is not trained, and in HELD, the
engine does nothing: a link in TRAINING carries its training blocks, one that waits or is in reset nothing (R472, R487). -/
def Obligations.LoopUpdatesAnswerTheirSamples : Prop :=
  (∀ (s : State) (c cyc d : Nat) (up : Received) (m : Bool × Sample × Sample), s.boot.phase = .running → c < 512 →
    up.header < 4 → s.trained c = true → s.active c = true → (s.chan c).fqFrames = 0 →
    readFastBlock ((s.chan c).fq == 3) up.header (payloadIn up) = some m →
    ∃ t rv ri fr code, exec (.loopUpdate c (some up) cyc (some d) .good .ok) s = .next t ∧
      (t.chan c).wrote = true ∧ (t.chan c).started = true ∧ (t.chan c).delay = some d ∧
      (t.link c).fast = fastBlock false false (slotOf d) rv ri fr (t.chan c).relayCmd code ∧
      (t.mode c ≠ 7 → t.mode c ≠ 8 → code = (t.chan c).code)) ∧
  (∀ (s : State) (c cyc : Nat) (up : Received) (delay : Option Nat) (r : StateRead), s.boot.phase = .running → c < 512 →
    up.header < 4 →
    (s.trained c = true → s.chState c = 6 → exec (.loopUpdate c (some up) cyc delay r .ok) s = .next s) ∧
    (s.linkState c ∉ [2, 3, 4, 6] → exec (.loopUpdate c (some up) cyc delay r .ok) s = .next s) ∧
    (s.linkState c = 2 → exec (.loopUpdate c (some up) cyc delay r .ok) s = .next (s.setLink c { s.link c with
      line := (sendBlocks (s.link c).tx (s.trainingFrame c)).1, tx := (sendBlocks (s.link c).tx (s.trainingFrame c)).2 })) ∧
    (s.linkState c = 3 ∨ s.linkState c = 6 → sortedKeys s.chans = true →
      ∃ t, exec (.loopUpdate c (some up) cyc delay r .ok) s = .next t ∧ (t.chan c).cur = (s.chan c).cur ∧
        (t.chan c).started = (s.chan c).started ∧ (t.chan c).code = (s.chan c).code ∧ t.seqs = s.seqs ∧ t.acqs = s.acqs)) ∧
  (∀ (s : State) (c slot n : Nat), s.boot.phase = .running → c < 512 → slot < 16 → s.active c = true →
    s.engineOf (octetOf c) = some n →
    exec (.lateResult c slot) s = .next ((s.sendHold c slot).engineError .engineLate n))

/-- HELD_FRAME of a HELD channel whose upstream block is good sends a hold block with its slot; HELD_PROTECTION_TRIP stops a HELD
channel whose raw codes were beyond a limit for PROT_DELAY frames, no supervision action being due beside it (R536, R543; the relay bit
and the code of a hold block are free values, log entry 1). -/
def Obligations.HeldChannelsAreGuarded : Prop :=
  (∀ (s : State) (c cyc slot : Nat) (up : Received) (m : Bool × Sample × Sample), s.boot.phase = .running → c < 512 → slot < 16 →
    up.header < 4 → s.trained c = true → s.chState c = 6 → (s.chan c).fqFrames = 0 →
    readFastBlock ((s.chan c).fq == 3) up.header (payloadIn up) = some m →
    ∃ t rv ri fr relay code, exec (.heldFrame c (some up) cyc slot) s = .next t ∧
      (t.link c).fast = fastBlock true false slot rv ri fr relay code) ∧
  (∀ (s : State) (c : Nat) (overRuns : Nat), s.boot.phase = .running → c < 512 → s.chState c = 6 →
    (s.chan c).supv.feDue = none → (s.chan c).supv.plDue = none → overRuns = (s.chan c).overRuns.getD 0 0 → 0 < overRuns → s.rf .chan c 7 31 16 ≤ overRuns →
    exec (.heldProtectionTrip c) s = .next (((s.countTrip c .vHi 0 0).stopRun c).setChState c 7))

/-- RAMP_START after the relay closed makes an ARMING channel ARMED from rest; RELAY_CLOSE_TIMEOUT disarms it with N_ARM_FAILED;
DISARM_COMPLETE after the relay opened makes it READY; CHAN_CLEAR makes a TRIPPED channel READY (R75, R88-R90, R639). -/
def Obligations.ArmingRunsItsCourse : Prop :=
  (∀ (s : State) (c : Nat), s.boot.phase = .running → c < 512 → s.regsCanonical → sortedKeys s.chans = true → s.chState c = 3 → (s.chan c).ramp = .relay →
    s.relayReady c = true → s.rangesOutstanding c = false →
    ∃ t, exec (.rampStart c) s = .next t ∧ t.chState c = 4 ∧ (t.chan c).ramp = .none ∧ t.targetMove c = ⟨0, 0, 0⟩ ∧
      (s.mode c ≠ 7 → t.phase c = 1)) ∧
  (∀ (s : State) (c : Nat), s.boot.phase = .running → c < 512 → s.chState c = 3 → (s.chan c).ramp = .relay →
    s.relayReady c = false → (s.chan c).relayBy ≤ s.clock →
    exec (.relayCloseTimeout c) s = .next (((s.stopRun c).setChState c 2).notify 0x0103 .chan c [1])) ∧
  (∀ (s : State) (c since : Nat), s.boot.phase = .running → c < 512 → s.chState c = 5 → (s.chan c).undoing = .opening since →
    ((s.chan c).relay = 0 ∨ since + s.descField c 4 47 32 * 1000 ≤ s.clock) →
    exec (.disarmComplete c) s = .next ((s.stopRun c).setChState c 2)) ∧
  (∀ (s : State) (e : Envelope) (n : Nat) (x : Session) (body : List Word) (f : Word) (c : Nat),
    let r : Req := ⟨.chanClear, e, body⟩
    let a := s.admitted r n x
    InOrder s r n x → flagsAndSet .chan 0 body = .ok (f, [c]) → a.allUnlocked n .chan [c] = .ok () →
    a.noTimed .chan [c] = .ok () → a.chState c = 7 →
    exec (.chanClear e body) s = .next (s.answered r n x { state := a.setChState c 2 }))

/-- ENGINE_FRAME of a serving engine: a passed self-check makes the written copies current; a failed one puts the other copies back
and counts. FAILOVER maps the HELD octet of the bank whose engine was retired first to the bank's spare and releases its channels within
50 µs; FAILOVER_TIMEOUT makes them safe. ENGINE_RETIRE retires a serving engine whose spare is free (R532, R537-R539, R541; a firmware that
was gone before the octet was HELD does not fail it over, R538). -/
def Obligations.EnginesAreReplaced : Prop :=
  (∀ (s : State) (n o : Nat) (pass : Bool), s.boot.phase = .running → n < 72 → s.serves n = some o →
    let t := s.each (octetChannels o) fun s c => if (s.chan c).wrote then
      s.setChan c { s.chan c with wrote := false, cur := if pass then (s.chan c).cur else (s.chan c).other } else s
    exec (.engineFrame n pass) s = .next (if pass then t
      else (t.count .engine n 2).engineError .engineSelfchk n)) ∧
  (∀ (s : State) (o held : Nat), s.boot.phase = .running → o < 64 → s.engineOf o = none → s.firmwareGone o = false →
    s.takesSpare o = true → s.rf .engine (64 + o / 8) 0 3 0 = 1 → s.octetHeldSince o = some (s.clock - held) → held ≤ s.clock → held ≤ 50000 →
    exec (.failover o true) s = .next (((octetChannels o).foldl State.releaseChannel
      (s.setReg .engine (64 + o / 8) 0 (word (o * 256 + 2)))).notify 0x0502 .engine o [o, 64 + o / 8, held])) ∧
  (∀ (s : State) (o t : Nat), s.boot.phase = .running → o < 64 → s.octetHeldSince o = some t → s.engineOf o = none →
    t + 50000 ≤ s.clock →
    exec (.failoverTimeout o) s = .next ((octetChannels o).foldl (fun s c =>
      if s.chState c = 6 then s.tripSafe c .engine 0 0x0203 else s)
      ((s.logFault 0x0203 true (objCode .octet) o 1).raiseFault 31))) ∧
  (∀ (s : State) (e : Envelope) (n : Nat) (x : Session) (g : Word),
    let r : Req := ⟨.engineRetire, e, [g]⟩
    let a := s.admitted r n x
    InOrder s r n x → g.toNat < 64 → a.rf .engine g.toNat 0 3 0 = 0 → a.rf .engine (64 + g.toNat / 8) 0 3 0 = 1 →
    exec (.engineRetire e [g]) s = .next (s.answered r n x
      { state := (octetChannels g.toNat).foldl State.enterHeld
          (let t := (a.setReg .engine g.toNat 0 (word 0xFF03)).raiseFault 31
           { t with faults := { t.faults with retired := t.faults.retired ++ [g.toNat] } }) })) ∧
  (∀ (s : State) (o n : Nat), (s.faults.retired.find? fun n => decide (n < 64) && n / 8 == o / 8) = some n →
    (s.takesSpare o = true ↔ n = o))

/-- CHAN_HEAD_READ and CHAN_HEAD_WRITE queue a message to the head and are answered later; HEAD_MESSAGE_RESPONSE of a response that an
upstream frame has brought answers the request with the data words, and one that no frame has brought is none; HEAD_MESSAGE_TIMEOUT 4 µs
after the message left repeats it up to three times and then answers E_HEAD_TIMEOUT, and while it waits for its frame no time runs (R466,
R467, R469, R640). -/
def Obligations.HeadMessagesAreExchanged : Prop :=
  (∀ (s : State) (e : Envelope) (n : Nat) (x y : Session) (c k : Nat) (addr : Word),
    let r : Req := ⟨.headRead, e, [word (c * 65536 + k), addr]⟩
    let a := s.admitted r n x
    let l := a.link c
    let t := a.setLink c { l with nextTag := (l.nextTag + 1) % 256, msgs := l.msgs ++ [⟨l.nextTag, false, addr.toNat, [], k, 1, a.clock, some (n, r), true⟩] }
    InOrder s r n x → c < 512 → 1 ≤ k → k ≤ 6 → a.trained c = true → t.session n = some y →
    exec (.chanHeadRead e [word (c * 65536 + k), addr]) s = .next (State.drainHeld handle n 31
      (t.setSession n { y with executing := y.executing ++ [e.seq.toNat] }))) ∧
  (∀ (s : State) (e : Envelope) (n : Nat) (x y : Session) (c : Nat) (addr hi lo : Word),
    let r : Req := ⟨.headWrite, e, [word (c * 65536 + 1), addr, lo, hi]⟩
    let a := s.admitted r n x
    let l := a.link c
    let t := a.setLink c { l with nextTag := (l.nextTag + 1) % 256,
                                  msgs := l.msgs ++ [⟨l.nextTag, true, addr.toNat, [BitVec.ofNat 64 (dword [lo, hi] 0)], 1, 1, a.clock, some (n, r), true⟩] }
    InOrder s r n x → c < 512 → a.trained c = true → 2 ^ 31 ≤ addr.toNat → a.demandUnlocked n .chan c = .ok () → t.session n = some y →
    exec (.chanHeadWrite e [word (c * 65536 + 1), addr, lo, hi]) s = .next (State.drainHeld handle n 31
      (t.setSession n { y with executing := y.executing ++ [e.seq.toNat] }))) ∧
  (∀ (s : State) (c tag n : Nat) (words : List Block) (m : HeadMsg) (r : Req) (x : Session), s.boot.phase = .running → c < 512 →
    (s.link c).msgs.find? (fun p => p.tag == tag) = some m → m.host = some (n, r) → s.session n = some x →
    x.executing.contains r.env.seq.toNat = true →
    let got : HeadReply := ⟨m.isWrite, tag, 0, words⟩
    let t := State.endMsg (s.setLink c { s.link c with inbox := (s.link c).inbox.filter (· != got) }) c tag
    (got ∉ (s.link c).inbox → exec (.headMessageResponse c tag 0 words) s = .next s) ∧
    (got ∈ (s.link c).inbox → exec (.headMessageResponse c tag 0 words) s = .next (t.reply n x.key r 0 t.nextBoundary
      (if m.isWrite then [] else words.flatMap fun w => wordsOf 2 w.toNat)))) ∧
  (∀ (s : State) (c tag n : Nat) (m : HeadMsg) (r : Req) (x : Session), s.boot.phase = .running → c < 512 →
    (s.link c).msgs.find? (fun p => p.tag == tag) = some m →
    m.host = some (n, r) → s.session n = some x → x.executing.contains r.env.seq.toNat = true →
    (m.waits = true → exec (.headMessageTimeout c tag) s = .next s) ∧
    (m.waits = false → m.sentAt + 4000 ≤ s.clock →
    exec (.headMessageTimeout c tag) s = .next (if m.tries ≤ 3 then
        s.setLink c { s.link c with msgs := (s.link c).msgs.map fun k =>
          if k.tag == tag then { k with tries := k.tries + 1, waits := true } else k }
      else
        let t := s.setLink c { s.link c with msgs := (s.link c).msgs.filter fun p => p.tag != tag }
        let d : Denial := { err := .headTimeout, obj := objCode .chan, inst := c }
        t.reply n x.key r d.err.code t.now d.body)))

/-! ## Sequencers, sweeps and vectors -/

/-- HALT, PLAY, JUMP, LOOP, ENDLOOP, EMIT and WAIT of a channel or bank sequencer that executes that instruction at this boundary, with no
stop waiting for it, and RATE and TSET of theirs: HALT outside an underrun ends the run; PLAY of a sequencer whose point store is its own
begins the segment at its first item; JUMP, LOOP and ENDLOOP set the counters and the next instruction; WAIT begins to wait from this
boundary, or from the next after a release at it; RATE, EMIT and TSET act and go on (R262, R272-R276, R282, R299, R317; the decrement of a
counter that is 0 already is a free value, log entry 24). -/
def Obligations.SequencerInstructionsAct : Prop :=
  ∀ (s : State) (bank : Bool) (n : Nat), s.boot.phase = .running → n < (if bank then 8 else 512) →
    let q := seqRef bank n
    let x := s.seqx q
    let i := s.prog q (s.pc q)
    let go (t : State) (pc : Nat) : State := (t.setPc q pc).setSeqx q { t.seqx q with exec := true }
    s.run q = 1 → x.exec = true → x.stopNext = false → s.bndNow q = true →
    (i.op = 0 → x.underrun = none → exec (.halt bank n) s = .next ((((s.setSeqx q { x with
      exec := false, playing := false, atEnd := false, stopAtEnd := false, stopNext := false, held := s.lastValue q,
      ingress := 0 }).setRf
      q.obj q.num 0x65 31 16 0).setRun q 6).fireSeq q 7)) ∧
    (i.op = 1 → s.orphaned q = false →
      let t := ((s.setLatches q 0).setRf q.obj q.num 0x60 12 7 i.seg).setPosition q 0
      let t := t.setSeqx q { t.seqx q with exec := false, playing := true, atEnd := false, streamBase := t.streamNext q }
      let t := t.request q (t.neededKeys q (s.pc q) 0)
      (bank = true → exec (.play bank n) s = .next (t.setSeqx q { t.seqx q with left := 0 })) ∧
      (∀ k, bank = false → t.nextItem q (t.segm q i.seg) 0 = some k →
        exec (.play bank n) s = .next (t.startItem q (t.segm q i.seg) k))) ∧
    (i.op = 2 → exec (.jump bank n) s = .next (if s.condHolds q i x.done then
        go (if i.cond = 0xA then s.setSwflag q false else s) i.target
      else go s (s.pc q + 1))) ∧
    (i.op = 3 →
      let t := s.setSeqx q { x with counters := x.counters.set (i.cond % 4) (if i.arg = 0 then none else some i.arg) }
      exec (.loop bank n) s = .next (go t (t.pc q + 1))) ∧
    (i.op = 4 →
      (x.counters.getD (i.cond % 4) (some 0) = none → exec (.endloop bank n) s = .next (go s i.target)) ∧
      (∀ k, x.counters.getD (i.cond % 4) (some 0) = some (k + 1) →
        let t := s.setSeqx q { x with counters := x.counters.set (i.cond % 4) (some k) }
        exec (.endloop bank n) s = .next (go t (if k = 0 then t.pc q + 1 else i.target)))) ∧
    (i.op = 5 → ∃ t, exec (.wait bank n) s = .next t ∧ t = (((s.setSeqx q (
        let y := { x with exec := false,
                          waitFrom := if x.released = some (s.bnd q) then s.bnd q + s.bndStep q else s.bnd q }
        if bank then y else y.repeatLast)).setPhase q 0).setLatches q 0).setRun q 2) ∧
    (i.op = 6 → bank = false →
      let t := (s.setWide .seq n 0x50 2 (s.wide .seq n (8 + i.arg % 8) 2)).setPhase q 0
      exec (.rate n) s = .next (go t (t.pc q + 1))) ∧
    (i.op = 7 →
      let t := s.markers q (i.arg % 16)
      exec (.emit bank n) s = .next (go t (t.pc q + 1))) ∧
    (i.op = 8 → bank = true →
      let t := s.setSeqx q { x.settleTset (s.bnd q) with tsetNext := some (i.arg % 16, s.bnd q) }
      exec (.tset n) s = .next (go t (t.pc q + 1)))

/-- With no stop waiting for the boundary, WAIT_RELEASE leaves a WAIT whose condition holds before its ARG frames have passed, and
WAIT_TIMEOUT one whose ARG frames have passed without it; SEGMENT_END takes the decision of the segment that ended on its latches and
emits SEGEND, or ends playback where a stop with AT_END waits for it (R267, R272, R274, R276-R278, R721). Each first takes the event
deliveries that are due at the boundary. -/
def Obligations.SequencerBoundariesAct : Prop :=
  ∀ (before : State) (bank : Bool) (n : Nat), before.boot.phase = .running → n < (if bank then 8 else 512) →
    let q := seqRef bank n
    let s := before.eventsAt q
    (s.seqx q).stopNext = false →
    let x := s.seqx q
    let i := s.prog q (s.pc q)
    let go (t : State) (pc : Nat) : State := (t.setPc q pc).setSeqx q { t.seqx q with exec := true }
    (s.run q = 2 → s.bndNow q = true → x.waitFrom ≤ s.bnd q → s.condHolds q i (s.latches q) = true →
      (i.arg = 0 ∨ s.bnd q ≤ x.waitFrom + i.arg * 100) →
      let t := s.setSeqx q { x with released := some (s.bnd q) }
      let t := ((if i.cond = 0xA then t.setSwflag q false else t).setPhase q 0).setRun q 1
      exec (.waitRelease bank n) before = .next (go t (s.pc q + 1))) ∧
    (s.run q = 2 → s.bndNow q = true → s.condHolds q i (s.latches q) = false → i.arg ≠ 0 → x.waitFrom + i.arg * 100 ≤ s.bnd q →
      exec (.waitTimeout bank n) before = .next (go ((s.setPhase q 0).setRun q 1) i.target)) ∧
    (s.run q = 1 → x.playing = true → x.atEnd = true → s.bndNow q = true → x.stopAtEnd = true →
      exec (.segmentEnd bank n) before = .next (((s.setSeqx q { x with playing := false, atEnd := false, done := s.latches q }).fireSeq q 4).finishSeq q)) ∧
    (s.run q = 1 → x.playing = true → x.atEnd = true → s.bndNow q = true → x.stopAtEnd = false →
      let t := (s.setSeqx q { x with playing := false, atEnd := false, done := s.latches q }).fireSeq q 4
      let u := t.setPc q (t.pc q)
      let j := t.prog q (t.pc q)
      let v := if u.condHolds q j (t.latches q) then go (if j.cond = 0xA then u.setSwflag q false else u) j.target
        else go u (u.pc q + 1)
      v.orphaned q = false → exec (.segmentEnd bank n) before = .next v)

/-- UNDERRUN_RESUME at a boundary where the chosen PLAY's head is cached ends the underrun and starts it (R293, R294). A wanted granule
whose units have arrived and whose entries pass their check enters a free line of the cache, and the window of a bank takes its copy A; a
point granule that fails counts for its region and is regenerated (R241, R242, R254, R312). A regenerated granule of a descriptor that is
no list is written back, counted and delivered (R254); a rebuild takes the bits that DRAM has inverted, ends, and works on the region as
its use asks: the granules of points are regenerated, lists, vectors and calibration sets are checked (R546). EXPANSION_DONE of an
intact source writes the descriptor's entries into the point memory, sets LENGTH, VMIN and VMAX and makes it READY; SWEEP_LIST_WRITE
writes one entry of a list and the CRC-32 of its granule (R250, R252). -/
def Obligations.SweepsExpandAndFetchesArrive : Prop :=
  ((∀ (before : State) (bank : Bool) (n : Nat) (u : Underrun), before.boot.phase = .running → n < (if bank then 8 else 512) →
      let q := seqRef bank n
      let s := before.eventsAt q
      let x := s.seqx q
      let t := (s.setSeqx q { x with done := s.latches q }).setRun q 1
      let v := State.walk q 256 (t.takeDecision q u.pc (s.latches q))
      x.underrun = some u → x.stopNext = false → s.run q = 3 → s.resumeBoundary q u = true →
      (v.prog q (v.pc q)).op = 1 → v.headCached q (v.pc q) = true →
      let w := if u.fill.isSome then v.fireSeq q 4 else v
      exec (.underrunResume bank n) before = .next (((w.endUnderrun q).setPhase q 0).doPlay q)) ∧
    (∀ (s : State) (c key line : Nat), s.boot.phase = .running → c < 512 → key < 2 ^ 20 →
      let q := SeqRef.chan c
      let x := s.seqx q
      x.wanted.contains key = true → x.carried key = true →
      (x.has key = false → s.freeLine q = some line → (granuleOf s.points key).all intact = true →
        exec (.granuleFetch false c key [] []) s = .next (s.setSeqx q { x.unwant key with
          cache := insertKey x.cache line ⟨key, (granuleOf s.points key).map payload⟩, corrupt := x.corrupt.filter (· != key) })) ∧
      (∀ inverted, (∀ k ∈ inverted, k < 2304) → (granuleOf (decay s.points key inverted) key).all intact = false →
        let u := (State.setSeqx { s with points := decay s.points key inverted } q
          { x with units := x.units.filter fun y => y / 4 != key }).dramCheck (pointRegion key)
        (u.sweepOfGranule key).isSome = true → u.regen.contains (key, q) = false →
        exec (.granuleFetch false c key inverted []) s = .next { u with regen := u.regen ++ [(key, q)] })) ∧
    (∀ (s : State) (b key line : Nat), s.boot.phase = .running → b < 8 → key < 2 ^ 20 → sortedKeys s.bseqs = true →
      let q := SeqRef.bank b
      let x := s.seqx q
      let data := granuleOf (s.vecMem b).vectorA key
      x.wanted.contains key = true → x.has key = false → s.freeLine q = some line → data.all intact = true →
      ∃ t, exec (.granuleFetch true b key [] []) s = .next t ∧ (t.seqx q).cache = insertKey x.cache line ⟨key, data.map payload⟩ ∧
        (t.seqx q).wanted = x.wanted.filter (· != key)) ∧
    (∀ (s : State) (g d : Nat) (x : Expanded) (q : SeqRef), s.boot.phase = .running → s.regen = [(g, q)] →
      s.sweepOfGranule g = some (d, x) → x.kind ≠ 1 →
      let t := (State.writeEntries { s with regen := [] } d x ((upto 16).map fun i => 16 * g - x.base + i)).count .sweep d 0x24
      exec (.regenerationDone g []) s = .next (t.deliver q g ((granuleOf t.points g).map payload))) ∧
    (∀ (s : State) (r : Rebuild), s.boot.phase = .running →
      let t := s.rebuildReads r
      let u := { t with faults := { t.faults with rebuilding := t.faults.rebuilding.erase r.region } }
      (r.region ∉ s.faults.rebuilding → exec (.remapRebuildDone r) s = .next s) ∧
      (r.region ∈ s.faults.rebuilding →
        (1536 ≤ r.region → exec (.remapRebuildDone r) s = .next u) ∧
        (r.region < 288 → exec (.remapRebuildDone r) s = .next (u.rebuildPoints r.region)) ∧
        (288 ≤ r.region → r.region < 768 → exec (.remapRebuildDone r) s = .next (u.rebuildLists r.region)) ∧
        (768 ≤ r.region → r.region < 1280 → exec (.remapRebuildDone r) s = .next (u.rebuildVectors r.region)) ∧
        (1280 ≤ r.region → r.region < 1536 → exec (.remapRebuildDone r) s = .next (u.rebuildCal r.region)))) ∧
    (∀ (s : State) (region g d : Nat) (x : Expanded), ((s.points.map fun e => e.1 / 16).eraseDups).filter (fun k => pointRegion k == region) = [g] →
      s.sweepOfGranule g = some (d, x) → x.kind ≠ 6 → s.rebuildPoints region = (s.regenerate g []).2)) ∧
  ((∀ (s : State) (d : Nat) (e : Expanded), s.boot.phase = .running → d < 8192 → s.sweepState d = 1 →
      (s.sweep d).from? = some e → e.kind ≠ 6 → (e.kind = 1 → ∀ k, k < ceilDiv e.n 16 → (s.sweep d).listGood k = true) →
      let t := (s.setSweep d { s.sweep d with accepted := false }).setRb .sweep d 0xA 31 false
      let t := t.writeEntries d e (upto e.length)
      let span := t.valueSpan e.base e.length
      exec (.expansionDone d ⟨false, []⟩) s = .next (((((t.setReg .sweep d 0x21 (word e.length)).setReg .sweep d 0x22 span.1).setReg
        .sweep d 0x23 span.2).setReg .sweep d 0x24 0).setSweepState d 2)) ∧
    (∀ (s : State) (e : Envelope) (n : Nat) (x : Session) (d k : Nat) (w0 w1 w2 w3 : Word),
      let body : List Word := [word (d * 65536 + 1), word k, w0, w1, w2, w3]
      let r : Req := ⟨.listWrite, e, body⟩
      let a := s.admitted r n x
      let y := a.sweep d
      let granule := ((find y.sources (k / 16)).getD .fresh).put (k % 16) (payloadOf [w0, w1, w2, w3])
      InOrder s r n x → d < objCount .sweep → k < 2 ^ 24 → fld w3 8 0 = 0 → a.blockRuns .sweep d = false → a.sweepKind d = 1 →
      a.listGranules + (if (find y.sources (k / 16)).isNone then 1 else 0) ≤ 1048576 →
      exec (.sweepListWrite e body) s = .next (s.answered r n x { state := a.setSweep d { y with
        sources := insertKey y.sources (k / 16) { granule with check := listCheck granule.data } } })))

/-- VECTOR_ISSUE at a playing bank sequencer's issue boundary issues the vector of the next item: each pin that is driven takes its word,
with the state the vector names and the edges of the timing set in effect, and the next boundary lies one vector period later; a waiting
bank, none of whose pins is disarming, lets the boundary pass (R307, R317, R319, R320). PIN_RESULT_CREDIT of the last pin an issued vector
waits for, whose result the fast block of its strobe carries and which no fast block reports clamped, sets CMP_PASS, or sets CMP_FAIL, counts the pin's and the vector's failure, fires CMPF and writes a
capture entry or counts it lost (R322, R323, R325, R326). BSEQ_VEC_WRITE and BSEQ_LANE_WRITE write one vector and one lane entry into both
copies of a bank's memory; BSEQ_CAPT_READ returns the oldest entry of the capture ring and frees it (R311, R327). -/
def Obligations.VectorsAreWrittenIssuedAndCompared : Prop :=
  ((∀ (s : State) (b : Nat), s.boot.phase = .running → b < 8 →
      let q := SeqRef.bank b
      let x := s.seqx q
      x.exec = false → x.stopNext = false → s.bndNow q = true → s.run q = 1 → x.playing = true → x.atEnd = false →
      let g := s.segm q (s.segNum q)
      let k := if x.left = 0 then 0 else s.position q + 1
      let t := if k % 8 = 0 then s.request q (s.neededKeys q (s.pc q) k) else s
      t.itemCached q g k = true →
      let t := (t.setSeqx q { t.seqx q with left := t.segDwell q g k }).setPosition q k
      t.run q = 1 →
      let t := t.issueVector b (8 * g.first + k) true
      exec (.vectorIssue b) s = .next (if k + 1 < g.items q then t else t.setSeqx q { t.seqx q with atEnd := true })) ∧
    (∀ (s : State) (b : Nat), s.boot.phase = .running → b < 8 →
      let x := s.seqx (.bank b)
      x.exec = false → x.stopNext = false → s.bndNow (.bank b) = true → s.run (.bank b) = 2 →
      (∀ j, j < 64 → s.mode (64 * b + j) = 8 → s.chState (64 * b + j) ≠ 5) →
      exec (.vectorIssue b) s = .next (s.setSeqx (.bank b) { x.settleTset x.next with next := x.next + s.vecPeriod b })) ∧
    (∀ (s : State) (b v : Nat),
      let x := s.seqx (.bank b)
      let set := if s.laneEn b then s.laneSet b v else (x.settleTset x.next).tset
      ∃ y, s.issueVector b v true = s.setSeqx (.bank b) y ∧ y.next = x.next + s.vecPeriod b ∧
        ∀ j, j < 64 → s.mode (64 * b + j) = 8 → s.active (64 * b + j) = true → ∃ p ∈ y.placed, p.time = x.next ∧
          (j, s.pinWord b set j (if s.chState (64 * b + j) = 3 then 0 else s.pinState b v j)) ∈ p.pins) ∧
    (∀ (s : State) (b t j state strobe : Nat) (r : PinReport) (above below : Bool) (i : Issued), s.boot.phase = .running → b < 8 → j < 64 →
      readCompare r.result r.place = some (above, below) → readClamp r.clamp = false →
      let q := SeqRef.bank b
      let due := (t + 600) * 256 + strobe * 100
      (s.seqx q).issued.find? (fun i => i.time == t && i.waiting.any fun w => w.1 == j) = some i → i.waiting = [(j, state, strobe)] →
      due < (s.now + 100) * 256 → due ≤ (s.seqx q).next * 256 → s.chState (64 * b + j) = 4 → s.run q = 1 →
      (i.failMask = 0 → pinPasses state above below = some true →
        exec (.pinResultCredit b t j r) s =
          .next (let u := s.latch q 2; u.setSeqx q { u.seqx q with issued := (u.seqx q).issued.filter fun y => y != i })) ∧
      (pinPasses state above below = some false →
        let u := (s.latch q 4).count .bseq b (0x80 + j)
        let u := u.setSeqx q { u.seqx q with issued := (u.seqx q).issued.filter fun y => y != i }
        let u := (u.count .bseq b 0x63).fire (mkId 4 (8 * b + 5)) (s.frameCycle + (due - s.now * 256) * 3 / 512)
        let m := u.vecMem b
        exec (.pinResultCredit b t j r) s = .next (if m.capture.length < 524288 then
          u.setVecMem b { m with capture := m.capture ++ [captureEntry { i with waiting := [], failMask := i.failMask ||| 2 ^ j }] }
          else u.count .bseq b 0x64)))) ∧
  ((∀ (s : State) (e : Envelope) (n : Nat) (x : Session) (b k : Nat) (data : List Word),
      let body : List Word := word (b * 65536 + 1) :: word k :: data
      let r : Req := ⟨.vecWrite, e, body⟩
      let a := s.admitted r n x
      let m := a.vecMem b
      InOrder s r n x → b < 8 → k < 524288 → data.length = 8 → a.demandUnlocked n .bseq b = .ok () →
      (∀ w ∈ data, ∀ j, j < 8 → fld w (4 * j + 3) (4 * j) ≤ 0xC) → a.vectorsPlayed b k (k + 1) = false →
      let put (l : List (Nat × BitVec 144)) := store (store l blank (2 * k) (protect (payloadOf data))) blank (2 * k + 1)
        (protect (payloadOf (data.drop 4)))
      exec (.bseqVecWrite e body) s = .next (s.answered r n x
        { state := a.setVecMem b { m with vectorA := put m.vectorA, vectorB := put m.vectorB } }) ∧
      (∀ l : List (Nat × BitVec 144), sortedKeys l = true →
        findD (put l) blank (2 * k) = protect (payloadOf data) ∧ findD (put l) blank (2 * k + 1) = protect (payloadOf (data.drop 4)))) ∧
    (∀ (s : State) (e : Envelope) (n : Nat) (x : Session) (b k : Nat) (data : List Word),
      let body : List Word := word (b * 65536 + 1) :: word k :: data
      let r : Req := ⟨.laneWrite, e, body⟩
      let a := s.admitted r n x
      let m := a.vecMem b
      InOrder s r n x → b < 8 → k < 16384 → data.length = 4 → a.demandUnlocked n .bseq b = .ok () →
      a.vectorsPlayed b (32 * k) (32 * (k + 1)) = false →
      exec (.bseqLaneWrite e body) s = .next (s.answered r n x
        { state := a.setVecMem b { m with laneA := store m.laneA blank k (protect (payloadOf data)),
                                          laneB := store m.laneB blank k (protect (payloadOf data)) } })) ∧
    (∀ (s : State) (e : Envelope) (n : Nat) (x : Session) (b : Nat) (c : BitVec 144) (rest : List (BitVec 144)),
      let r : Req := ⟨.captRead, e, [word (b * 65536 + 1)]⟩
      let a := s.admitted r n x
      let m := a.vecMem b
      InOrder s r n x → b < 8 → m.capture = c :: rest →
      exec (.bseqCaptRead e [word (b * 65536 + 1)]) s = .next (s.answered r n x
        { state := a.setVecMem b { m with capture := rest },
          body := word ((!rest.isEmpty).toNat * 2 ^ 31 + 1) :: wordsOf 4 (c.toNat % 2 ^ 128) })))

/-- STREAM_DATAGRAM from an open session, with a right tag, LENGTH, granule count and first point and within the MTU, is answered with
STREAM_ACK: NOT_STREAMING with every granule refused where the channel's sequencer plays no stream segment, else OK with the granules
accepted, late and refused as `State.takeGranules` counts them, STREAM_NEXT and the window end, STREAM_NEXT plus the ring's size (R619,
R620; the window end of a channel that is not streaming is a free value, log entry 1). -/
def Obligations.StreamDatagramsAreAcknowledged : Prop :=
  ∀ (s : State) (e : Envelope) (code : BitVec 16) (body : List Word) (n g : Nat) (x : Session),
    let a := s.frameIn e.src.port e.src.mac
    s.boot.phase = .running → s.faults.restart = none → e.wellFormed = true → a.fitsMtu e = true → e.magic = 0x52D0 → e.version = 1 → e.kind = 6 →
    e.length.toNat = e.udpLength → e.udpLength = 40 + 4 * body.length → e.tail = [] → e.session.toNat = n →
    a.session n = some x → ofBytes ((hmacSha256 x.key (streamBytes e code body)).take 16) = e.tag.toNat →
    a.isFrozen (sessionMaster n) = false → code.toNat < 512 → e.ctl.toNat = g → 1 ≤ g → g ≤ 34 → e.atField.toNat % 16 = 0 →
    body.length = 64 * g →
    let c := code.toNat
    let b := a.setSession n { x with src := { x.src with port := e.src.port }, streamSeq := x.streamSeq + 1 }
    let t := { b with free := b.free + 1 }
    (t.streamSweep c = none → exec (.streamDatagram e code body) s =
      .next (t.streamAck e code x 1 0 0 g (t.streamNext (.chan c)) (Config.freeWord b.free).toNat)) ∧
    (∀ d, t.streamSweep c = some d →
      let ((acc, late, ref), u) := State.takeGranules c d g e.atField.toNat body (0, 0, 0) t
      exec (.streamDatagram e code body) s = .next (u.streamAck e code x 0 acc late ref (u.streamNext (.chan c))
        (u.streamNext (.chan c) + (u.ringOf d).2)))

/-! ## Head links -/

/-- A head link trains step by step: a link that waits and is ready begins at LINK_TRAINING_START, or at TRAINING_RETRY 10 ms after its
last attempt failed; each right echo, a training block of its step's type with the channel's number, within its time bound takes it one
step on, the first once the receiver has block lock; RT_MEASURED of at most 40 ns one way writes FLIGHT.ONE_WAY and the advance, the mean
round trip plus 2 ns to the nearest unit; a passed alignment check clears the range parity, makes the link IDLE, queues the first read of
the descriptor and sends the first idle frame; a right descriptor, read whole, like the one the channel holds, or its first, trains the
link, and another one makes it CHANGED and is told. A missed bound, another channel's echo, a longer flight, a failed alignment check, a
lost block lock or a refused descriptor fails the attempt: its cause is written, the waiting messages fail, the link rests, the fault is
logged, the channel is LINK_DOWN with its event and fault 22, and the first attempt after a reset also sends N_LINK_DOWN (R81, R451,
R471-R475, R477, R484, R485; the rounding of one half of the measured delay and the scrambler's first bits are free values, log entry 1). -/
def Obligations.LinksTrainStepByStep : Prop :=
  ∀ (s : State) (c : Nat), s.boot.phase = .running → c < 512 →
    let l := s.link c
    let done (t : State) : State := t.setLink c { t.link c with step := (t.link c).step + 1 }
    let fails (s : State) (cause : Nat) : State :=
      let t := (s.setRf .chan c 0x52 27 24 cause).dropMessages c
      let t := (t.setLink c { t.link c with retry := true, since := t.clock, first := false, offered := [], descRead := [] }).restLink c
      let t := t.logFault (0x0100 + cause) true (objCode .chan) c 1
      let t := (if t.chState c = 0 then t else (t.setChState c 0).fireChan c 6).raiseFault 22
      if (s.link c).first then t.notify 0x0109 .chan c [cause] else t
    (s.linkState c = 5 → s.linkReady c = true →
      let t := (s.setLink c { l with step := 0, since := s.clock, retry := false, offered := [], descRead := [], levels := [],
                                     pinLevels := [], locked := false, heard := [] }).setRf .chan c 0x52 31 28 2
      (l.retry = false → exec (.linkTrainingStart c) s = .next t) ∧
      (l.retry = true → l.since + 10000000 ≤ s.clock → exec (.trainingRetry c) s = .next t)) ∧
    (s.linkState c = 2 → s.boundMissed c = false →
      (∀ (h : Heard) (b : TrainingBlock),
        let t := s.hear c (h.headers ++ [h.block.header])
        l.step = 0 → readTraining h.block = some b → b.kind = 0xE1 →
        ((t.link c).locked = false → exec (.ts1Echo c h) s = .next t) ∧
        ((t.link c).locked = true → b.chan = c → exec (.ts1Echo c h) s = .next (done t)) ∧
        ((t.link c).locked = true → b.chan ≠ c → exec (.ts1Echo c h) s = .next (fails t 3))) ∧
      (∀ (r : Received) (b : TrainingBlock), readTraining r = some b → b.chan = c →
        (l.step = 1 → b.kind = 0xE2 → exec (.ts2Echo ⟨c, r⟩) s = .next (done (s.hear c [r.header]))) ∧
        (l.step = 3 → b.kind = 0xE3 → b.adv = l.adv % 65536 → exec (.ts3Echo c r) s = .next (done (s.hear c [r.header])))) ∧
      (∀ n, l.step = 2 → n * 5 ≤ 640 * 264 → exec (.rtMeasured c n) s = .next (done
        (let t := State.setRf { s with free := s.free + 1 } .loop c 0x43 15 0 (oneWay n s.free)
         t.setLink c { t.link c with adv := advance n, apply := (s.clock / 100 + 16) % 256 }))) ∧
      (l.step = 4 → exec (.alignmentCheck c true) s = .next (done
        (let t := (s.setChan c { s.chan c with rp := false, fq := s.fqOf c, fqFrames := 0 }).setLinkState c 3
         ((State.setLink { t with free := t.free + 2 } c { t.link c with
           tx := Config.freeWord t.free ++ (Config.freeWord (t.free + 1)).setWidth 26, descRead := [] }).queueMsg c false 0 [] 6
           none).sendIdle c 8)))) ∧
    (∀ n k, 20 * advance n ≤ 5 * n + 4224 + 10 ∧ 5 * n + 4224 ≤ 20 * advance n + 10 ∧
      264 * oneWay n k < 5 * n + 264 ∧ 5 * n < 264 * oneWay n k + 264) ∧
    (∀ b : TrainingBlock, b.kind < 256 → b.slot < 16 → b.frame < 256 → b.adv < 65536 → b.applyAt < 256 → b.chan < 65536 →
      0xE1 ≤ b.kind → b.kind ≤ 0xE3 → ∀ before, readTraining ⟨2, scramble before b.payload, before⟩ = some b) ∧
    (s.linkState c = 3 → l.descDone = true → s.boundMissed c = false → descOk l.descRead = true →
      ((∀ old, s.desc c = some old → old = l.descRead) →
        let t := { s with descs := insertKey s.descs c l.descRead }
        exec (.descriptorCheck c l.descRead) s = .next (s.linkTrained c l.descRead (t.verifyChan c))) ∧
      (∀ old, s.desc c = some old → old ≠ l.descRead →
        exec (.descriptorCheck c l.descRead) s = .next (((s.setLink c { l with offered := l.descRead }).setLinkState c 6).notify 0x010A
          .chan c [descBits l.descRead 0 31 16 * 65536 + descBits l.descRead 0 15 0, descBits l.descRead 1 63 32]))) ∧
    ((s.linkState c = 2 ∨ s.linkState c = 3) → s.boundMissed c = true → exec (.trainingTimeout c) s = .next (fails s 3)) ∧
    (s.linkState c = 2 → l.step = 2 → ∀ n, 640 * 264 < n * 5 → exec (.rtMeasured c n) s = .next (fails s 4)) ∧
    (s.linkState c = 2 → l.step = 4 → exec (.alignmentCheck c false) s = .next (fails s 5)) ∧
    (s.linkState c = 3 → l.descDone = true → s.boundMissed c = false → descOk l.descRead = false →
      exec (.descriptorCheck c l.descRead) s = .next (fails s 6)) ∧
    (l.locked = false → s.linkState c = 2 ∧ l.step ≠ 0 ∨ s.linkState c = 3 ∨ s.linkState c = 6 →
      exec (.blockLockLost c) s = .next (fails s 1)) ∧
    (s.boundMissed c = true ↔ l.since + (if s.linkState c = 3 then if l.descDone then 2000000 else 1000000
      else [220000, 222000, 230000, 232000, 240000].getD l.step 240000) < s.clock)

/-- Of a receiver without lock 64 blocks in a row with valid sync headers give it block lock, and of one with lock the sixteenth block
among the latest 64 with an invalid one takes it; every invalid header counts in SH_ERR (R451, R486). A trained link that loses block
lock, or that receives a training block, fails with cause 1: the cause and the count are written, its messages fail, the link rests, or begins to train
at once where its conditions hold, the fault is logged, the run stops, the acquisition unit aborts, the frame's delay record is kept, and
the channel is LINK_DOWN with N_LINK_DOWN, fault 22 and its event; when the link errors reach their limit the link fails with cause 2,
with N_FAULT and one log entry that counts them (R122, R471, R483-R485, R529). UPSTREAM_STATUS is descrambled first, and descrambling
undoes the scrambler x^58 + x^39 + 1 (R450); blocks with right check words give the channel the head's relay, alert, error counter and
temperature and the response they carry, and a head that begins to show ALERT raises its bank's alert; blocks with wrong ones count one
CRC error, and one link error where the frame's fast block has not counted it, and give nothing (R447, R461, R466, R483, R713).
HALERT_FALL counts, HALERT reads 1 while the line is low, and with no head that shows ALERT and ALERT_ACT only notices N_HEAD_ALERT names
the bank only; the READ of FAULT of each head that does is queued on its message lane (R447, R448). HRST_N_RISE 10 microseconds after the
line went low raises it, and every link of the bank leaves reset as for its first attempt (R445). -/
def Obligations.LinksFailAndReport : Prop :=
  (∀ (l : Link) (header : Nat),
      let heard := (decide (header = 1 ∨ header = 2) :: l.heard).take 64
      let t := l.hear header
      (l.locked = false → t = { l with heard := heard, locked := heard.length == 64 && heard.all id }) ∧
      (l.locked = true → t = if 16 ≤ (heard.filter not).length then { l with heard := [], locked := false } else { l with heard := heard })) ∧
  (∀ (s : State) (c : Nat) (headers : List Nat), s.hear c headers =
      (s.setLink c (headers.foldl Link.hear (s.link c))).countBy .chan c 0x55 (headers.filter fun h => h != 1 && h != 2).length) ∧
  (∀ (s : State) (c : Nat), s.boot.phase = .running → c < 512 → s.trained c = true →
      let down (s : State) (cause : Nat) : State :=
        let t := (((s.setRf .chan c 0x52 27 24 cause).count .chan c 0x57).dropMessages c).restLink c
        let t := if t.linkReady c then t.beginTraining c else t
        let t := if cause = 2 then t else t.logFault (0x0100 + cause) true (objCode .chan) c 1
        let t := ((t.stopRun c).acqAbort c).setChState c 0
        let t := (t.delayRecord c).setChan c { t.chan c with delay := none, fqFrames := 0 }
        ((t.notify 0x0109 .chan c [cause]).raiseFault 22).fireChan c 6
      ((s.link c).locked = false → exec (.blockLockLost c) s = .next (down s 1)) ∧
      ((s.link c).locked = true → exec (.blockLockLost c) s = .next s) ∧
      (∀ r : Received, (readTraining r).isSome = true →
        exec (.trainingBlockReceived ⟨c, r⟩) s = .next (down (s.hear c [r.header]) 1)) ∧
      (s.linkErrorsDue c = true →
        let n := (s.linkErrors c).length
        let t := { s with faults := { s.faults with errors := store s.faults.errors [] (16 * 65536 + c) [] } }
        exec (.linkCrcFail c) s = .next (down ((t.logFault 0x0102 true (objCode .chan) c n).notify 0x0501 .chan c [0x0102, n]) 2))) ∧
  ((∀ (s : State) (c : Nat) (received : List (Nat × Block)) (before : BitVec 58) (b : Block) (rest : List Block),
      s.boot.phase = .running → c < 512 → s.trained c = true →
      descrambleAll before (received.map Prod.snd) = b :: rest → statusOk (b :: rest) = true →
      let u := (s.hear c (received.map Prod.fst)).takeResponse c (b :: rest)
      let t := u.takeStatus c b
      exec (.upstreamStatus c received before) s = .next
        (if (t.chan c).alert = true ∧ (u.chan c).alert = false then t.headAlert (bankOf c) else t)) ∧
    (∀ (s : State) (c : Nat) (received : List (Nat × Block)) (before : BitVec 58), s.boot.phase = .running →
      c < 512 → s.trained c = true → statusOk (descrambleAll before (received.map Prod.snd)) = false →
      let t := (s.hear c (received.map Prod.fst)).count .chan c 0x54
      exec (.upstreamStatus c received before) s = .next (if (t.chan c).erred then t else t.linkError c)) ∧
    (∀ (s : State) (c : Nat) (b : Block), sortedKeys s.chans = true →
      let x := (s.takeStatus c b).chan c
      x.relay = (b.extractLsb' 62 2).toNat ∧ x.alert = b.getLsbD 58 ∧ x.rxErr = some (b.extractLsb' 36 4).toNat ∧
      x.temp = (if b.getLsbD 57 then (b.extractLsb' 16 16).toNat else (s.chan c).temp) ∧
      x.tempValid = ((s.chan c).tempValid || b.getLsbD 57) ∧ x.upBlock = b ∧ x.connV = (b.extractLsb' 52 4).toNat ∧
      x.connI = (b.extractLsb' 48 4).toNat) ∧
    (∀ (before : BitVec 58) (p : Block),
      (∀ i, i < 64 → (scramble before p).getLsbD i = (p.getLsbD i ^^ (scramble before p ++ before).getLsbD (i + 19) ^^
        (scramble before p ++ before).getLsbD i)) ∧
      descramble before (scramble before p) = p) ∧
    (∀ (s : State) (b low : Nat), s.boot.phase = .running → b < 8 →
      (s.clock < (s.lines b).lowUntil → exec (.halertFall b low) s = .next s) ∧
      ((s.lines b).lowUntil ≤ s.clock →
        let t := (s.count .bank b 0x42).setLines b { s.lines b with lowUntil := s.clock + low }
        (sortedKeys s.bankLines = true → 0 < low → t.derivedWord .bank b 0x41 0 = some 0x80000000#32) ∧
        ((∀ c ∈ bankChannels b, s.trained c = true → (s.chan c).alert = false) → s.rf .bank b 0x40 29 28 = 0 →
          exec (.halertFall b low) s = .next (t.notify 0x010B .bank b [0])) ∧
        (∀ c, ((bankChannels b).filter fun k => s.trained k && (s.chan k).alert) = [c] → s.rf .bank b 0x40 29 28 = 0 →
          exec (.halertFall b low) s = .next
            (State.queueMsg { t with alerts := t.alerts ++ [⟨b, [(c, (t.link c).nextTag, none)]⟩] } c false 0x00010001 [] 1 none)))) ∧
    (∀ (s : State) (b : Nat), s.boot.phase = .running → b < 8 → s.rb .bank b 0x40 31 = false → (s.lines b).high = false →
      (s.lines b).changed + 10000 ≤ s.clock →
      exec (.hrstNRise b) s = .next ((bankChannels b).foldl (fun s c =>
        (s.setLink c { s.link c with first := true, retry := false }).restLink c)
        (s.setLines b { s.lines b with high := true, changed := s.clock }))))

/-! ## Faults, freezes and the firmware -/

/-- SRAM_SCRUB counts each repaired region, and one of a record FIFO in its ECC_CORR too; FIRMWARE_REGION_VIOLATION freezes the task's
master with its cause and withdraws its requests for DRAM; DEV_THAW of a frozen
master that is no sequencer unfreezes it; DEV_MASTER_RESET of a frozen session's master ends the session; FIRMWARE_RESTART_DONE ends
a restart (R413, R524, R529, R534, R550-R552, R557, R558). -/
def Obligations.FreezesAndFaultsAct : Prop :=
  (∀ (s : State) (r : Nat), s.boot.phase = .running → r < 65536 →
    exec (.sramScrub ⟨[r], [], [], []⟩) s = .next
      ((if 32 ≤ r ∧ r < 41 then s.count .fifo (r - 32) 0x25 else s).sramError .sramSec r)) ∧
  (∀ (s : State) (task : Nat), s.boot.phase = .running → task < 4096 → s.isFrozen (0x2000 + task) = false →
    let t := { s with faults := { s.faults with frozen := insertKey s.faults.frozen (0x2000 + task) 3 }
                      arb := { s.arb with queue := s.arb.queue.filter fun q => q.master != 0x2000 + task } }
    exec (.firmwareRegionViolation task) s = .next
      ((t.logFault 0x0903 true 0 (0x2000 + task) 1).notify 0x0601 .dev 0 [0x2000 + task, 3])) ∧
  (∀ (s : State) (e : Envelope) (n m : Nat) (x : Session) (body : List Word),
    let r : Req := ⟨.thaw, e, body⟩
    let a := s.admitted r n x
    InOrder s r n x → a.frozenMaster r = .ok m → sequencerOf m = none →
    exec (.devThaw e body) s = .next (s.answered r n x
      { state := { a with faults := { a.faults with frozen := eraseKey a.faults.frozen m } } })) ∧
  (∀ (s : State) (e : Envelope) (n m : Nat) (x : Session) (body : List Word),
    let r : Req := ⟨.masterReset, e, body⟩
    let a := s.admitted r n x
    InOrder s r n x → a.frozenMaster r = .ok m → sequencerOf m = none →
    exec (.devMasterReset e body) s = .next (s.answered r n x
      { state := (if m / 4096 = 1 then a.endSession (m % 4096) 3 else a).unfreeze m })) ∧
  (∀ (s : State), s.boot.phase = .running → s.faults.restart.isSome = true →
    exec .firmwareRestartDone s = .next (State.updateFaultN { s with faults := { s.faults with restart := none } })) ∧
  (∀ (s : State), s.boot.phase = .running → (s.countFault .fwWdog 0).1 = false →
    exec (.coreWatchdog [] none) s = .next (s.countFault .fwWdog 0).2) ∧
  (∀ (s : State) (m v : Nat), s.isFrozen m = false → (s.freeze m v).isFrozen m = true ∧
    (sortedKeys s.faults.frozen = true → ((s.freeze m v).unfreeze m).isFrozen m = false))

/-- HOST_TIMEOUT after its silence disarms the arming, armed and held channels as HOST_ACT says and sends N_HOST_LOST, once; SESSION_TIMEOUT
ends a session that was silent for its time, and no other; HELD_REQUEST_EXPIRY drops requests held for 5 ms; LANTERN sends its notice at
each multiple of its period, with the last NSEQ (R559, R598, R599, R614). DIE_TEMP_MEASURE writes the die temperature; up to 95 degrees
it re-arms the warning; from 100 degrees on it warns unless it has; from 115 degrees on it also commands every arming, armed or disarming
channel safe and sets FAULT_STATUS.THERMAL (R564). -/
def Obligations.SilenceAndHeatAreNoticed : Prop :=
  ((∀ (s : State) (t : Nat), s.boot.phase = .running → s.faults.hostIdle = some t → s.rf .dev 0 0x142 31 16 ≠ 0 →
      s.faults.hostActed = false → t + s.rf .dev 0 0x142 31 16 * 10 ^ 9 < s.clock + 100 →
      let armed := (upto 512).filter fun c => [3, 4, 6].contains (s.chState c)
      let t := { s with faults := { s.faults with hostActed := true } }
      let t := match s.rf .dev 0 0x142 15 14 with
        | 0 => t
        | 2 => armed.foldl (fun s c => s.disarmChannel c true) t
        | _ => armed.foldl (fun s c => s.disarmChannel c false) t
      exec .hostTimeout s = .next (t.notify 0x0603 .dev 0 [s.rf .dev 0 0x142 15 14])) ∧
    (∀ (s : State) (n : Nat) (x : Session), s.boot.phase = .running → 1 ≤ n → n ≤ 16 → s.session n = some x →
      (x.lastValid + x.timeout * 10 ^ 9 < s.clock + 100 → exec (.sessionTimeout n) s = .next (s.endSession n 2)) ∧
      (s.clock + 100 ≤ x.lastValid + x.timeout * 10 ^ 9 → exec (.sessionTimeout n) s = .next s) ∧
      exec (.heldRequestExpiry n) s = .next (s.setSession n
        { x with held := x.held.filter fun h => decide (s.clock + 100 ≤ h.since + 5000000) })) ∧
    (∀ (s : State) (k : Nat), s.boot.phase = .running → s.rf .dev 0 0x184 31 16 ≠ 0 →
      s.now = k * (s.rf .dev 0 0x184 31 16 * 10 ^ 8) →
      exec .lantern s = .next (s.noticeAll s.host.nseq 0x0800 s.now (noticeBody 0x0800 (objCode .dev) 0 s.lanternParams)))) ∧
  (∀ (s : State) (tj : Nat), s.boot.phase = .running → tj < 65536 →
      let t := s.setRf .dev 0 0x144 31 16 tj
      (tj ≤ 23561 → exec (.dieTempMeasure tj) s = .next { t with faults := { t.faults with hot := false } }) ∧
      (23561 < tj → tj < 23882 → exec (.dieTempMeasure tj) s = .next t) ∧
      (23882 ≤ tj →
        let u := if s.faults.hot then t else
          (({ t with faults := { t.faults with hot := true } } : State).logFault 0x0801 true (objCode .dev) 0 1).notify 0x0507 .dev 0 [tj]
        exec (.dieTempMeasure tj) s = .next (if 24842 ≤ tj then
          (((upto 512).filter u.active).foldl (fun s c => s.tripSafe c .thermal) u).raiseFault 23 else u)))

/-! ## Time and SYNC -/

/-- TIME_LOAD of a whole multiple of 100 ns, with no other time source and on a quiet device, leaves the new time for the next boundary.
SYNC_CALIBRATE at an origin with free slots sends a CAL word and sets CAL_BUSY. MERIDIAN on a meridian fires its source and, at an origin
in whose calibration run no window has begun, queues TIME_HI, TIME_LO and PERIOD. On a device that is not quiet a time error and a phase
error of up to 1 µs are slewed away each for itself, and one above sets TIME_FAULT, which clears when neither is left undone. SYNC_EVENT_FIRE at or after the target frees the slot and fires its source.
SYNC_LOST 800 ns after the last edge clears PRESENT and sends N_SYNC_LOST with its fault; ALIGNED_EXPIRY 1 s later clears ALIGNED.
REFCLK_LOST outside a calibration run and with SYNC present writes HOLDOVER, counts REF_LOSS and sends N_REFCLK_LOST with its fault;
REFCLK_RELOCK ends the holdover, in the state that STATUS.TIME_FAULT and SOURCE give (R493, R495, R496, R504, R509-R511; the first window
of a run is free, log entry 1). -/
def Obligations.TimeCommandsAct : Prop :=
  (∀ (s : State) (e : Envelope) (n : Nat) (x : Session) (lo hi : Word),
    let r : Req := ⟨.timeLoad, e, [lo, hi]⟩
    let a := s.admitted r n x
    InOrder s r n x → dword [lo, hi] 0 % 100 = 0 → a.timeSource = 0 → a.quiet = true →
    exec (.timeLoad e [lo, hi]) s = .next (s.answered r n x
      { state := { a with time := { a.time with load := some (dword [lo, hi] 0) } } })) ∧
  (∀ (s : State) (e : Envelope) (n : Nat) (x : Session) (w : Word),
    let r : Req := ⟨.syncCalibrate, e, [w]⟩
    let a := s.admitted r n x
    let b := { a with free := a.free + 1 }
    let first := b.nextBoundary + 100 * Config.choice a.free
    let t := b.sendWords [syncWord 5 (w.toNat * 2 ^ 31 + first / 100 % 2 ^ 31)] false
    InOrder s r n x → w ≠ 0 → w.toNat < 32 → a.syncRole = 1 → a.events.syncTarget = [] → a.time.calRun = none →
    exec (.syncCalibrate e [w]) s = .next (s.answered r n x
      { state := State.setRb { t with time := { t.time with
          calRun := some (w.toNat, first, 0), turnSum := 0, turns := 0, answerAt := none } } .sync 0 0x20 29 true })) ∧
  (∀ (s : State), s.boot.phase = .running → s.meridianNs ≠ 0 → s.now % s.meridianNs = 0 →
    let u := s.fire (mkId 2 0) s.frameCycle
    (u.syncRole ≠ 1 → exec .meridian s = .next u) ∧
    (u.syncRole = 1 → u.calWindowNow.isSome = true → exec .meridian s = .next u) ∧
    (u.syncRole = 1 → u.calWindowNow = none → exec .meridian s = .next
      (State.sendWords { u with time := { u.time with marked := u.now } } [syncWord 2 (u.now / 2 ^ 32 % 2 ^ 32 * 16),
        syncWord 3 (u.now % 2 ^ 32 * 16), syncWord 4 (u.rf .sync 0 1 23 0 * 2 ^ 12)] false))) ∧
  (∀ (s : State) (k t : Nat), s.boot.phase = .running → k < 8 → find s.events.syncTarget k = some t → t ≤ s.now →
    exec (.syncEventFire k) s = .next (State.fire (State.busyEnds { s with events := { s.events with
      syncTarget := eraseKey s.events.syncTarget k } } (mkId 2 (k + 1)) s.frameCycle) (mkId 2 (k + 1)) s.frameCycle)) ∧
  (∀ (s : State) (t : Nat), s.boot.phase = .running → s.time.lastEdge = some t → s.rb .sync 0 0x20 31 = true → t + 800 ≤ s.clock →
    let u := s.setRb .sync 0 0x20 31 false
    let u := { u with time := { u.time with lostAt := some s.clock, slew := 0, phaseSlew := 0, alignRun := 0 } }
    exec .syncLost s = .next (((u.logFault 0x0403 true (objCode .sync) 0 1).raiseFault 26).notify 0x0403 .sync 0 [])) ∧
  (∀ (s : State) (t : Nat), s.boot.phase = .running → s.time.lostAt = some t → t + 1000000000 ≤ s.clock →
    exec .alignedExpiry s = .next (s.setRb .sync 0 0x20 30 false)) ∧
  (∀ (s : State), s.boot.phase = .running → s.time.calRun = none → s.time.lostAt = none →
    (s.time.holdover = false → exec .refclkLost s = .next ((((((({ s with time := { s.time with holdover := true } } : State).setTimeState
      3).count .time 0 0x24).logFault 0x0401 true (objCode .time) 0 1).raiseFault 26).notify 0x0402 .time 0 []))) ∧
    (s.time.holdover = true → exec .refclkRelock s = .next (({ s with time := { s.time with holdover := false } } : State).setTimeState
      (if s.rb .time 0 0x21 26 then 4 else if s.timeSource = 0 then 0 else 1)))) ∧
  (∀ (s : State) (err : Int), s.quiet = false →
    (err ≠ 0 → err.natAbs ≤ 128000 →
      (s.correctTime err).time.slew = err * 125 ∧ (s.correctTime err).time.phaseSlew = s.time.phaseSlew ∧
      (s.correctPhase err).time.phaseSlew = err * 125 ∧ (s.correctPhase err).time.slew = s.time.slew ∧
      (s.correctPhase err).time.timeOpen = s.time.timeOpen ∧
      (s.time.timeOpen = true → (s.correctPhase err).rb .time 0 0x21 26 = s.rb .time 0 0x21 26)) ∧
    (128000 < err.natAbs → s.regsCanonical →
      (s.correctTime err).rb .time 0 0x21 26 = true ∧ (s.correctPhase err).rb .time 0 0x21 26 = true))

/-- SYNC_WORD on a follower: a word whose CRC-8 is wrong counts; an EVENT word that is whole 100 ns before its target sets the target of
every slot its mask names, and a later one counts EVT_LATE once and sends N_SYNC_LATE for each. The word of a type and payload reads back
as them. SYNC_IN_EDGE on a device whose ROLE is OFF keeps the stamp of the edge and sets PRESENT; on the follower that answers in the
present window of a calibration run it is answered at the first core cycle at least 40 ns later, whose distance its turnaround adds.
CALIBRATION_WINDOW at the end of a window
records the mean round trip in a follower's own window and the mean turnaround in the one before, and the last window ends the run (R489,
R503, R506, R507, R510-R512; of a target 2^27 frames or more ahead the model takes it as past, log entry 115; the rounding of a mean, and
the mean of other than 4,096 edges, are free values, log entry 132). -/
def Obligations.SyncWordsAct : Prop :=
  (∀ (s : State) (w : BitVec 48) (cyc : Nat), s.boot.phase = .running → s.syncRole = 2 → readSyncWord w = none →
    exec (.syncWord w cyc) s = .next (s.count .sync 0 0x25)) ∧
  (∀ (s : State) (mask frame cyc : Nat), s.boot.phase = .running → s.syncRole = 2 → mask < 256 → frame < 2 ^ 28 →
    let slots := (upto 8).filter fun k => mask.testBit k
    let ahead := (frame + 2 ^ 28 - s.now / 100 % 2 ^ 28) % 2 ^ 28
    let target := s.now / 100 * 100 + ahead * 100
    (ahead < 2 ^ 27 → s.fineTime cyc + 12800 ≤ target * 128 →
      exec (.syncWord (syncWord 1 (mask * 2 ^ 28 + frame)) cyc) s = .next { s with events := { s.events with
        syncTarget := slots.foldl (fun l k => insertKey l k target) s.events.syncTarget } }) ∧
    (2 ^ 27 ≤ ahead ∨ target * 128 < s.fineTime cyc + 12800 → exec (.syncWord (syncWord 1 (mask * 2 ^ 28 + frame)) cyc) s = .next
      (slots.foldl (fun s k => s.notify 0x0404 .sync 0 [k]) (s.count .sync 0 0x26)))) ∧
  (∀ (type payload : Nat), type < 16 → payload < 2 ^ 36 → readSyncWord (syncWord type payload) = some (type, payload)) ∧
  (∀ (s : State) (stamp : Nat) (y : SyncSymbol), s.boot.phase = .running → s.syncRole = 0 →
    let t := (s.setWords .sync 0 0x27 (wordsOf 2 (stamp / 128) ++ [word (stamp % 128 * 2 ^ 25)])).setRb .sync 0 0x20 31 true
    t.syncRole = 0 →
    exec (.syncInEdge stamp y) s = .next { t with time := { t.time with lastEdge := some s.clock, lostAt := none } }) ∧
  (∀ (s : State) (stamp j f : Nat) (y : SyncSymbol), s.boot.phase = .running → s.syncRole = 2 → s.calWindowNow = some (j, f) →
    s.segPos = j → s.now * 128 ≤ stamp → s.regsCanonical →
    let at' := s.answerTo stamp
    (stamp + 5120 ≤ at' ∧ at' ≤ stamp + 5120 + 85) ∧
    ∃ t, exec (.syncInEdge stamp y) s = .next t ∧ t.time.answerAt = some at' ∧ t.time.turnSum = s.time.turnSum + (at' - stamp) ∧
      t.time.turns = s.time.turns + 1 ∧ t.reg .sync 0 0x21 = s.reg .sync 0 0x21) ∧
  (∀ (s : State) (sum answers w first done : Nat), s.boot.phase = .running → s.time.calRun = some (w, first, done) →
    first + (done + 1) * 819200 ≤ s.now →
    let mean (total edges : Nat) : Word := if edges ≠ 4096 then Config.freeWord s.free
      else if total % 4096 = 0 then word (total / 4096) else word (total / 4096 + Config.choice s.free % 2)
    let kept (f total edges : Nat) : State :=
      (State.setReg { s with free := s.free + 1 } .sync 0 f (mean total edges)).setRb .sync 0 0x20 28 true
    let t := if s.syncRole = 2 ∧ s.segPos = done then kept 0x23 sum answers
      else if s.syncRole = 2 ∧ s.segPos = done + 1 then kept 0x24 s.time.turnSum s.time.turns
      else s
    exec (.calibrationWindow sum answers) s = .next (
      if w ≤ done + 1 then State.setRb { t with time := { t.time with calRun := none } } .sync 0 0x20 29 false
      else { t with time := { t.time with calRun := some (w, first, done + 1) } }))

/-- A PTP message within the MTU that is not addressed to the device alone is passed on to the other port, event messages at the highest
priority and general ones behind the device's own; with TC_EN the residence time is added to Delay_Req and one-step Sync, and that of a
two-step Sync, kept by its source, domain and number, to its Follow_Up. A message at port A that reaches the device, of the clock's own
domain, is then handled by a clock that is on; one at port B, or of another domain, or met by a clock that is off, is not. A
master-capable device that knows no better master answers Delay_Req with Delay_Resp, to the address it came from in the carriage it came
in, sends a two-step Sync with its Follow_Up, and announces itself; a slave sends Delay_Req and keeps its departure, and takes the times
its master's Sync and Follow_Up give, less and plus their correctionFields (R497, R498, R570, R571, R573, R584, R585; the sending
priority of the clock's own general messages and the carriage of its periodic ones with no master are the model's choice, log entry
135). -/
def Obligations.PtpActs : Prop :=
  (∀ (s : State) (p : Port) (f : PtpFrame) (m : PtpMsg) (rx residence : Int), s.boot.phase = .running → f.wellFormed = true →
    m.wellFormed = true →
    let u := s.frameIn p f.src
    let t := u.ptpForward p f m residence
    (u.tooLong f.length = true → exec (.ptpMessage p f m rx residence) s = .next (u.count .port (portNum p) 0x23)) ∧
    (u.tooLong f.length = false → exec (.ptpMessage p f m rx residence) s =
      .next (if p = .a ∧ t.reaches f.dst = true ∧ t.ptpRole ≠ 0 ∧ m.domain = t.rf .time 0 0 27 20 then t.ptpHandle f m rx else t))) ∧
  (∀ (s : State) (p : Port) (f : PtpFrame) (m : PtpMsg) (residence : Int),
    (f.dst = s.ownMac → s.ptpForward p f m residence = s) ∧
    (f.dst ≠ s.ownMac →
      let mine (h : PtpHeld) : Bool := h.source == m.source && h.domain == m.domain && h.seq == m.seq
      let others := s.ptp.held.filter fun h => !mine h
      let out (held : List PtpHeld) (add : Int) : State := State.passFrame { s with ptp := { s.ptp with held := held } } p
        (if m.kind = .sync ∨ m.kind = .delayReq then 1 else 4)
        (.ptp (otherPort p) true (ptpType m.kind) f { m with correction := m.correction + add })
      (s.rb .time 0 0 11 = false → s.ptpForward p f m residence = out s.ptp.held 0) ∧
      (s.rb .time 0 0 11 = true →
        (m.kind = .delayReq ∨ m.kind = .sync ∧ m.twoStep = false → s.ptpForward p f m residence = out s.ptp.held residence) ∧
        (m.kind = .sync → m.twoStep = true →
          s.ptpForward p f m residence = out (others ++ [⟨m.source, m.domain, m.seq, residence⟩]) 0) ∧
        (∀ h, m.kind = .followUp → s.ptp.held.find? mine = some h → s.ptpForward p f m residence = out others h.residence) ∧
        (m.kind = .followUp → s.ptp.held.find? mine = none → s.ptpForward p f m residence = out others 0) ∧
        (m.kind = .announce ∨ m.kind = .delayResp → s.ptpForward p f m residence = out s.ptp.held 0)))) ∧
  (∀ (s : State) (tx : Int), s.boot.phase = .running → s.ptpRole = 2 → s.ptp.master = none →
    let (c, u) := s.ptpCarriage
    exec (.ptpTransmit .sync tx) s = .next
      ((State.groupPtp { u with ptp := { u.ptp with syncSeq := (s.ptp.syncSeq + 1) % 65536 } } c
        (u.ownPtp .sync s.ptp.syncSeq 0 0 0)).groupPtp c (u.ownPtp .followUp s.ptp.syncSeq tx 0 0)) ∧
    exec (.ptpTransmit .announce tx) s = .next
      (State.groupPtp { u with ptp := { u.ptp with announceSeq := (s.ptp.announceSeq + 1) % 65536 } } c
        (u.ownPtp .announce s.ptp.announceSeq 0 0 0))) ∧
  (∀ (s : State) (tx : Int), s.boot.phase = .running → s.ptpSlave = true →
    let (c, u) := s.ptpCarriage
    exec (.ptpTransmit .delayReq tx) s = .next
      (State.groupPtp { u with ptp := { u.ptp with reqSeq := (s.ptp.reqSeq + 1) % 65536, t3 := some (s.ptp.reqSeq, tx) } } c
        (u.ownPtp .delayReq s.ptp.reqSeq 0 0 0))) ∧
  (∀ (s : State) (c : PtpCarriage) (m : PtpMsg), s.groupPtp c m = s.send .a (if m.kind = .sync ∨ m.kind = .delayReq then 1 else 3)
    (.ptp .a false (ptpType m.kind) ⟨s.ownMac, (ptpGroup c).1, c, (ptpGroup c).2, if c = .ether then 0 else ptpPort m.kind, none,
      ptpBytes c m.kind⟩ m)) ∧
  (∀ (s : State) (f : PtpFrame) (m : PtpMsg) (rx : Int), s.ptpRole = 2 → s.ptp.master = none → m.kind = .delayReq →
    f.carriage ≠ .ether →
    s.ptpHandle f m rx = s.send .a 3 (.ptp .a false 9 ⟨s.ownMac, f.src, f.carriage, f.ip, 320, f.vlan, ptpBytes f.carriage .delayResp⟩
      (s.ownPtp .delayResp m.seq rx m.correction m.source))) ∧
  (∀ (s : State) (f : PtpFrame) (m : PtpMsg) (rx : Int), s.fromMaster m = true →
    (m.kind = .sync → m.twoStep = true →
      s.ptpHandle f m rx = { s with ptp := { s.ptp with t2 := some (m.seq, rx - m.correction) } }) ∧
    (m.kind = .followUp →
      s.ptpHandle f m rx = State.ptpOffset { s with ptp := { s.ptp with t1 := some (m.seq, m.time + m.correction) } }) ∧
    (∀ n t1 t2 d, s.ptp.t1 = some (n, t1) → s.ptp.t2 = some (n, t2) → s.ptp.meanDelay = some d → s.timeSource = 1 →
      s.ptpOffset = s.correctTime (t2 - t1 - d)))

/-! ## The ports and the ring -/

/-- A frame received on one port is passed on to the other where the ring is not blocked and its queue of 4 MiB can take it, dropped and
counted where it cannot, and goes no further where the ring is blocked (R560, R571, R573, R574). PAUSE_FRAME counts, and pauses the port
for its quanta, 512 bit times each, or ends the pause where they are 0; PAUSE_TIME_END ends it
once the time has passed. A port that loses lock or signals a fault is marked and logged and its queue emptied; N_PORT_LOST and a ring-fault frame leave by the
other port, and port B is unblocked. A port that is up again sends N_PORT_UP and a ring-restore frame, and blocking is restored. A ring
frame is passed on, empties the address table and sets or clears the unblocking (R561, R563, R574, R575). -/
def Obligations.PortsAndRingAct : Prop :=
  (∀ (s : State) (p : Port) (k : Nat) (m : OutMsg), s.boot.phase ≠ .reset →
    (s.ringBlocked = true → s.passFrame p k m = s) ∧
    (s.ringBlocked = false → 4 * 2 ^ 20 < s.queueBytes (otherPort p) + transitBytes m →
      s.passFrame p k m = s.count .port (portNum p) 0x23) ∧
    (s.ringBlocked = false → s.queueBytes (otherPort p) + transitBytes m ≤ 4 * 2 ^ 20 →
      s.passFrame p k m = (s.send (otherPort p) k m).watchQueue p)) ∧
  (∀ (s : State) (p : Port) (q : Nat), s.boot.phase ≠ .reset → 1 ≤ q → q < 65536 →
    let t := ((s.setRb .port (portNum p) 0x20 31 true).count .port (portNum p) 0x21).count .port (portNum p) 0x26
    exec (.pauseFrame p q) s = .next (
      State.setRb { t with net := { t.net with pauseEnds := insertKey t.net.pauseEnds (portNum p) (s.clock + ceilDiv (q * 512) 10) } }
        .port (portNum p) 0x20 27 true) ∧
    exec (.pauseFrame p 0) s = .next (t.endPause p)) ∧
  (∀ (s : State) (p : Port) (t : Nat), find s.net.pauseEnds (portNum p) = some t →
    exec (.pauseTimeEnd p) s = .next (if t < s.clock + 100 then s.endPause p else s)) ∧
  (∀ (s : State) (p : Port) (lock localFault remoteFault : Bool), s.rb .port (portNum p) 0x20 28 = false →
    (lock = false ∨ localFault = true ∨ remoteFault = true) →
    let k := portNum p
    let t := (((s.setRb .port k 0x20 31 lock).setRb .port k 0x20 30 localFault).setRb .port k 0x20 29 remoteFault).setRb .port k 0x20 28 true
    let t := State.watchQueue { t with host := { t.host with waiting := t.host.waiting.filter fun e => e.1 != p } } (otherPort p)
    let t := (t.logFault (0x0501 + k) true (objCode .port) k 1).raiseFault 25
    let t := (t.notifyOut (otherPort p) 0x0701 p [0x0501 + k]).setUnblocked true
    exec (.portLost p lock localFault remoteFault) s = .next (t.sendEnum ⟨otherPort p, broadcastMac, none⟩ 0x20 0 0 [])) ∧
  (∀ (s : State) (p : Port), s.rb .port (portNum p) 0x20 28 = true →
    let t := ((s.setRf .port (portNum p) 0x20 31 28 8).notify 0x0702 .port (portNum p) []).flushTable
    exec (.portUp p) s = .next ((t.sendEnum ⟨otherPort p, broadcastMac, none⟩ 0x21 0 0 []).setUnblocked false)) ∧
  (∀ (s : State) (f : EnumFrame), f.wellFormed = true → f.proto = 0xD5 →
    let t := s.frameIn f.port f.src
    let u := (t.setUnblocked true).flushTable
    let m : OutMsg := .enum (otherPort f.port) f.src f.dst f.vlan f.bytes
    t.tooLong f.bytes.length = false → s.boot.phase ≠ .reset →
    (f.type = 0x20 → exec (.ringFault f) s = .next (u.passFrame f.port 4 m)) ∧
    (f.type = 0x21 → exec (.ringRestore f) s = .next (((t.passFrame f.port 4 m).flushTable).setUnblocked false))) ∧
  (∀ s : State, s.flushTable.net.learned = [])

/-- FRAME_FORWARD of a frame within the MTU that is not the device's own passes it on, and counts a datagram with a wrong checksum that
reaches the device; a frame with a wrong FCS counts and goes nowhere, and one beyond the MTU is dropped and counted. ADDRESS_AGE_OUT drops
an address not seen for 300 s. ARP for the
device's address, a solicitation for its link-local address and an echo request of at most 1,472 bytes, 100 in each second, are
answered. DISCOVER at port A takes the position, unless a session is open, is answered, with status 3 where an open session holds another
position, and is passed on with its hop count. ASSIGN is answered, from the new address, with its status and, where that is 0, sets the
MAC and IP addresses and the chain key and announces the addresses. What the device answers leaves from its present MAC address, with the
tag of what it answers, and is laid out as the header and the payload say (R24, R570-R572, R576-R580, R583, R585, R586; the order in which
answers and the forwarded frame leave is the model's choice, log entry 39, and so is a position beyond 32, log entry 106). -/
def Obligations.FramesAndAddressesAct : Prop :=
  (∀ (s : State) (p : Port) (f : EthFrame), s.boot.phase ≠ .reset → f.wellFormed = true → f.fcsOk = false →
    exec (.frameForward p f) s = .next (s.count .port (portNum p) 0x24)) ∧
  (∀ (s : State) (p : Port) (f : EthFrame), s.boot.phase ≠ .reset → f.wellFormed = true → f.fcsOk = true →
    let t := s.frameIn p f.src
    (t.rf .dev 0 0x183 15 0 < f.length → exec (.frameForward p f) s = .next (t.count .port (portNum p) 0x23) ∧
      (∀ target, target < 2 ^ 32 → exec (.arpRequest p f target) s = .next (t.count .port (portNum p) 0x23)) ∧
      (∀ target, target < 2 ^ 128 → exec (.neighbourSolicitation p f target) s = .next (t.count .port (portNum p) 0x23))) ∧
    (f.length ≤ t.rf .dev 0 0x183 15 0 → exec (.frameForward p f) s = .next
      (State.forwardOut (if f.badChecksum = true ∧ (f.dst = t.ownMac ∨ groupMac f.dst = true) then t.count .port (portNum p) 0x23 else t)
        p f))) ∧
  (∀ (t : State) (p : Port) (f : EthFrame), (f.dst = t.ownMac → t.forwardOut p f = t) ∧
    (f.dst ≠ t.ownMac → t.forwardOut p f =
      t.passFrame p 4 (.forward (otherPort p) f.src f.dst f.etherType f.length f.vlan f.payload))) ∧
  (∀ (s : State) (mac : Nat), mac < 2 ^ 48 → exec (.addressAgeOut mac) s = .next { s with net := { s.net with
    learned := s.net.learned.filter fun e => e.mac != mac || decide (s.clock + 100 ≤ e.seen + 300 * 10 ^ 9) } }) ∧
  (∀ (s : State) (p : Port) (f : EthFrame) (target : Nat), f.wellFormed = true → target < 2 ^ 32 →
    let t := (s.frameIn p f.src).forwardOut p f
    (s.frameIn p f.src).tooLong f.length = false → s.boot.phase = .running → t.reaches f.dst = true → t.ip4 ≠ 0 → target = t.ip4 →
    exec (.arpRequest p f target) s = .next (t.send p 3 (.arp p f.src target false f.vlan))) ∧
  (∀ (s : State) (p : Port) (f : EthFrame) (target : Nat), f.wellFormed = true → target < 2 ^ 128 →
    let t := (s.frameIn p f.src).forwardOut p f
    (s.frameIn p f.src).tooLong f.length = false → s.boot.phase = .running → t.reaches f.dst = true → target = linkLocal t.ownMac →
    exec (.neighbourSolicitation p f target) s = .next (t.send p 3 (.neighbour p f.src target true f.vlan))) ∧
  (∀ (s : State) (src : Source) (v6 : Bool) (id seq : Nat) (data : List Byte), src.wellFormed = true → id < 65536 → seq < 65536 →
    data.length ≤ 1472 →
    let t := s.frameIn src.port src.mac
    t.tooLong (data.length + if v6 then 48 else 28) = false → t.boot.phase = .running → (t.net.echoes.filter fun k => decide (t.clock < k + 10 ^ 9)).length < 100 →
    exec (.echoRequest src v6 id seq data) s = .next (State.send { t with net := { t.net with
      echoes := (t.net.echoes.filter fun k => decide (t.clock < k + 10 ^ 9)) ++ [t.clock] } } src.port 3 (.echo src v6 id seq data))) ∧
  (∀ (s : State) (f : EnumFrame), s.boot.phase = .running ∨ s.boot.phase = .bootRom → f.wellFormed = true → f.proto = 0xD5 →
    f.type = 1 → f.port = .a →
    let hops := (f.hops + 1) % 256
    let t := s.frameIn .a f.src
    let u := if t.anySession then t else { t with net := { t.net with position := hops } }
    let v := (if u.assigned then u else u.setWide .dev 0 0x180 2 u.ownMac)
    let v := v.sendEnum ⟨.a, f.src, f.vlan⟩ 0x02 hops (if t.anySession = true ∧ hops ≠ t.net.position then 3 else 0) v.replyPayload
    t.tooLong f.bytes.length = false →
    exec (.discover f) s = .next (v.passFrame .a 4 (.enum .b f.src f.dst f.vlan (f.bytes.set 4 (BitVec.ofNat 8 hops))))) ∧
  (∀ (s : State) (f : EnumFrame) (status : Nat), s.boot.phase = .running ∨ s.boot.phase = .bootRom → f.wellFormed = true →
    f.proto = 0xD5 → f.type = 3 →
    let t := s.frameIn f.port f.src
    let peer : Peer := ⟨f.port, f.src, f.vlan⟩
    t.tooLong f.bytes.length = false → f.dst = t.ownMac → f.payload.length = 57 → t.assignStatus f.payload = status →
    (status ≠ 0 → exec (.assign f) s = .next (t.sendEnum peer 0x04 f.hops status [])) ∧
    (status = 0 → ∀ pre ip4 len4 ip6 len6 key, assignParts f.payload = (pre, ip4, len4, ip6, len6, key) →
      let mac := pre * 2 ^ 24 + t.net.position
      let u := ((t.setWide .dev 0 0x180 2 mac).setWords .dev 0 0x181 [word ip4, word len4]).setWords .dev 0 0x182
        (wordsOf 4 ip6 ++ [word len6])
      let u := { u with net := { u.net with chainKey := some key } }
      let u := u.sendEnum peer 0x04 f.hops 0 []
      let u := (if ip4 = 0 then u else u.send f.port 3 (.arp f.port broadcastMac ip4 true none)).send f.port 3
        (.neighbour f.port 0x333300000001 (linkLocal mac) false none)
      exec (.assign f) s = .next (if ip6 = 0 then u else u.send f.port 3 (.neighbour f.port 0x333300000001 ip6 false none)))) ∧
  (∀ (s : State) (peer : Peer) (type hops status : Nat) (payload : List Byte), s.sendEnum peer type hops status payload =
    s.sendFrame peer.port 3 ⟨s.ownMac, false, .enum peer.port s.ownMac peer.mac peer.vlan
      ([BitVec.ofNat 8 0xD5, BitVec.ofNat 8 type] ++ bytesOf 2 payload.length ++ [BitVec.ofNat 8 hops,
        BitVec.ofNat 8 s.net.position] ++ bytesOf 2 status ++ payload)⟩) ∧
  (∀ (s : State) (p : Port) (k : Nat) (key : List Byte) (dst : Source) (udp kind session seq code ctl time : Nat) (body : List Word),
    s.send p k (rmp key dst udp kind session seq code ctl time body) =
      s.sendFrame p k ⟨s.ownMac, true, rmp key dst udp kind session seq code ctl time body⟩)

/-! ## Boot and power -/

/-- The boot ROM takes an image by frames to its own address: LOAD_BEGIN of 512 bytes to 32 MiB opens a load; LOAD_DATA stores a piece at
its place, in whatever order they come; LOAD_END of an incomplete one says so and of a complete one starts the check; LOAD_QUERY reports,
and says that another load's number is not open; LOAD_ABORT discards the load that it names; the check accepts the image with its version,
or discards it and reports the result that failed (R655-R659). -/
def Obligations.ImagesAreLoaded : Prop :=
  ∀ (s : State) (f : EnumFrame), s.boot.phase = .bootRom → f.wellFormed = true →
    let t := s.frameIn f.port f.src
    let id := loadIdOf f.payload
    let arg := ofBytes ((f.payload.drop 4).take 4)
    let peer : Peer := ⟨f.port, f.src, f.vlan⟩
    f.proto = 0xD5 → f.dst = t.ownMac → t.tooLong f.bytes.length = false →
    (f.type = 0x10 → f.payload.length = 8 → id ≠ 0 → 512 ≤ arg → arg ≤ 33554432 → exec (.loadBegin f) s = .next { t with boot := { t.boot with
      loadId := some id, imageLen := arg, image := [], checking := none, accepted := false } }) ∧
    (t.boot.loadId = some id → t.boot.checking = none → t.boot.accepted = false →
      (f.type = 0x11 → arg % 1024 = 0 → arg < t.boot.imageLen → (f.payload.drop 8).length = min 1024 (t.boot.imageLen - arg) →
        exec (.loadData f) s = .next { t with boot := { t.boot with image := insertKey t.boot.image arg (f.payload.drop 8) } }) ∧
      (f.type = 0x12 → t.boot.firstMissing < t.boot.imageLen → exec (.loadEnd f) s = .next (t.loadStatus peer id 0x01)) ∧
      (f.type = 0x12 → t.boot.imageLen ≤ t.boot.firstMissing → exec (.loadEnd f) s = .next
        (State.loadStatus { t with boot := { t.boot with checking := some peer } } peer id 0x02)) ∧
      (f.type = 0x13 → exec (.loadQuery f) s = .next (t.loadStatus peer id 0x00)) ∧
      (f.type = 0x15 → exec (.loadAbort f) s = .next { t with boot := t.boot.discarded })) ∧
    (t.boot.loadId ≠ some id → (f.type = 0x13 → exec (.loadQuery f) s = .next (t.loadStatus peer id 0x21)) ∧
      (f.type = 0x15 → exec (.loadAbort f) s = .next t)) ∧
    (∀ from', s.boot.checking = some from' → s.boot.accepted = false →
      (checkImage s.boot.bytes = 0 → exec .imageCheckDone s = .next { s with boot := { s.boot with
        accepted := true, major := imageField s.boot.bytes 10 2, minor := imageField s.boot.bytes 12 2 } }) ∧
      (checkImage s.boot.bytes ≠ 0 → exec .imageCheckDone s = .next (State.loadStatus { s with boot := s.boot.discarded } from'
        (s.boot.loadId.getD 0) (checkImage s.boot.bytes))))

/-- FIRMWARE_START of an accepted image ends the sessions, the commits, the loops and the sequencers, leaves the fields of every object but
the device, the banks and the ports at their reset values, but the state of the links and of the engines, keeps the position and the
addresses, and the device runs. BOOT_ROM_START
leaves reset for the boot ROM. CONTROLLER_RESET of 1 microsecond or more, SUPPLY_DETECTOR and POWER_UP hold the device in reset: the first
with the levels of the HRST_N lines, and no words but the journal's and the engines' state, which a retirement outlives; the last with no words, no lines and the clock at 0. A fall of PWRGOOD
of a running device leaves it idle, with no conversion in progress (R535, R565, R651-R653, R660, R692; the queue of commands, which is the
model's own, is kept throughout: log entry 2; that an engine's retirement outlives a controller reset is read from R535 and R541, log
entry 136). -/
def Obligations.BootAndPowerAct : Prop :=
  (∀ (s : State) (from' : Peer), s.boot.phase = .bootRom → s.boot.accepted = true → s.boot.checking = some from' →
    ∃ t, exec .firmwareStart s = .next t ∧ t.boot.phase = .running ∧ t.pending = s.pending ∧ t.host.sessions = [] ∧
      t.commits = State.reset.commits ∧ t.chans = [] ∧ t.seqs = [] ∧ t.net = s.net ∧
      ∀ o n f w, o ≠ Obj.dev → o ≠ .bank → o ≠ .port → (o = .chan → f ≠ 0x52) → (o = .engine → f ≠ 0) → n < 65536 → f < 65536 → w < 16 →
        t.regAt o n f w = regDefault (regKey o n f w)) ∧
  (∀ (s : State), s.boot.phase = .reset → exec .bootRomStart s = .next
    (let t := (upto 8).foldl (fun s b => s.setLines b { s.lines b with lclkAt := s.clock }) s
     { t with boot := { t.boot with phase := .bootRom } })) ∧
  (∀ (s : State) (low : Nat), 1000 ≤ low → ∃ t, exec (.controllerReset low) s = .next t ∧ t.boot.phase = .reset ∧
    t.pending = s.pending ∧ t.host.sessions = [] ∧ t.bankLines = s.bankLines ∧ t.faults.retired = s.faults.retired ∧
    (s.regsCanonical → ∀ n, n < 65536 → t.regAt .engine n 0 0 = s.regAt .engine n 0 0) ∧
    ∀ o n f w, o ≠ Obj.journal → (o = .engine → f ≠ 0) → n < 65536 → f < 65536 → w < 16 → t.regAt o n f w = regDefault (regKey o n f w)) ∧
  (∀ (s : State), ∃ t, exec (.powerUp true) s = .next t ∧ t.boot.phase = .reset ∧ t.clock = 0 ∧ t.regs = [] ∧ t.bankLines = [] ∧
    t.pending = s.pending ∧ t.records.journal = State.reset.records.journal) ∧
  (∀ (s : State), s.boot.phase = .running → ∃ t, exec .pwrgoodFall s = .next t ∧ t.boot.phase = .idle ∧ t.hk.conv = none ∧
    t.commits = s.commits) ∧
  (∀ (s : State) (low : Bool), ∃ t, exec (.supplyDetector low) s = .next t ∧ t.boot.phase = .reset)

/-! ## Rules stated whole -/

/-- The resampler's phase grows by INCR in each frame; once it has reached 2^60, INPUT_SAMPLE_BOUNDARY begins the next input sample with
2^60 taken off it, and before that it does nothing (R280). -/
def Obligations.ResamplerKeepsItsPhase : Prop :=
  ∀ (s : State) (c : Nat), s.boot.phase = .running → c < 512 → (s.seqx (.chan c)).phaseAt ≤ s.now →
    let x := s.seqx (.chan c)
    State.phaseNow { s with now := s.now + 100 } c = s.phaseNow c + s.incr c ∧
    (2 ^ 60 ≤ s.phaseNow c → (s.run (.chan c) = 1 ∨ s.run (.chan c) = 2 ∨ s.run (.chan c) = 3) → x.exec = false → x.atEnd = false →
      exec (.inputSampleBoundary c) s = .next ((s.setSeqx (.chan c)
        { x with held := s.lastValue (.chan c), phase := s.phaseNow c - 2 ^ 60, phaseAt := s.now }).nextSample c)) ∧
    (s.phaseNow c < 2 ^ 60 → exec (.inputSampleBoundary c) s = .next s)

/-- A firing of a source whose one enabled route has its gate open adds 1 to the divider's count; the firing that makes it N delivers
the event to the route's consumer, sets the count to 0 and increments PASSED, and any other delivers nothing (R342). -/
def Obligations.RoutesDivideTheirFirings : Prop :=
  ∀ (s : State) (i cyc r : Nat), s.regsCanonical → r < 1024 → (s.enabledRoutes.filter fun q => s.routeSrc q == i) = [r] →
    s.rearming i cyc = false → s.gatePasses r cyc = true →
    (∀ q ∈ s.enabledRoutes, s.gateMode q = 3 → s.rf .route q 2 31 16 ≠ i) →
    let t := s.fire i cyc
    let count := s.rf .route r 0x20 15 0 + 1
    let n := s.rf .route r 4 15 0
    n < 65536 → count < 65536 →
    (n ≤ count → t.events.deliveries = s.events.deliveries ++ [⟨s.routeDst r, cyc + hopCycles i (s.routeDst r), r⟩] ∧
      t.rf .route r 0x20 15 0 = 0 ∧ t.reg .route r 0x21 = satInc (s.reg .route r 0x21)) ∧
    (count < n → t.events.deliveries = s.events.deliveries ∧ t.rf .route r 0x20 15 0 = count ∧
      t.reg .route r 0x21 = s.reg .route r 0x21)

/-- LOCK_RECLAIM from any session makes it the owner of an ORPHANED lock with a new lease, and is refused with E_NOT_ORPHANED where the
lock is not ORPHANED (R556). -/
def Obligations.ReclaimTakesOrphanedLocks : Prop :=
  ∀ (s : State) (e : Envelope) (n : Nat) (x : Session) (o : Obj) (k : Nat) (w ms : Word),
    let r : Req := ⟨.lockReclaim, e, [w, ms]⟩
    let a := s.admitted r n x
    InOrder s r n x → o ∈ [Obj.chan, .seq, .bseq] → objOfCode (fld w 31 24) = some o → fld w 23 16 = 0 → fld w 15 0 = k →
    k < objCount o → 1 ≤ ms.toNat → ms.toNat ≤ 60000 →
    (∀ i l, a.lockOn o k = some (i, l) → l.leased a.clock = false →
      exec (.lockReclaim e [w, ms]) s = .next (s.answered r n x
        { state := a.setLock i { l with owner := sessionMaster n, leaseEnds := some (a.clock + ms.toNat * 10 ^ 6) },
          body := [word i] })) ∧
    ((∀ i l, a.lockOn o k = some (i, l) → l.leased a.clock = true) →
      exec (.lockReclaim e [w, ms]) s = .next (s.turnedAway r n x { err := .notOrphaned, obj := objCode o, inst := k }))

/-! ## The whole device -/

/-- The items of an access request survive their encoding, and every body that parses is the encoding of what it parses to: no bit of a
head word and no data word is dropped (R592, R624, R629). -/
def Obligations.ItemsEncodeAndParse : Prop :=
  (∀ (items : List Item), 1 ≤ items.length → items.length ≤ 256 →
    (∀ i ∈ items, i.obj < 256 ∧ i.reserved < 128 ∧ i.inst < 65536 ∧ i.field < 65536 ∧ i.count = i.data.length ∧ i.count < 65536) →
    itemsOf true (word items.length :: encodeItems items) = .ok items) ∧
  (∀ (n : Nat) (l : List Word) (items : List Item), parseItems true n l = some items → items.length = n ∧ encodeItems items = l)

/-- No command breaks the canonical form of the word file: from every state that has it, whatever command is at the front of the queue,
the next state has it (the form is the model's own; the words it holds are the fields of R14). -/
def Obligations.EveryStepKeepsTheWordFileCanonical : Prop :=
  ∀ (s t : State), s.regsCanonical → step s = .next t → t.regsCanonical

/-- A read, a ping and the other queries change, beside the session, its replies and the counters of the ports, nothing but a freeze that
an unpaid request brings: no channel, sequencer, memory or commit, and, unless the notice of that freeze is copied to FIFO 8, no record, no
event and no register of another object; a read of the arbiter's counts first decides the slots up to now (R401, R526, R564, R590,
R597, R624, R635, R636). -/
def Obligations.QueriesChangeOnlyTheirSession : Prop :=
  ∀ (s t : State) (e : Envelope) (o : Nat) (body : List Word) (i : Instr),
    i ∈ [Instr.objRead e o body, .sessionPing e body, .devCaps e body, .devCalInfo e body, .routeSinkRead e body, .arbRead e body] →
    (∀ y ∈ s.host.sessions, y.2.held = []) → exec i s = .next t →
    let same (u : State) : Prop := t.commits = u.commits ∧ t.chans = u.chans ∧ t.seqs = u.seqs ∧ t.bseqs = u.bseqs ∧
      t.points = u.points ∧ t.sweeps = u.sweeps ∧ t.vecMems = u.vecMems ∧ t.acqs = u.acqs ∧ t.links = u.links ∧ t.time = u.time ∧
      (t.arb = u.arb ∨ ∃ n, t.arb = { u.arb with queue := u.arb.queue.filter fun q => q.master != sessionMaster n }) ∧
      t.hk = u.hk ∧ t.aouts = u.aouts ∧ t.waves = u.waves ∧ t.calSets = u.calSets ∧ t.pending = u.pending ∧
      (t.faults.frozen = u.faults.frozen ∨ u.rb .spool 0 0 24 = false → t.events = u.events ∧ t.records = u.records ∧
        ∀ p n f w, p ≠ Obj.port → p ≠ Obj.dev → n < 65536 → f < 65536 → w < 16 → t.regAt p n f w = u.regAt p n f w)
    same s ∨ i = .arbRead e body ∧ same (s.slotsTo s.slotNow)

/-- An event of one channel's loop leaves every other channel's state, the sequencers, the units, the memories and the commits as they were,
and the fields of every other object, the records and the event network too, unless a notice is copied to FIFO 8 (R101, R128, R151,
R159, R167, R189, R201, R215, R216, R401). -/
def Obligations.ChannelEventsTouchOnlyTheirChannel : Prop :=
  ∀ (s t : State) (c : Nat) (i : Instr),
    i ∈ [Instr.predictionHold c, .outerUpdate c, .thermSrcLost c, .repetBinEnd c, .supvPhaseEnd c, .upRange c true, .upRange c false,
      .downRange c true, .downRange c false, .pairsTakeEffect c, .rampStart c] →
    exec i s = .next t →
    t.seqs = s.seqs ∧ t.bseqs = s.bseqs ∧ t.points = s.points ∧ t.vecMems = s.vecMems ∧ t.acqs = s.acqs ∧ t.commits = s.commits ∧
    t.links = s.links ∧ t.pending = s.pending ∧ (∀ d, d ≠ c → t.chan d = s.chan d) ∧
    ((i = .thermSrcLost c → s.rb .spool 0 0 24 = false) → t.records = s.records ∧ t.events = s.events ∧
      ∀ o n f w, (o ∈ [Obj.chan, .profile, .outer, .repet, .loop] → n ≠ c) → o ≠ .port → o ≠ .dev → n < 65536 → f < 65536 → w < 16 →
        t.regAt o n f w = s.regAt o n f w)
end

