-- ==== Sys2Proof/Laws/Keyed.lean ====
section
/-!
SUPPORT. What the keyed lists and the word file of Machine/Ops.lean do: reading after writing, other keys untouched, the canonical
form kept.
-/

namespace Sys2Proof.Machine

/-! ## Reading after writing -/

theorem find_insertKey_same (m : List (Nat × α)) (k : Nat) (v : α) : find (insertKey m k v) k = some v := by
  induction m with
  | nil => simp [insertKey, find]
  | cons p r ih =>
    obtain ⟨a, w⟩ := p
    simp only [insertKey]
    split
    · simp [find]
    · split
      · simp [find]
      · simp [find, *]

theorem find_insertKey_other (m : List (Nat × α)) (k j : Nat) (v : α) (h : j ≠ k) :
    find (insertKey m k v) j = find m j := by
  have h' : ¬ k = j := fun e => h e.symm
  induction m with
  | nil => simp [insertKey, find, h']
  | cons p r ih =>
    obtain ⟨a, w⟩ := p
    simp only [insertKey]
    split
    · simp [find, h']
    · split
      · next e => subst e; simp [find, h']
      · simp only [find, ih]

theorem find_eraseKey_other (m : List (Nat × α)) (k j : Nat) (h : j ≠ k) : find (eraseKey m k) j = find m j := by
  induction m with
  | nil => rfl
  | cons p r ih =>
    obtain ⟨a, w⟩ := p
    simp only [eraseKey]
    split
    · next e => subst e; simp [find, h.symm]
    · simp only [find, ih]

theorem find_mapValues (f : α → α) (m : List (Nat × α)) (k : Nat) : find (mapValues f m) k = (find m k).map f := by
  induction m with
  | nil => rfl
  | cons e r ih =>
    simp only [mapValues, List.map_cons, find] at ih ⊢
    split
    · rfl
    · exact ih

theorem insertKey_insertKey (m : List (Nat × α)) (k : Nat) (v w : α) :
    insertKey (insertKey m k v) k w = insertKey m k w := by
  induction m with
  | nil => simp [insertKey]
  | cons p r ih =>
    obtain ⟨a, u⟩ := p
    simp only [insertKey]
    split
    · simp [insertKey]
    · split
      · simp [insertKey]
      · next h1 h2 => simp [insertKey, h1, h2, ih]

/-! ## Rising keys -/

/-- A key below every key of a list. -/
def below (k : Nat) (m : List (Nat × α)) : Prop := ∀ p ∈ m, k < p.1

theorem sortedKeys_cons (a : Nat) (v : α) (r : List (Nat × α)) :
    sortedKeys ((a, v) :: r) = true ↔ below a r ∧ sortedKeys r = true := by
  induction r generalizing a v with
  | nil => simp [sortedKeys, below]
  | cons p t ih =>
    obtain ⟨b, w⟩ := p
    simp only [sortedKeys, Bool.and_eq_true, decide_eq_true_eq]
    constructor
    · rintro ⟨hab, hs⟩
      refine ⟨?_, hs⟩
      intro q hq
      rcases List.mem_cons.1 hq with rfl | hq
      · exact hab
      · exact Nat.lt_trans hab (((ih b w).1 hs).1 q hq)
    · rintro ⟨hb, hs⟩
      exact ⟨hb (b, w) (List.mem_cons_self ..), hs⟩

theorem mem_insertKey {m : List (Nat × α)} {k : Nat} {v : α} {p : Nat × α} (h : p ∈ insertKey m k v) : p = (k, v) ∨ p ∈ m := by
  induction m with
  | nil => simpa [insertKey] using h
  | cons q r ih =>
    obtain ⟨a, w⟩ := q
    simp only [insertKey] at h
    split at h
    · simpa using h
    · split at h
      · rcases List.mem_cons.1 h with e | e
        · exact .inl e
        · exact .inr (List.mem_cons_of_mem _ e)
      · rcases List.mem_cons.1 h with e | e
        · exact .inr (e ▸ List.mem_cons_self ..)
        · exact (ih e).imp id (List.mem_cons_of_mem _)

theorem mem_eraseKey {m : List (Nat × α)} {k : Nat} {p : Nat × α} (h : p ∈ eraseKey m k) : p ∈ m := by
  induction m with
  | nil => exact h
  | cons q r ih =>
    obtain ⟨a, w⟩ := q
    simp only [eraseKey] at h
    split at h
    · exact List.mem_cons_of_mem _ h
    · rcases List.mem_cons.1 h with e | e
      · exact e ▸ List.mem_cons_self ..
      · exact List.mem_cons_of_mem _ (ih e)

theorem sortedKeys_insertKey {m : List (Nat × α)} (k : Nat) (v : α) (h : sortedKeys m = true) :
    sortedKeys (insertKey m k v) = true := by
  induction m with
  | nil => rfl
  | cons p r ih =>
    obtain ⟨a, w⟩ := p
    obtain ⟨ha, hr⟩ := (sortedKeys_cons a w r).1 h
    simp only [insertKey]
    split
    · next hk =>
      refine (sortedKeys_cons ..).2 ⟨?_, h⟩
      intro q hq
      rcases List.mem_cons.1 hq with rfl | hq
      · exact hk
      · exact Nat.lt_trans hk (ha q hq)
    · split
      · next e => subst e; exact (sortedKeys_cons ..).2 ⟨ha, hr⟩
      · next h1 h2 =>
        refine (sortedKeys_cons ..).2 ⟨?_, ih hr⟩
        intro q hq
        rcases mem_insertKey hq with rfl | hq
        · exact Nat.lt_of_le_of_ne (Nat.le_of_not_lt h1) h2
        · exact ha q hq

theorem sortedKeys_eraseKey {m : List (Nat × α)} (k : Nat) (h : sortedKeys m = true) : sortedKeys (eraseKey m k) = true := by
  induction m with
  | nil => rfl
  | cons p r ih =>
    obtain ⟨a, w⟩ := p
    obtain ⟨ha, hr⟩ := (sortedKeys_cons a w r).1 h
    simp only [eraseKey]
    split
    · exact hr
    · exact (sortedKeys_cons ..).2 ⟨fun q hq => ha q (mem_eraseKey hq), ih hr⟩

theorem find_eraseKey_same {m : List (Nat × α)} (k : Nat) (h : sortedKeys m = true) : find (eraseKey m k) k = none := by
  induction m with
  | nil => rfl
  | cons p r ih =>
    obtain ⟨a, w⟩ := p
    obtain ⟨ha, hr⟩ := (sortedKeys_cons a w r).1 h
    simp only [eraseKey]
    split
    · next e =>
      subst e
      clear ih h hr
      induction r with
      | nil => rfl
      | cons q t it =>
        obtain ⟨b, u⟩ := q
        have hb : a < b := ha (b, u) (List.mem_cons_self ..)
        simp only [find, Nat.ne_of_gt hb, if_false]
        exact it fun x hx => ha x (List.mem_cons_of_mem _ hx)
    · next e => simp only [find, e, if_false]; exact ih hr

/-! ## The word file -/

theorem regsWf_store {m : List (Nat × Word)} (k : Nat) (v : Word) (h : regsWf m = true) :
    regsWf (store m (regDefault k) k v) = true := by
  simp only [regsWf, Bool.and_eq_true, List.all_eq_true] at h ⊢
  obtain ⟨hs, hd⟩ := h
  unfold store
  split
  · exact ⟨sortedKeys_eraseKey k hs, fun p hp => hd p (mem_eraseKey hp)⟩
  · next hv =>
    refine ⟨sortedKeys_insertKey k v hs, fun p hp => ?_⟩
    rcases mem_insertKey hp with rfl | hp
    · simpa using hv
    · exact hd p hp

theorem regsWf_setRegAt (s : State) (o : Obj) (n f w : Nat) (v : Word) (h : regsWf s.regs = true) :
    regsWf (s.setRegAt o n f w v).regs = true := regsWf_store _ _ h

theorem findD_store_other [DecidableEq α] (m : List (Nat × α)) (d d' : α) (k j : Nat) (v : α) (h : j ≠ k) :
    findD (store m d k v) d' j = findD m d' j := by
  unfold findD store
  split
  · rw [find_eraseKey_other _ _ _ h]
  · rw [find_insertKey_other _ _ _ _ h]

theorem findD_store_same [DecidableEq α] (m : List (Nat × α)) (d : α) (k : Nat) (v : α) (h : sortedKeys m = true) :
    findD (store m d k v) d k = v := by
  unfold findD store
  split
  · next e => rw [find_eraseKey_same k h, e]; rfl
  · rw [find_insertKey_same]; rfl

/-- Two places of the word file are the same only where object, number, field and word agree. -/
theorem regKey_inj {o o' : Obj} {n n' f f' w w' : Nat} (hn : n < 65536) (hn' : n' < 65536) (hf : f < 65536) (hf' : f' < 65536)
    (hw : w < 16) (hw' : w' < 16) (h : regKey o n f w = regKey o' n' f' w') : o = o' ∧ n = n' ∧ f = f' ∧ w = w' := by
  unfold regKey at h
  have hc : objCode o = objCode o' := by omega
  refine ⟨?_, by omega, by omega, by omega⟩
  revert hc
  cases o <;> cases o' <;> simp [objCode]

theorem regAt_setRegAt_same (s : State) (o : Obj) (n f w : Nat) (v : Word) (h : regsWf s.regs = true) :
    (s.setRegAt o n f w v).regAt o n f w = v := by
  have hs : sortedKeys s.regs = true := by
    simp only [regsWf, Bool.and_eq_true] at h
    exact h.1
  exact findD_store_same _ _ _ _ hs

theorem regAt_setRegAt_other (s : State) (o o' : Obj) (n n' f f' w w' : Nat) (v : Word)
    (h : regKey o' n' f' w' ≠ regKey o n f w) : (s.setRegAt o n f w v).regAt o' n' f' w' = s.regAt o' n' f' w' :=
  findD_store_other _ _ _ _ _ _ h

/-- Fields of another object type are untouched by a write. -/
theorem regAt_setRegAt_obj (s : State) (o o' : Obj) (n n' f f' w w' : Nat) (v : Word) (h : objCode o ≠ objCode o')
    (hn : n < 65536) (hn' : n' < 65536) (hf : f < 65536) (hf' : f' < 65536) (hw : w < 16) (hw' : w' < 16) :
    (s.setRegAt o n f w v).regAt o' n' f' w' = s.regAt o' n' f' w' := by
  refine regAt_setRegAt_other _ _ _ _ _ _ _ _ _ _ fun e => h ?_
  rw [(regKey_inj hn' hn hf' hf hw' hw e).1]

end Sys2Proof.Machine
end

