-- ==== Sys2Proof/Laws/Access.lean ====
section
/-!
SUPPORT. Bit fields of sums of shifted parts, and what a write of one field comes to.
-/

namespace Sys2Proof.Machine

theorem toNat_word (n : Nat) : (word n).toNat = n % 2 ^ 32 := by simp [word]

/-- The head of an item with fields in their spans reads back. -/
theorem itemOf_head (i : Item) (data : List Word) (ho : i.obj < 256) (hr : i.reserved < 128) (hn : i.inst < 65536)
    (hf : i.field < 65536) (hc : i.count < 65536) :
    itemOf (word (i.obj * 2 ^ 24 + i.view.toNat * 2 ^ 23 + i.reserved * 2 ^ 16 + i.inst)) (word (i.field * 2 ^ 16 + i.count))
      data = { i with data := data } := by
  obtain ⟨obj, view, res, inst, field, count, d⟩ := i
  simp only at ho hr hn hf hc
  have hv : view.toNat ≤ 1 := by cases view <;> simp
  simp only [itemOf, fld, bitAt, bitsOf, toNat_word]
  congr 1
  · omega
  · rcases Bool.eq_false_or_eq_true view with rfl | rfl <;> simp <;> omega
  · omega
  · omega
  · omega
  · omega

theorem count_head (i : Item) (hc : i.count < 65536) : fld (word (i.field * 2 ^ 16 + i.count)) 15 0 = i.count := by
  simp only [fld, bitsOf, toNat_word]
  omega

theorem objCode_lt (o : Obj) : objCode o < 256 := by cases o <;> decide

theorem objOfCode_objCode (o : Obj) : objOfCode (objCode o) = some o := by cases o <;> decide

theorem objCount_le (o : Obj) : objCount o ≤ 8192 := by cases o <;> decide

/-- The one item of a request that writes one field. -/
theorem itemsOf_one (o : Obj) (n f : Nat) (ws : List Word) (hn : n < objCount o) (hf : f < 65536) (hw : ws.length ≤ 2048) :
    itemsOf true (word 1 :: encodeItems [⟨objCode o, false, 0, n, f, ws.length, ws⟩]) =
      .ok [⟨objCode o, false, 0, n, f, ws.length, ws⟩] := by
  have h1 : fld (word 1) 31 16 = 0 := by decide
  have h2 : fld (word 1) 15 0 = 1 := by decide
  have hc := objCount_le o
  have hi := itemOf_head ⟨objCode o, false, 0, n, f, ws.length, ws⟩ ws (objCode_lt o) (by simp) (by simp; omega) hf
    (by simp; omega)
  have hk := count_head ⟨objCode o, false, 0, n, f, ws.length, ws⟩ (by simp; omega)
  have hk' : fld (word (f * 65536 + ws.length)) 15 0 = ws.length := hk
  simp only at hi
  simp [itemsOf, h1, h2, encodeItems, Item.head, parseItems, hk'] at hi ⊢
  rw [hi]

/-- A write of one field that passes the checks waits for its boundary. -/
theorem handle_fieldWrite {a : State} {e : Envelope} {o : Obj} {n f : Nat} {ws : List Word} {row : FieldRow}
    (h : Accepts a e.session.toNat o n f ws row) :
    handle ⟨.write (objCode o), e, word 1 :: encodeItems [⟨objCode o, false, 0, n, f, ws.length, ws⟩]⟩ a =
      .ok { state := ((a.projected (objCode o) [⟨objCode o, false, 0, n, f, ws.length, ws⟩]).acceptExpand (a.writeOf e o n f ws)
              a).withWrite (a.writeOf e o n f ws), time := some (a.writeBoundary e o) } := by
  obtain ⟨hn, hf, hrow, hlen, ⟨hl1, hl2⟩, hres, hunl, hall, hlim⟩ := h
  have hfields : itemFields true (objCode o) 0 ⟨objCode o, false, 0, n, f, ws.length, ws⟩ = .ok (o, [(f, row)]) := by
    have hcov : fieldsCovered (fieldRowForWrite o) ws.length f ws.length = .ok [(f, row)] := by
      obtain ⟨k, hk⟩ : ∃ k, ws.length = k + 1 := ⟨ws.length - 1, by omega⟩
      rw [hk, fieldsCovered, hrow]
      simp [hlen, hk]
    simp only [itemFields, objOfCode_objCode, if_true]
    rw [if_neg (by omega), hcov]
    simp; omega
  have hdata : splitData [(f, row)] ws = [(f, row, ws)] := by
    simp [splitData, hlen]
  have hitems : itemsOf true (word 1 :: encodeItems [⟨objCode o, false, 0, n, f, ws.length, ws⟩]) = _ :=
    itemsOf_one o n f ws hn hf hl2
  simp only [handle, writeFields, objOfCode_objCode, hitems]
  simp [State.formWrites, hfields, hdata, State.checkWrite, hres, hall, hlim, require, demand, hunl, ofItem, bind, Except.bind, pure,
    Except.pure, State.each, State.withWrite, State.writeOf, fieldWords]

end Sys2Proof.Machine
end

