-- ==== Sys2Proof/Laws/PerInstr.lean ====
section
/-!
SUPPORT. Statements made for each command on its own: a well-formed request carries a well-formed envelope.
-/

set_option Elab.async false

namespace Sys2Proof.Laws

/-- The envelope a request carries; an event, a pin or a frame of the boot protocol carries none. -/
def envelopeOf : Instr → Option Envelope
  | .sessionOpen e _ => some e
  | .sessionClose e _ => some e
  | .sessionPing e _ => some e
  | .objRead e _ _ => some e
  | .objWrite e _ _ => some e
  | .objStage e _ _ => some e
  | .commit e _ => some e
  | .commitRelease _ => none
  | .groupApply _ => none
  | .discard e _ => some e
  | .devCaps e _ => some e
  | .devCalWrite e _ => some e
  | .devCalSeal e _ => some e
  | .devCalFree e _ => some e
  | .devCalInfo e _ => some e
  | .devThaw e _ => some e
  | .devMasterReset e _ => some e
  | .devFaultRead e _ => some e
  | .devNoticeRead e _ => some e
  | .arm e _ => some e
  | .armApply _ => none
  | .disarm e _ => some e
  | .chanClear e _ => some e
  | .chanHeadRead e _ => some e
  | .chanHeadWrite e _ => some e
  | .engineRetire e _ => some e
  | .seqRun e _ => some e
  | .runApply _ => none
  | .timedCommandApply _ => none
  | .seqStop e _ => some e
  | .seqResume e _ => some e
  | .bseqRun e _ => some e
  | .bseqStop e _ => some e
  | .bseqResume e _ => some e
  | .bseqVecWrite e _ => some e
  | .bseqLaneWrite e _ => some e
  | .bseqCaptRead e _ => some e
  | .sweepListWrite e _ => some e
  | .acqArm e _ => some e
  | .acqStop e _ => some e
  | .acqForce e _ => some e
  | .routeSinkRead e _ => some e
  | .routeSinkClear e _ => some e
  | .fifoFlush e _ => some e
  | .spoolRead e _ => some e
  | .spoolAck e _ => some e
  | .spoolDiscard e _ => some e
  | .journalOpen e _ => some e
  | .journalScanDone _ => none
  | .journalRead e _ => some e
  | .arbRead e _ => some e
  | .arbClear e _ => some e
  | .lockTake e _ => some e
  | .lockRenew e _ => some e
  | .lockRelease e _ => some e
  | .lockReclaim e _ => some e
  | .leaseExpiry _ => none
  | .hkRun e _ => some e
  | .hkStop e _ => some e
  | .hkConvert e _ => some e
  | .hkSlotDue _ => none
  | .hkConversionDone _ _ _ => none
  | .hkUrgentActivation _ _ => none
  | .hkPacketTimeout _ => none
  | .aoutRun e _ => some e
  | .aoutStop e _ => some e
  | .aoutWaveWrite e _ => some e
  | .aoutPlaybackStart _ _ _ _ => none
  | .aoutPlaybackEnd _ _ _ => none
  | .aoutLevel e _ _ => some e
  | .timeLoad e _ => some e
  | .syncCalibrate e _ => some e
  | .calibrationWindow _ _ => none
  | .expand e _ => some e
  | .expansionDone _ _ => none
  | .release e _ => some e
  | .clear e _ => some e
  | .swflag e _ _ => some e
  | .acceptNew e _ _ => some e
  | .faultStatus e _ => some e
  | .forceLevel e _ _ => some e
  | .rateWrite e _ _ _ => some e
  | .hrst e _ _ _ => some e
  | .lclkEn e _ _ _ => some e
  | .linkEn e _ _ _ => some e
  | .curfew e _ _ _ => some e
  | .egressEn e _ => some e
  | .logEn e _ => some e
  | .spoolSize e _ _ => some e
  | .halt _ _ => none
  | .play _ _ => none
  | .jump _ _ => none
  | .loop _ _ => none
  | .endloop _ _ => none
  | .wait _ _ => none
  | .waitRelease _ _ => none
  | .waitTimeout _ _ => none
  | .rate _ => none
  | .emit _ _ => none
  | .tset _ => none
  | .segmentEnd _ _ => none
  | .inputSampleBoundary _ => none
  | .underrunResume _ _ => none
  | .granuleFetch _ _ _ _ _ => none
  | .regenerationDone _ _ => none
  | .remapRebuildDone _ => none
  | .streamDatagram e _ _ => some e
  | .vectorIssue _ => none
  | .pinResultCredit _ _ _ _ => none
  | .loopUpdate _ _ _ _ _ _ => none
  | .lateResult _ _ => none
  | .predictionHold _ => none
  | .complianceExit _ => none
  | .crossTime _ => none
  | .protectionTrip _ => none
  | .chanEventTrip _ => none
  | .outerUpdate _ => none
  | .thermSrcLost _ => none
  | .thermSrcTrip _ => none
  | .repetBinEnd _ => none
  | .feAction _ => none
  | .plausAction _ => none
  | .supvPhaseEnd _ => none
  | .rangeTimeout _ => none
  | .upRange _ _ => none
  | .downRange _ _ => none
  | .correctionEval _ _ => none
  | .pairsTakeEffect _ => none
  | .rampStart _ => none
  | .relayCloseTimeout _ => none
  | .disarmComplete _ => none
  | .upstreamStatus _ _ _ => none
  | .halertFall _ _ => none
  | .linkTrainingStart _ => none
  | .trainingRetry _ => none
  | .ts1Echo _ _ => none
  | .ts2Echo _ => none
  | .rtMeasured _ _ => none
  | .ts3Echo _ _ => none
  | .alignmentCheck _ _ => none
  | .descriptorCheck _ _ => none
  | .trainingTimeout _ => none
  | .linkCrcFail _ => none
  | .blockLockLost _ => none
  | .trainingBlockReceived _ => none
  | .headMessageResponse _ _ _ _ => none
  | .headMessageTimeout _ _ => none
  | .heldFrame _ _ _ _ => none
  | .heldProtectionTrip _ => none
  | .engineFrame _ _ => none
  | .failover _ _ => none
  | .failoverTimeout _ => none
  | .sramScrub _ => none
  | .dramRequest _ _ _ _ => none
  | .firmwareRegionViolation _ => none
  | .arbGrantLate _ _ => none
  | .starvation _ _ => none
  | .quadReturn _ _ => none
  | .tableSwap _ => none
  | .trigInputEdge _ _ _ _ => none
  | .eventDelivery _ _ => none
  | .trigPulseEnd _ _ => none
  | .meridian => none
  | .syncWord _ _ => none
  | .syncEventFire _ => none
  | .syncLost => none
  | .ptpMessage _ _ _ _ _ => none
  | .refclkLost => none
  | .refclkRelock => none
  | .acqRecordComplete _ _ => none
  | .acqHoldoffEnd _ => none
  | .detectionStart _ _ => none
  | .detectionEnd _ _ => none
  | .patternFire _ _ => none
  | .flushTime _ => none
  | .packetToRing _ _ _ => none
  | .spoolWrite _ _ => none
  | .spoolResume => none
  | .egressDatagram _ => none
  | .egressFlushTimeout => none
  | .pauseFrame _ _ => none
  | .journalTake _ => none
  | .journalMaxAge => none
  | .journalProgramDone => none
  | .journalProgramFail _ => none
  | .coreWatchdog _ _ => none
  | .hostTimeout => none
  | .sessionTimeout _ => none
  | .heldRequestExpiry _ => none
  | .lantern => none
  | .portLost _ _ _ _ => none
  | .ringFault _ => none
  | .portUp _ => none
  | .ringRestore _ => none
  | .frameForward _ _ => none
  | .addressAgeOut _ => none
  | .arpRequest _ _ _ => none
  | .neighbourSolicitation _ _ _ => none
  | .echoRequest _ _ _ _ _ => none
  | .dieTempMeasure _ => none
  | .pwrgoodFall => none
  | .supplyDetector _ => none
  | .controllerReset _ => none
  | .powerUp _ => none
  | .bootRomStart => none
  | .discover _ => none
  | .assign _ => none
  | .loadBegin _ => none
  | .loadData _ => none
  | .loadEnd _ => none
  | .loadQuery _ => none
  | .loadAbort _ => none
  | .imageCheckDone => none
  | .firmwareStart => none
  | .syncInEdge _ _ => none
  | .alignedExpiry => none
  | .pauseTimeEnd _ => none
  | .hrstNRise _ => none
  | .aoutUpdateInstant _ _ _ => none
  | .journalEraseDone _ => none
  | .firmwareRestartDone => none
  | .ptpTransmit _ _ => none

/-- The first of two checks that both hold. -/
theorem left {a b : Bool} (h : (a && b) = true) : a = true := (Bool.and_eq_true_iff.mp h).1

namespace EnvelopeFormed

/-- A well-formed command's envelope is well-formed. -/
def Statement (i : Instr) : Prop := i.wellFormed = true → ∀ e, envelopeOf i = some e → e.wellFormed = true

theorem sessionOpen (e : Envelope) (body : List Word) : Statement (.sessionOpen e body) := fun h _ he => Option.some.inj he ▸ h

theorem sessionClose (e : Envelope) (body : List Word) : Statement (.sessionClose e body) := fun h _ he => Option.some.inj he ▸ h

theorem sessionPing (e : Envelope) (body : List Word) : Statement (.sessionPing e body) := fun h _ he => Option.some.inj he ▸ h

theorem objRead (e : Envelope) (obj : Nat) (body : List Word) : Statement (.objRead e obj body) := fun h _ he => Option.some.inj he ▸ (left h)

theorem objWrite (e : Envelope) (obj : Nat) (body : List Word) : Statement (.objWrite e obj body) := fun h _ he => Option.some.inj he ▸ (left h)

theorem objStage (e : Envelope) (obj : Nat) (body : List Word) : Statement (.objStage e obj body) := fun h _ he => Option.some.inj he ▸ (left h)

theorem commit (e : Envelope) (body : List Word) : Statement (.commit e body) := fun h _ he => Option.some.inj he ▸ h

theorem commitRelease (num : Nat) : Statement (.commitRelease num) := fun _ _ he => nomatch he

theorem groupApply (t : Nat) : Statement (.groupApply t) := fun _ _ he => nomatch he

theorem discard (e : Envelope) (body : List Word) : Statement (.discard e body) := fun h _ he => Option.some.inj he ▸ h

theorem devCaps (e : Envelope) (body : List Word) : Statement (.devCaps e body) := fun h _ he => Option.some.inj he ▸ h

theorem devCalWrite (e : Envelope) (body : List Word) : Statement (.devCalWrite e body) := fun h _ he => Option.some.inj he ▸ h

theorem devCalSeal (e : Envelope) (body : List Word) : Statement (.devCalSeal e body) := fun h _ he => Option.some.inj he ▸ h

theorem devCalFree (e : Envelope) (body : List Word) : Statement (.devCalFree e body) := fun h _ he => Option.some.inj he ▸ h

theorem devCalInfo (e : Envelope) (body : List Word) : Statement (.devCalInfo e body) := fun h _ he => Option.some.inj he ▸ h

theorem devThaw (e : Envelope) (body : List Word) : Statement (.devThaw e body) := fun h _ he => Option.some.inj he ▸ h

theorem devMasterReset (e : Envelope) (body : List Word) : Statement (.devMasterReset e body) := fun h _ he => Option.some.inj he ▸ h

theorem devFaultRead (e : Envelope) (body : List Word) : Statement (.devFaultRead e body) := fun h _ he => Option.some.inj he ▸ h

theorem devNoticeRead (e : Envelope) (body : List Word) : Statement (.devNoticeRead e body) := fun h _ he => Option.some.inj he ▸ h

theorem arm (e : Envelope) (body : List Word) : Statement (.arm e body) := fun h _ he => Option.some.inj he ▸ h

theorem armApply (id : Nat) : Statement (.armApply id) := fun _ _ he => nomatch he

theorem disarm (e : Envelope) (body : List Word) : Statement (.disarm e body) := fun h _ he => Option.some.inj he ▸ h

theorem chanClear (e : Envelope) (body : List Word) : Statement (.chanClear e body) := fun h _ he => Option.some.inj he ▸ h

theorem chanHeadRead (e : Envelope) (body : List Word) : Statement (.chanHeadRead e body) := fun h _ he => Option.some.inj he ▸ h

theorem chanHeadWrite (e : Envelope) (body : List Word) : Statement (.chanHeadWrite e body) := fun h _ he => Option.some.inj he ▸ h

theorem engineRetire (e : Envelope) (body : List Word) : Statement (.engineRetire e body) := fun h _ he => Option.some.inj he ▸ h

theorem seqRun (e : Envelope) (body : List Word) : Statement (.seqRun e body) := fun h _ he => Option.some.inj he ▸ h

theorem runApply (id : Nat) : Statement (.runApply id) := fun _ _ he => nomatch he

theorem timedCommandApply (id : Nat) : Statement (.timedCommandApply id) := fun _ _ he => nomatch he

theorem seqStop (e : Envelope) (body : List Word) : Statement (.seqStop e body) := fun h _ he => Option.some.inj he ▸ h

theorem seqResume (e : Envelope) (body : List Word) : Statement (.seqResume e body) := fun h _ he => Option.some.inj he ▸ h

theorem bseqRun (e : Envelope) (body : List Word) : Statement (.bseqRun e body) := fun h _ he => Option.some.inj he ▸ h

theorem bseqStop (e : Envelope) (body : List Word) : Statement (.bseqStop e body) := fun h _ he => Option.some.inj he ▸ h

theorem bseqResume (e : Envelope) (body : List Word) : Statement (.bseqResume e body) := fun h _ he => Option.some.inj he ▸ h

theorem bseqVecWrite (e : Envelope) (body : List Word) : Statement (.bseqVecWrite e body) := fun h _ he => Option.some.inj he ▸ h

theorem bseqLaneWrite (e : Envelope) (body : List Word) : Statement (.bseqLaneWrite e body) := fun h _ he => Option.some.inj he ▸ h

theorem bseqCaptRead (e : Envelope) (body : List Word) : Statement (.bseqCaptRead e body) := fun h _ he => Option.some.inj he ▸ h

theorem sweepListWrite (e : Envelope) (body : List Word) : Statement (.sweepListWrite e body) := fun h _ he => Option.some.inj he ▸ h

theorem acqArm (e : Envelope) (body : List Word) : Statement (.acqArm e body) := fun h _ he => Option.some.inj he ▸ h

theorem acqStop (e : Envelope) (body : List Word) : Statement (.acqStop e body) := fun h _ he => Option.some.inj he ▸ h

theorem acqForce (e : Envelope) (body : List Word) : Statement (.acqForce e body) := fun h _ he => Option.some.inj he ▸ h

theorem routeSinkRead (e : Envelope) (body : List Word) : Statement (.routeSinkRead e body) := fun h _ he => Option.some.inj he ▸ h

theorem routeSinkClear (e : Envelope) (body : List Word) : Statement (.routeSinkClear e body) := fun h _ he => Option.some.inj he ▸ h

theorem fifoFlush (e : Envelope) (body : List Word) : Statement (.fifoFlush e body) := fun h _ he => Option.some.inj he ▸ h

theorem spoolRead (e : Envelope) (body : List Word) : Statement (.spoolRead e body) := fun h _ he => Option.some.inj he ▸ h

theorem spoolAck (e : Envelope) (body : List Word) : Statement (.spoolAck e body) := fun h _ he => Option.some.inj he ▸ h

theorem spoolDiscard (e : Envelope) (body : List Word) : Statement (.spoolDiscard e body) := fun h _ he => Option.some.inj he ▸ h

theorem journalOpen (e : Envelope) (body : List Word) : Statement (.journalOpen e body) := fun h _ he => Option.some.inj he ▸ h

theorem journalScanDone (found : List JImage) : Statement (.journalScanDone found) := fun _ _ he => nomatch he

theorem journalRead (e : Envelope) (body : List Word) : Statement (.journalRead e body) := fun h _ he => Option.some.inj he ▸ h

theorem arbRead (e : Envelope) (body : List Word) : Statement (.arbRead e body) := fun h _ he => Option.some.inj he ▸ h

theorem arbClear (e : Envelope) (body : List Word) : Statement (.arbClear e body) := fun h _ he => Option.some.inj he ▸ h

theorem lockTake (e : Envelope) (body : List Word) : Statement (.lockTake e body) := fun h _ he => Option.some.inj he ▸ h

theorem lockRenew (e : Envelope) (body : List Word) : Statement (.lockRenew e body) := fun h _ he => Option.some.inj he ▸ h

theorem lockRelease (e : Envelope) (body : List Word) : Statement (.lockRelease e body) := fun h _ he => Option.some.inj he ▸ h

theorem lockReclaim (e : Envelope) (body : List Word) : Statement (.lockReclaim e body) := fun h _ he => Option.some.inj he ▸ h

theorem leaseExpiry (k : Nat) : Statement (.leaseExpiry k) := fun _ _ he => nomatch he

theorem hkRun (e : Envelope) (body : List Word) : Statement (.hkRun e body) := fun h _ he => Option.some.inj he ▸ h

theorem hkStop (e : Envelope) (body : List Word) : Statement (.hkStop e body) := fun h _ he => Option.some.inj he ▸ h

theorem hkConvert (e : Envelope) (body : List Word) : Statement (.hkConvert e body) := fun h _ he => Option.some.inj he ▸ h

theorem hkSlotDue (t : Nat) : Statement (.hkSlotDue t) := fun _ _ he => nomatch he

theorem hkConversionDone (x : Sample) (t cyc : Nat) : Statement (.hkConversionDone x t cyc) := fun _ _ he => nomatch he

theorem hkUrgentActivation (n t : Nat) : Statement (.hkUrgentActivation n t) := fun _ _ he => nomatch he

theorem hkPacketTimeout (cyc : Nat) : Statement (.hkPacketTimeout cyc) := fun _ _ he => nomatch he

theorem aoutRun (e : Envelope) (body : List Word) : Statement (.aoutRun e body) := fun h _ he => Option.some.inj he ▸ h

theorem aoutStop (e : Envelope) (body : List Word) : Statement (.aoutStop e body) := fun h _ he => Option.some.inj he ▸ h

theorem aoutWaveWrite (e : Envelope) (body : List Word) : Statement (.aoutWaveWrite e body) := fun h _ he => Option.some.inj he ▸ h

theorem aoutPlaybackStart (k t cyc : Nat) (r : MemRead) : Statement (.aoutPlaybackStart k t cyc r) := fun _ _ he => nomatch he

theorem aoutPlaybackEnd (k t cyc : Nat) : Statement (.aoutPlaybackEnd k t cyc) := fun _ _ he => nomatch he

theorem aoutLevel (e : Envelope) (k : Nat) (w : Word) : Statement (.aoutLevel e k w) := fun h _ he => Option.some.inj he ▸ (left h)

theorem timeLoad (e : Envelope) (body : List Word) : Statement (.timeLoad e body) := fun h _ he => Option.some.inj he ▸ h

theorem syncCalibrate (e : Envelope) (body : List Word) : Statement (.syncCalibrate e body) := fun h _ he => Option.some.inj he ▸ h

theorem calibrationWindow (sum answers : Nat) : Statement (.calibrationWindow sum answers) := fun _ _ he => nomatch he

theorem expand (e : Envelope) (d : Nat) : Statement (.expand e d) := fun h _ he => Option.some.inj he ▸ (left h)

theorem expansionDone (d : Nat) (x : ExpansionEnd) : Statement (.expansionDone d x) := fun _ _ he => nomatch he

theorem release (e : Envelope) (d : Nat) : Statement (.release e d) := fun h _ he => Option.some.inj he ▸ (left h)

theorem clear (e : Envelope) (c : Nat) : Statement (.clear e c) := fun h _ he => Option.some.inj he ▸ (left h)

theorem swflag (e : Envelope) (bank : Bool) (n : Nat) : Statement (.swflag e bank n) := fun h _ he => Option.some.inj he ▸ (left h)

theorem acceptNew (e : Envelope) (c : Nat) (w : Word) : Statement (.acceptNew e c w) := fun h _ he => Option.some.inj he ▸ (left h)

theorem faultStatus (e : Envelope) (w : Word) : Statement (.faultStatus e w) := fun h _ he => Option.some.inj he ▸ h

theorem forceLevel (e : Envelope) (c : Nat) (w : Word) : Statement (.forceLevel e c w) := fun h _ he => Option.some.inj he ▸ (left h)

theorem rateWrite (e : Envelope) (c : Nat) (hi lo : Word) : Statement (.rateWrite e c hi lo) := fun h _ he => Option.some.inj he ▸ (left h)

theorem hrst (e : Envelope) (b : Nat) (on : Bool) (w : Word) : Statement (.hrst e b on w) := fun h _ he => Option.some.inj he ▸ (left h)

theorem lclkEn (e : Envelope) (b : Nat) (on : Bool) (w : Word) : Statement (.lclkEn e b on w) := fun h _ he => Option.some.inj he ▸ (left h)

theorem linkEn (e : Envelope) (c : Nat) (on : Bool) (w : Word) : Statement (.linkEn e c on w) := fun h _ he => Option.some.inj he ▸ (left h)

theorem curfew (e : Envelope) (c : Nat) (v : Nat) (w : Word) : Statement (.curfew e c v w) := fun h _ he => Option.some.inj he ▸ (left (left h))

theorem egressEn (e : Envelope) (on : Bool) : Statement (.egressEn e on) := fun h _ he => Option.some.inj he ▸ h

theorem logEn (e : Envelope) (on : Bool) : Statement (.logEn e on) := fun h _ he => Option.some.inj he ▸ h

theorem spoolSize (e : Envelope) (v : Nat) (w : Word) : Statement (.spoolSize e v w) := fun h _ he => Option.some.inj he ▸ (left h)

theorem halt (bank : Bool) (n : Nat) : Statement (.halt bank n) := fun _ _ he => nomatch he

theorem play (bank : Bool) (n : Nat) : Statement (.play bank n) := fun _ _ he => nomatch he

theorem jump (bank : Bool) (n : Nat) : Statement (.jump bank n) := fun _ _ he => nomatch he

theorem loop (bank : Bool) (n : Nat) : Statement (.loop bank n) := fun _ _ he => nomatch he

theorem endloop (bank : Bool) (n : Nat) : Statement (.endloop bank n) := fun _ _ he => nomatch he

theorem wait (bank : Bool) (n : Nat) : Statement (.wait bank n) := fun _ _ he => nomatch he

theorem waitRelease (bank : Bool) (n : Nat) : Statement (.waitRelease bank n) := fun _ _ he => nomatch he

theorem waitTimeout (bank : Bool) (n : Nat) : Statement (.waitTimeout bank n) := fun _ _ he => nomatch he

theorem rate (n : Nat) : Statement (.rate n) := fun _ _ he => nomatch he

theorem emit (bank : Bool) (n : Nat) : Statement (.emit bank n) := fun _ _ he => nomatch he

theorem tset (b : Nat) : Statement (.tset b) := fun _ _ he => nomatch he

theorem segmentEnd (bank : Bool) (n : Nat) : Statement (.segmentEnd bank n) := fun _ _ he => nomatch he

theorem inputSampleBoundary (c : Nat) : Statement (.inputSampleBoundary c) := fun _ _ he => nomatch he

theorem underrunResume (bank : Bool) (n : Nat) : Statement (.underrunResume bank n) := fun _ _ he => nomatch he

theorem granuleFetch (bank : Bool) (n key : Nat) (inA inB : List Nat) : Statement (.granuleFetch bank n key inA inB) := fun _ _ he => nomatch he

theorem regenerationDone (g : Nat) (inverted : List Nat) : Statement (.regenerationDone g inverted) := fun _ _ he => nomatch he

theorem remapRebuildDone (r : Rebuild) : Statement (.remapRebuildDone r) := fun _ _ he => nomatch he

theorem streamDatagram (e : Envelope) (code : BitVec 16) (body : List Word) : Statement (.streamDatagram e code body) := fun h _ he => Option.some.inj he ▸ h

theorem vectorIssue (b : Nat) : Statement (.vectorIssue b) := fun _ _ he => nomatch he

theorem pinResultCredit (b t j : Nat) (r : PinReport) : Statement (.pinResultCredit b t j r) := fun _ _ he => nomatch he

theorem loopUpdate (c : Nat) (up : Option Received) (cyc : Nat) (delay : Option Nat) (r : StateRead) (x : Crossing) : Statement (.loopUpdate c up cyc delay r x) := fun _ _ he => nomatch he

theorem lateResult (c slot : Nat) : Statement (.lateResult c slot) := fun _ _ he => nomatch he

theorem predictionHold (c : Nat) : Statement (.predictionHold c) := fun _ _ he => nomatch he

theorem complianceExit (c : Nat) : Statement (.complianceExit c) := fun _ _ he => nomatch he

theorem crossTime (c : Nat) : Statement (.crossTime c) := fun _ _ he => nomatch he

theorem protectionTrip (c : Nat) : Statement (.protectionTrip c) := fun _ _ he => nomatch he

theorem chanEventTrip (c : Nat) : Statement (.chanEventTrip c) := fun _ _ he => nomatch he

theorem outerUpdate (c : Nat) : Statement (.outerUpdate c) := fun _ _ he => nomatch he

theorem thermSrcLost (c : Nat) : Statement (.thermSrcLost c) := fun _ _ he => nomatch he

theorem thermSrcTrip (c : Nat) : Statement (.thermSrcTrip c) := fun _ _ he => nomatch he

theorem repetBinEnd (c : Nat) : Statement (.repetBinEnd c) := fun _ _ he => nomatch he

theorem feAction (c : Nat) : Statement (.feAction c) := fun _ _ he => nomatch he

theorem plausAction (c : Nat) : Statement (.plausAction c) := fun _ _ he => nomatch he

theorem supvPhaseEnd (c : Nat) : Statement (.supvPhaseEnd c) := fun _ _ he => nomatch he

theorem rangeTimeout (c : Nat) : Statement (.rangeTimeout c) := fun _ _ he => nomatch he

theorem upRange (c : Nat) (current : Bool) : Statement (.upRange c current) := fun _ _ he => nomatch he

theorem downRange (c : Nat) (current : Bool) : Statement (.downRange c current) := fun _ _ he => nomatch he

theorem correctionEval (b : Nat) (inverted : List (Nat × List Nat)) : Statement (.correctionEval b inverted) := fun _ _ he => nomatch he

theorem pairsTakeEffect (c : Nat) : Statement (.pairsTakeEffect c) := fun _ _ he => nomatch he

theorem rampStart (c : Nat) : Statement (.rampStart c) := fun _ _ he => nomatch he

theorem relayCloseTimeout (c : Nat) : Statement (.relayCloseTimeout c) := fun _ _ he => nomatch he

theorem disarmComplete (c : Nat) : Statement (.disarmComplete c) := fun _ _ he => nomatch he

theorem upstreamStatus (c : Nat) (blocks : List (Nat × Block)) (before : BitVec 58) : Statement (.upstreamStatus c blocks before) := fun _ _ he => nomatch he

theorem halertFall (b low : Nat) : Statement (.halertFall b low) := fun _ _ he => nomatch he

theorem linkTrainingStart (c : Nat) : Statement (.linkTrainingStart c) := fun _ _ he => nomatch he

theorem trainingRetry (c : Nat) : Statement (.trainingRetry c) := fun _ _ he => nomatch he

theorem ts1Echo (c : Nat) (heard : Heard) : Statement (.ts1Echo c heard) := fun _ _ he => nomatch he

theorem ts2Echo (r : OnLink) : Statement (.ts2Echo r) := fun _ _ he => nomatch he

theorem rtMeasured (c count : Nat) : Statement (.rtMeasured c count) := fun _ _ he => nomatch he

theorem ts3Echo (c : Nat) (r : Received) : Statement (.ts3Echo c r) := fun _ _ he => nomatch he

theorem alignmentCheck (c : Nat) (ok : Bool) : Statement (.alignmentCheck c ok) := fun _ _ he => nomatch he

theorem descriptorCheck (c : Nat) (words : List Block) : Statement (.descriptorCheck c words) := fun _ _ he => nomatch he

theorem trainingTimeout (c : Nat) : Statement (.trainingTimeout c) := fun _ _ he => nomatch he

theorem linkCrcFail (c : Nat) : Statement (.linkCrcFail c) := fun _ _ he => nomatch he

theorem blockLockLost (c : Nat) : Statement (.blockLockLost c) := fun _ _ he => nomatch he

theorem trainingBlockReceived (r : OnLink) : Statement (.trainingBlockReceived r) := fun _ _ he => nomatch he

theorem headMessageResponse (c tag status : Nat) (words : List Block) : Statement (.headMessageResponse c tag status words) := fun _ _ he => nomatch he

theorem headMessageTimeout (c tag : Nat) : Statement (.headMessageTimeout c tag) := fun _ _ he => nomatch he

theorem heldFrame (c : Nat) (up : Option Received) (cyc slot : Nat) : Statement (.heldFrame c up cyc slot) := fun _ _ he => nomatch he

theorem heldProtectionTrip (c : Nat) : Statement (.heldProtectionTrip c) := fun _ _ he => nomatch he

theorem engineFrame (n : Nat) (pass : Bool) : Statement (.engineFrame n pass) := fun _ _ he => nomatch he

theorem failover (o : Nat) (pass : Bool) : Statement (.failover o pass) := fun _ _ he => nomatch he

theorem failoverTimeout (o : Nat) : Statement (.failoverTimeout o) := fun _ _ he => nomatch he

theorem sramScrub (pass : ScrubPass) : Statement (.sramScrub pass) := fun _ _ he => nomatch he

theorem dramRequest (m unit : Nat) (regen : Bool) (sel : Nat) : Statement (.dramRequest m unit regen sel) := fun _ _ he => nomatch he

theorem firmwareRegionViolation (task : Nat) : Statement (.firmwareRegionViolation task) := fun _ _ he => nomatch he

theorem arbGrantLate (m slot : Nat) : Statement (.arbGrantLate m slot) := fun _ _ he => nomatch he

theorem starvation (m slot : Nat) : Statement (.starvation m slot) := fun _ _ he => nomatch he

theorem quadReturn (k slot : Nat) : Statement (.quadReturn k slot) := fun _ _ he => nomatch he

theorem tableSwap (slot : Nat) : Statement (.tableSwap slot) := fun _ _ he => nomatch he

theorem trigInputEdge (k : Nat) (high : Bool) (cyc stamp : Nat) : Statement (.trigInputEdge k high cyc stamp) := fun _ _ he => nomatch he

theorem eventDelivery (dst cyc : Nat) : Statement (.eventDelivery dst cyc) := fun _ _ he => nomatch he

theorem trigPulseEnd (k cyc : Nat) : Statement (.trigPulseEnd k cyc) := fun _ _ he => nomatch he

theorem meridian : Statement .meridian := fun _ _ he => nomatch he

theorem syncWord (w : BitVec 48) (cyc : Nat) : Statement (.syncWord w cyc) := fun _ _ he => nomatch he

theorem syncEventFire (k : Nat) : Statement (.syncEventFire k) := fun _ _ he => nomatch he

theorem syncLost : Statement .syncLost := fun _ _ he => nomatch he

theorem ptpMessage (p : Port) (f : PtpFrame) (m : PtpMsg) (rx residence : Int) : Statement (.ptpMessage p f m rx residence) := fun _ _ he => nomatch he

theorem refclkLost : Statement .refclkLost := fun _ _ he => nomatch he

theorem refclkRelock : Statement .refclkRelock := fun _ _ he => nomatch he

theorem acqRecordComplete (a cyc : Nat) : Statement (.acqRecordComplete a cyc) := fun _ _ he => nomatch he

theorem acqHoldoffEnd (a : Nat) : Statement (.acqHoldoffEnd a) := fun _ _ he => nomatch he

theorem detectionStart (a cyc : Nat) : Statement (.detectionStart a cyc) := fun _ _ he => nomatch he

theorem detectionEnd (a cyc : Nat) : Statement (.detectionEnd a cyc) := fun _ _ he => nomatch he

theorem patternFire (p cyc : Nat) : Statement (.patternFire p cyc) := fun _ _ he => nomatch he

theorem flushTime (u : Nat) : Statement (.flushTime u) := fun _ _ he => nomatch he

theorem packetToRing (f cyc : Nat) (r : MemRead) : Statement (.packetToRing f cyc r) := fun _ _ he => nomatch he

theorem spoolWrite (cyc : Nat) (r : MemRead) : Statement (.spoolWrite cyc r) := fun _ _ he => nomatch he

theorem spoolResume : Statement .spoolResume := fun _ _ he => nomatch he

theorem egressDatagram (inverted : List (List Nat)) : Statement (.egressDatagram inverted) := fun _ _ he => nomatch he

theorem egressFlushTimeout : Statement .egressFlushTimeout := fun _ _ he => nomatch he

theorem pauseFrame (p : Port) (quanta : Nat) : Statement (.pauseFrame p quanta) := fun _ _ he => nomatch he

theorem journalTake (inverted : List Nat) : Statement (.journalTake inverted) := fun _ _ he => nomatch he

theorem journalMaxAge : Statement .journalMaxAge := fun _ _ he => nomatch he

theorem journalProgramDone : Statement .journalProgramDone := fun _ _ he => nomatch he

theorem journalProgramFail (block : Nat) : Statement (.journalProgramFail block) := fun _ _ he => nomatch he

theorem coreWatchdog (held : List (Nat × Nat)) (ticket : Option Nat) : Statement (.coreWatchdog held ticket) := fun _ _ he => nomatch he

theorem hostTimeout : Statement .hostTimeout := fun _ _ he => nomatch he

theorem sessionTimeout (n : Nat) : Statement (.sessionTimeout n) := fun _ _ he => nomatch he

theorem heldRequestExpiry (n : Nat) : Statement (.heldRequestExpiry n) := fun _ _ he => nomatch he

theorem lantern : Statement .lantern := fun _ _ he => nomatch he

theorem portLost (p : Port) (lock localFault remoteFault : Bool) : Statement (.portLost p lock localFault remoteFault) := fun _ _ he => nomatch he

theorem ringFault (f : EnumFrame) : Statement (.ringFault f) := fun _ _ he => nomatch he

theorem portUp (p : Port) : Statement (.portUp p) := fun _ _ he => nomatch he

theorem ringRestore (f : EnumFrame) : Statement (.ringRestore f) := fun _ _ he => nomatch he

theorem frameForward (p : Port) (f : EthFrame) : Statement (.frameForward p f) := fun _ _ he => nomatch he

theorem addressAgeOut (mac : Nat) : Statement (.addressAgeOut mac) := fun _ _ he => nomatch he

theorem arpRequest (p : Port) (f : EthFrame) (target : Nat) : Statement (.arpRequest p f target) := fun _ _ he => nomatch he

theorem neighbourSolicitation (p : Port) (f : EthFrame) (target : Nat) : Statement (.neighbourSolicitation p f target) := fun _ _ he => nomatch he

theorem echoRequest (src : Source) (v6 : Bool) (id seq : Nat) (data : List Byte) : Statement (.echoRequest src v6 id seq data) := fun _ _ he => nomatch he

theorem dieTempMeasure (tj : Nat) : Statement (.dieTempMeasure tj) := fun _ _ he => nomatch he

theorem pwrgoodFall : Statement .pwrgoodFall := fun _ _ he => nomatch he

theorem supplyDetector (vddio33 : Bool) : Statement (.supplyDetector vddio33) := fun _ _ he => nomatch he

theorem controllerReset (low : Nat) : Statement (.controllerReset low) := fun _ _ he => nomatch he

theorem powerUp (resetLow : Bool) : Statement (.powerUp resetLow) := fun _ _ he => nomatch he

theorem bootRomStart : Statement .bootRomStart := fun _ _ he => nomatch he

theorem discover (f : EnumFrame) : Statement (.discover f) := fun _ _ he => nomatch he

theorem assign (f : EnumFrame) : Statement (.assign f) := fun _ _ he => nomatch he

theorem loadBegin (f : EnumFrame) : Statement (.loadBegin f) := fun _ _ he => nomatch he

theorem loadData (f : EnumFrame) : Statement (.loadData f) := fun _ _ he => nomatch he

theorem loadEnd (f : EnumFrame) : Statement (.loadEnd f) := fun _ _ he => nomatch he

theorem loadQuery (f : EnumFrame) : Statement (.loadQuery f) := fun _ _ he => nomatch he

theorem loadAbort (f : EnumFrame) : Statement (.loadAbort f) := fun _ _ he => nomatch he

theorem imageCheckDone : Statement .imageCheckDone := fun _ _ he => nomatch he

theorem firmwareStart : Statement .firmwareStart := fun _ _ he => nomatch he

theorem syncInEdge (stamp : Nat) (y : SyncSymbol) : Statement (.syncInEdge stamp y) := fun _ _ he => nomatch he

theorem alignedExpiry : Statement .alignedExpiry := fun _ _ he => nomatch he

theorem pauseTimeEnd (p : Port) : Statement (.pauseTimeEnd p) := fun _ _ he => nomatch he

theorem hrstNRise (b : Nat) : Statement (.hrstNRise b) := fun _ _ he => nomatch he

theorem aoutUpdateInstant (k t : Nat) (r : WaveRead) : Statement (.aoutUpdateInstant k t r) := fun _ _ he => nomatch he

theorem journalEraseDone (block : Nat) : Statement (.journalEraseDone block) := fun _ _ he => nomatch he

theorem firmwareRestartDone : Statement .firmwareRestartDone := fun _ _ he => nomatch he

theorem ptpTransmit (k : PtpKind) (tx : Int) : Statement (.ptpTransmit k tx) := fun _ _ he => nomatch he

end EnvelopeFormed

end Sys2Proof.Laws
end

