-- ==== Sys2Proof/Laws/State.lean ====
section
/-!
SUPPORT. What each update of the state leaves alone, field by field: all true by definition, or by cases of one operation.
-/

namespace Sys2Proof.Machine

/-! ## setRegAt -/

@[simp] theorem State.setRegAt_pending (s : State) (o : Obj) (n f w : Nat) (v : Word) : (s.setRegAt o n f w v).pending = s.pending := by unfold State.setRegAt; rfl
@[simp] theorem State.setRegAt_now (s : State) (o : Obj) (n f w : Nat) (v : Word) : (s.setRegAt o n f w v).now = s.now := by unfold State.setRegAt; rfl
@[simp] theorem State.setRegAt_clock (s : State) (o : Obj) (n f w : Nat) (v : Word) : (s.setRegAt o n f w v).clock = s.clock := by unfold State.setRegAt; rfl
@[simp] theorem State.setRegAt_free (s : State) (o : Obj) (n f w : Nat) (v : Word) : (s.setRegAt o n f w v).free = s.free := by unfold State.setRegAt; rfl
@[simp] theorem State.setRegAt_commits (s : State) (o : Obj) (n f w : Nat) (v : Word) : (s.setRegAt o n f w v).commits = s.commits := by unfold State.setRegAt; rfl
@[simp] theorem State.setRegAt_host (s : State) (o : Obj) (n f w : Nat) (v : Word) : (s.setRegAt o n f w v).host = s.host := by unfold State.setRegAt; rfl
@[simp] theorem State.setRegAt_faults (s : State) (o : Obj) (n f w : Nat) (v : Word) : (s.setRegAt o n f w v).faults = s.faults := by unfold State.setRegAt; rfl
@[simp] theorem State.setRegAt_events (s : State) (o : Obj) (n f w : Nat) (v : Word) : (s.setRegAt o n f w v).events = s.events := by unfold State.setRegAt; rfl
@[simp] theorem State.setRegAt_records (s : State) (o : Obj) (n f w : Nat) (v : Word) : (s.setRegAt o n f w v).records = s.records := by unfold State.setRegAt; rfl
@[simp] theorem State.setRegAt_chans (s : State) (o : Obj) (n f w : Nat) (v : Word) : (s.setRegAt o n f w v).chans = s.chans := by unfold State.setRegAt; rfl
@[simp] theorem State.setRegAt_descs (s : State) (o : Obj) (n f w : Nat) (v : Word) : (s.setRegAt o n f w v).descs = s.descs := by unfold State.setRegAt; rfl
@[simp] theorem State.setRegAt_calSets (s : State) (o : Obj) (n f w : Nat) (v : Word) : (s.setRegAt o n f w v).calSets = s.calSets := by unfold State.setRegAt; rfl
@[simp] theorem State.setRegAt_points (s : State) (o : Obj) (n f w : Nat) (v : Word) : (s.setRegAt o n f w v).points = s.points := by unfold State.setRegAt; rfl
@[simp] theorem State.setRegAt_sweeps (s : State) (o : Obj) (n f w : Nat) (v : Word) : (s.setRegAt o n f w v).sweeps = s.sweeps := by unfold State.setRegAt; rfl
@[simp] theorem State.setRegAt_regen (s : State) (o : Obj) (n f w : Nat) (v : Word) : (s.setRegAt o n f w v).regen = s.regen := by unfold State.setRegAt; rfl
@[simp] theorem State.setRegAt_seqs (s : State) (o : Obj) (n f w : Nat) (v : Word) : (s.setRegAt o n f w v).seqs = s.seqs := by unfold State.setRegAt; rfl
@[simp] theorem State.setRegAt_bseqs (s : State) (o : Obj) (n f w : Nat) (v : Word) : (s.setRegAt o n f w v).bseqs = s.bseqs := by unfold State.setRegAt; rfl
@[simp] theorem State.setRegAt_vecMems (s : State) (o : Obj) (n f w : Nat) (v : Word) : (s.setRegAt o n f w v).vecMems = s.vecMems := by unfold State.setRegAt; rfl
@[simp] theorem State.setRegAt_acqs (s : State) (o : Obj) (n f w : Nat) (v : Word) : (s.setRegAt o n f w v).acqs = s.acqs := by unfold State.setRegAt; rfl
@[simp] theorem State.setRegAt_patternFired (s : State) (o : Obj) (n f w : Nat) (v : Word) : (s.setRegAt o n f w v).patternFired = s.patternFired := by unfold State.setRegAt; rfl
@[simp] theorem State.setRegAt_stamps (s : State) (o : Obj) (n f w : Nat) (v : Word) : (s.setRegAt o n f w v).stamps = s.stamps := by unfold State.setRegAt; rfl
@[simp] theorem State.setRegAt_time (s : State) (o : Obj) (n f w : Nat) (v : Word) : (s.setRegAt o n f w v).time = s.time := by unfold State.setRegAt; rfl
@[simp] theorem State.setRegAt_ptp (s : State) (o : Obj) (n f w : Nat) (v : Word) : (s.setRegAt o n f w v).ptp = s.ptp := by unfold State.setRegAt; rfl
@[simp] theorem State.setRegAt_arb (s : State) (o : Obj) (n f w : Nat) (v : Word) : (s.setRegAt o n f w v).arb = s.arb := by unfold State.setRegAt; rfl
@[simp] theorem State.setRegAt_boot (s : State) (o : Obj) (n f w : Nat) (v : Word) : (s.setRegAt o n f w v).boot = s.boot := by unfold State.setRegAt; rfl
@[simp] theorem State.setRegAt_net (s : State) (o : Obj) (n f w : Nat) (v : Word) : (s.setRegAt o n f w v).net = s.net := by unfold State.setRegAt; rfl
@[simp] theorem State.setRegAt_links (s : State) (o : Obj) (n f w : Nat) (v : Word) : (s.setRegAt o n f w v).links = s.links := by unfold State.setRegAt; rfl
@[simp] theorem State.setRegAt_bankLines (s : State) (o : Obj) (n f w : Nat) (v : Word) : (s.setRegAt o n f w v).bankLines = s.bankLines := by unfold State.setRegAt; rfl
@[simp] theorem State.setRegAt_hk (s : State) (o : Obj) (n f w : Nat) (v : Word) : (s.setRegAt o n f w v).hk = s.hk := by unfold State.setRegAt; rfl
@[simp] theorem State.setRegAt_aouts (s : State) (o : Obj) (n f w : Nat) (v : Word) : (s.setRegAt o n f w v).aouts = s.aouts := by unfold State.setRegAt; rfl
@[simp] theorem State.setRegAt_waves (s : State) (o : Obj) (n f w : Nat) (v : Word) : (s.setRegAt o n f w v).waves = s.waves := by unfold State.setRegAt; rfl

/-! ## setReg -/

@[simp] theorem State.setReg_pending (s : State) (o : Obj) (n f : Nat) (v : Word) : (s.setReg o n f v).pending = s.pending := by rw [State.setReg, State.setRegAt_pending]
@[simp] theorem State.setReg_now (s : State) (o : Obj) (n f : Nat) (v : Word) : (s.setReg o n f v).now = s.now := by rw [State.setReg, State.setRegAt_now]
@[simp] theorem State.setReg_clock (s : State) (o : Obj) (n f : Nat) (v : Word) : (s.setReg o n f v).clock = s.clock := by rw [State.setReg, State.setRegAt_clock]
@[simp] theorem State.setReg_free (s : State) (o : Obj) (n f : Nat) (v : Word) : (s.setReg o n f v).free = s.free := by rw [State.setReg, State.setRegAt_free]
@[simp] theorem State.setReg_commits (s : State) (o : Obj) (n f : Nat) (v : Word) : (s.setReg o n f v).commits = s.commits := by rw [State.setReg, State.setRegAt_commits]
@[simp] theorem State.setReg_host (s : State) (o : Obj) (n f : Nat) (v : Word) : (s.setReg o n f v).host = s.host := by rw [State.setReg, State.setRegAt_host]
@[simp] theorem State.setReg_faults (s : State) (o : Obj) (n f : Nat) (v : Word) : (s.setReg o n f v).faults = s.faults := by rw [State.setReg, State.setRegAt_faults]
@[simp] theorem State.setReg_events (s : State) (o : Obj) (n f : Nat) (v : Word) : (s.setReg o n f v).events = s.events := by rw [State.setReg, State.setRegAt_events]
@[simp] theorem State.setReg_records (s : State) (o : Obj) (n f : Nat) (v : Word) : (s.setReg o n f v).records = s.records := by rw [State.setReg, State.setRegAt_records]
@[simp] theorem State.setReg_chans (s : State) (o : Obj) (n f : Nat) (v : Word) : (s.setReg o n f v).chans = s.chans := by rw [State.setReg, State.setRegAt_chans]
@[simp] theorem State.setReg_descs (s : State) (o : Obj) (n f : Nat) (v : Word) : (s.setReg o n f v).descs = s.descs := by rw [State.setReg, State.setRegAt_descs]
@[simp] theorem State.setReg_calSets (s : State) (o : Obj) (n f : Nat) (v : Word) : (s.setReg o n f v).calSets = s.calSets := by rw [State.setReg, State.setRegAt_calSets]
@[simp] theorem State.setReg_points (s : State) (o : Obj) (n f : Nat) (v : Word) : (s.setReg o n f v).points = s.points := by rw [State.setReg, State.setRegAt_points]
@[simp] theorem State.setReg_sweeps (s : State) (o : Obj) (n f : Nat) (v : Word) : (s.setReg o n f v).sweeps = s.sweeps := by rw [State.setReg, State.setRegAt_sweeps]
@[simp] theorem State.setReg_regen (s : State) (o : Obj) (n f : Nat) (v : Word) : (s.setReg o n f v).regen = s.regen := by rw [State.setReg, State.setRegAt_regen]
@[simp] theorem State.setReg_seqs (s : State) (o : Obj) (n f : Nat) (v : Word) : (s.setReg o n f v).seqs = s.seqs := by rw [State.setReg, State.setRegAt_seqs]
@[simp] theorem State.setReg_bseqs (s : State) (o : Obj) (n f : Nat) (v : Word) : (s.setReg o n f v).bseqs = s.bseqs := by rw [State.setReg, State.setRegAt_bseqs]
@[simp] theorem State.setReg_vecMems (s : State) (o : Obj) (n f : Nat) (v : Word) : (s.setReg o n f v).vecMems = s.vecMems := by rw [State.setReg, State.setRegAt_vecMems]
@[simp] theorem State.setReg_acqs (s : State) (o : Obj) (n f : Nat) (v : Word) : (s.setReg o n f v).acqs = s.acqs := by rw [State.setReg, State.setRegAt_acqs]
@[simp] theorem State.setReg_patternFired (s : State) (o : Obj) (n f : Nat) (v : Word) : (s.setReg o n f v).patternFired = s.patternFired := by rw [State.setReg, State.setRegAt_patternFired]
@[simp] theorem State.setReg_stamps (s : State) (o : Obj) (n f : Nat) (v : Word) : (s.setReg o n f v).stamps = s.stamps := by rw [State.setReg, State.setRegAt_stamps]
@[simp] theorem State.setReg_time (s : State) (o : Obj) (n f : Nat) (v : Word) : (s.setReg o n f v).time = s.time := by rw [State.setReg, State.setRegAt_time]
@[simp] theorem State.setReg_ptp (s : State) (o : Obj) (n f : Nat) (v : Word) : (s.setReg o n f v).ptp = s.ptp := by rw [State.setReg, State.setRegAt_ptp]
@[simp] theorem State.setReg_arb (s : State) (o : Obj) (n f : Nat) (v : Word) : (s.setReg o n f v).arb = s.arb := by rw [State.setReg, State.setRegAt_arb]
@[simp] theorem State.setReg_boot (s : State) (o : Obj) (n f : Nat) (v : Word) : (s.setReg o n f v).boot = s.boot := by rw [State.setReg, State.setRegAt_boot]
@[simp] theorem State.setReg_net (s : State) (o : Obj) (n f : Nat) (v : Word) : (s.setReg o n f v).net = s.net := by rw [State.setReg, State.setRegAt_net]
@[simp] theorem State.setReg_links (s : State) (o : Obj) (n f : Nat) (v : Word) : (s.setReg o n f v).links = s.links := by rw [State.setReg, State.setRegAt_links]
@[simp] theorem State.setReg_bankLines (s : State) (o : Obj) (n f : Nat) (v : Word) : (s.setReg o n f v).bankLines = s.bankLines := by rw [State.setReg, State.setRegAt_bankLines]
@[simp] theorem State.setReg_hk (s : State) (o : Obj) (n f : Nat) (v : Word) : (s.setReg o n f v).hk = s.hk := by rw [State.setReg, State.setRegAt_hk]
@[simp] theorem State.setReg_aouts (s : State) (o : Obj) (n f : Nat) (v : Word) : (s.setReg o n f v).aouts = s.aouts := by rw [State.setReg, State.setRegAt_aouts]
@[simp] theorem State.setReg_waves (s : State) (o : Obj) (n f : Nat) (v : Word) : (s.setReg o n f v).waves = s.waves := by rw [State.setReg, State.setRegAt_waves]

/-! ## setRf -/

@[simp] theorem State.setRf_pending (s : State) (o : Obj) (n f hi lo v : Nat) : (s.setRf o n f hi lo v).pending = s.pending := by rw [State.setRf, State.setReg_pending]
@[simp] theorem State.setRf_now (s : State) (o : Obj) (n f hi lo v : Nat) : (s.setRf o n f hi lo v).now = s.now := by rw [State.setRf, State.setReg_now]
@[simp] theorem State.setRf_clock (s : State) (o : Obj) (n f hi lo v : Nat) : (s.setRf o n f hi lo v).clock = s.clock := by rw [State.setRf, State.setReg_clock]
@[simp] theorem State.setRf_free (s : State) (o : Obj) (n f hi lo v : Nat) : (s.setRf o n f hi lo v).free = s.free := by rw [State.setRf, State.setReg_free]
@[simp] theorem State.setRf_commits (s : State) (o : Obj) (n f hi lo v : Nat) : (s.setRf o n f hi lo v).commits = s.commits := by rw [State.setRf, State.setReg_commits]
@[simp] theorem State.setRf_host (s : State) (o : Obj) (n f hi lo v : Nat) : (s.setRf o n f hi lo v).host = s.host := by rw [State.setRf, State.setReg_host]
@[simp] theorem State.setRf_faults (s : State) (o : Obj) (n f hi lo v : Nat) : (s.setRf o n f hi lo v).faults = s.faults := by rw [State.setRf, State.setReg_faults]
@[simp] theorem State.setRf_events (s : State) (o : Obj) (n f hi lo v : Nat) : (s.setRf o n f hi lo v).events = s.events := by rw [State.setRf, State.setReg_events]
@[simp] theorem State.setRf_records (s : State) (o : Obj) (n f hi lo v : Nat) : (s.setRf o n f hi lo v).records = s.records := by rw [State.setRf, State.setReg_records]
@[simp] theorem State.setRf_chans (s : State) (o : Obj) (n f hi lo v : Nat) : (s.setRf o n f hi lo v).chans = s.chans := by rw [State.setRf, State.setReg_chans]
@[simp] theorem State.setRf_descs (s : State) (o : Obj) (n f hi lo v : Nat) : (s.setRf o n f hi lo v).descs = s.descs := by rw [State.setRf, State.setReg_descs]
@[simp] theorem State.setRf_calSets (s : State) (o : Obj) (n f hi lo v : Nat) : (s.setRf o n f hi lo v).calSets = s.calSets := by rw [State.setRf, State.setReg_calSets]
@[simp] theorem State.setRf_points (s : State) (o : Obj) (n f hi lo v : Nat) : (s.setRf o n f hi lo v).points = s.points := by rw [State.setRf, State.setReg_points]
@[simp] theorem State.setRf_sweeps (s : State) (o : Obj) (n f hi lo v : Nat) : (s.setRf o n f hi lo v).sweeps = s.sweeps := by rw [State.setRf, State.setReg_sweeps]
@[simp] theorem State.setRf_regen (s : State) (o : Obj) (n f hi lo v : Nat) : (s.setRf o n f hi lo v).regen = s.regen := by rw [State.setRf, State.setReg_regen]
@[simp] theorem State.setRf_seqs (s : State) (o : Obj) (n f hi lo v : Nat) : (s.setRf o n f hi lo v).seqs = s.seqs := by rw [State.setRf, State.setReg_seqs]
@[simp] theorem State.setRf_bseqs (s : State) (o : Obj) (n f hi lo v : Nat) : (s.setRf o n f hi lo v).bseqs = s.bseqs := by rw [State.setRf, State.setReg_bseqs]
@[simp] theorem State.setRf_vecMems (s : State) (o : Obj) (n f hi lo v : Nat) : (s.setRf o n f hi lo v).vecMems = s.vecMems := by rw [State.setRf, State.setReg_vecMems]
@[simp] theorem State.setRf_acqs (s : State) (o : Obj) (n f hi lo v : Nat) : (s.setRf o n f hi lo v).acqs = s.acqs := by rw [State.setRf, State.setReg_acqs]
@[simp] theorem State.setRf_patternFired (s : State) (o : Obj) (n f hi lo v : Nat) : (s.setRf o n f hi lo v).patternFired = s.patternFired := by rw [State.setRf, State.setReg_patternFired]
@[simp] theorem State.setRf_stamps (s : State) (o : Obj) (n f hi lo v : Nat) : (s.setRf o n f hi lo v).stamps = s.stamps := by rw [State.setRf, State.setReg_stamps]
@[simp] theorem State.setRf_time (s : State) (o : Obj) (n f hi lo v : Nat) : (s.setRf o n f hi lo v).time = s.time := by rw [State.setRf, State.setReg_time]
@[simp] theorem State.setRf_ptp (s : State) (o : Obj) (n f hi lo v : Nat) : (s.setRf o n f hi lo v).ptp = s.ptp := by rw [State.setRf, State.setReg_ptp]
@[simp] theorem State.setRf_arb (s : State) (o : Obj) (n f hi lo v : Nat) : (s.setRf o n f hi lo v).arb = s.arb := by rw [State.setRf, State.setReg_arb]
@[simp] theorem State.setRf_boot (s : State) (o : Obj) (n f hi lo v : Nat) : (s.setRf o n f hi lo v).boot = s.boot := by rw [State.setRf, State.setReg_boot]
@[simp] theorem State.setRf_net (s : State) (o : Obj) (n f hi lo v : Nat) : (s.setRf o n f hi lo v).net = s.net := by rw [State.setRf, State.setReg_net]
@[simp] theorem State.setRf_links (s : State) (o : Obj) (n f hi lo v : Nat) : (s.setRf o n f hi lo v).links = s.links := by rw [State.setRf, State.setReg_links]
@[simp] theorem State.setRf_bankLines (s : State) (o : Obj) (n f hi lo v : Nat) : (s.setRf o n f hi lo v).bankLines = s.bankLines := by rw [State.setRf, State.setReg_bankLines]
@[simp] theorem State.setRf_hk (s : State) (o : Obj) (n f hi lo v : Nat) : (s.setRf o n f hi lo v).hk = s.hk := by rw [State.setRf, State.setReg_hk]
@[simp] theorem State.setRf_aouts (s : State) (o : Obj) (n f hi lo v : Nat) : (s.setRf o n f hi lo v).aouts = s.aouts := by rw [State.setRf, State.setReg_aouts]
@[simp] theorem State.setRf_waves (s : State) (o : Obj) (n f hi lo v : Nat) : (s.setRf o n f hi lo v).waves = s.waves := by rw [State.setRf, State.setReg_waves]

/-! ## setRb -/

@[simp] theorem State.setRb_pending (s : State) (o : Obj) (n f i : Nat) (b : Bool) : (s.setRb o n f i b).pending = s.pending := by rw [State.setRb, State.setRf_pending]
@[simp] theorem State.setRb_now (s : State) (o : Obj) (n f i : Nat) (b : Bool) : (s.setRb o n f i b).now = s.now := by rw [State.setRb, State.setRf_now]
@[simp] theorem State.setRb_clock (s : State) (o : Obj) (n f i : Nat) (b : Bool) : (s.setRb o n f i b).clock = s.clock := by rw [State.setRb, State.setRf_clock]
@[simp] theorem State.setRb_free (s : State) (o : Obj) (n f i : Nat) (b : Bool) : (s.setRb o n f i b).free = s.free := by rw [State.setRb, State.setRf_free]
@[simp] theorem State.setRb_commits (s : State) (o : Obj) (n f i : Nat) (b : Bool) : (s.setRb o n f i b).commits = s.commits := by rw [State.setRb, State.setRf_commits]
@[simp] theorem State.setRb_host (s : State) (o : Obj) (n f i : Nat) (b : Bool) : (s.setRb o n f i b).host = s.host := by rw [State.setRb, State.setRf_host]
@[simp] theorem State.setRb_faults (s : State) (o : Obj) (n f i : Nat) (b : Bool) : (s.setRb o n f i b).faults = s.faults := by rw [State.setRb, State.setRf_faults]
@[simp] theorem State.setRb_events (s : State) (o : Obj) (n f i : Nat) (b : Bool) : (s.setRb o n f i b).events = s.events := by rw [State.setRb, State.setRf_events]
@[simp] theorem State.setRb_records (s : State) (o : Obj) (n f i : Nat) (b : Bool) : (s.setRb o n f i b).records = s.records := by rw [State.setRb, State.setRf_records]
@[simp] theorem State.setRb_chans (s : State) (o : Obj) (n f i : Nat) (b : Bool) : (s.setRb o n f i b).chans = s.chans := by rw [State.setRb, State.setRf_chans]
@[simp] theorem State.setRb_descs (s : State) (o : Obj) (n f i : Nat) (b : Bool) : (s.setRb o n f i b).descs = s.descs := by rw [State.setRb, State.setRf_descs]
@[simp] theorem State.setRb_calSets (s : State) (o : Obj) (n f i : Nat) (b : Bool) : (s.setRb o n f i b).calSets = s.calSets := by rw [State.setRb, State.setRf_calSets]
@[simp] theorem State.setRb_points (s : State) (o : Obj) (n f i : Nat) (b : Bool) : (s.setRb o n f i b).points = s.points := by rw [State.setRb, State.setRf_points]
@[simp] theorem State.setRb_sweeps (s : State) (o : Obj) (n f i : Nat) (b : Bool) : (s.setRb o n f i b).sweeps = s.sweeps := by rw [State.setRb, State.setRf_sweeps]
@[simp] theorem State.setRb_regen (s : State) (o : Obj) (n f i : Nat) (b : Bool) : (s.setRb o n f i b).regen = s.regen := by rw [State.setRb, State.setRf_regen]
@[simp] theorem State.setRb_seqs (s : State) (o : Obj) (n f i : Nat) (b : Bool) : (s.setRb o n f i b).seqs = s.seqs := by rw [State.setRb, State.setRf_seqs]
@[simp] theorem State.setRb_bseqs (s : State) (o : Obj) (n f i : Nat) (b : Bool) : (s.setRb o n f i b).bseqs = s.bseqs := by rw [State.setRb, State.setRf_bseqs]
@[simp] theorem State.setRb_vecMems (s : State) (o : Obj) (n f i : Nat) (b : Bool) : (s.setRb o n f i b).vecMems = s.vecMems := by rw [State.setRb, State.setRf_vecMems]
@[simp] theorem State.setRb_acqs (s : State) (o : Obj) (n f i : Nat) (b : Bool) : (s.setRb o n f i b).acqs = s.acqs := by rw [State.setRb, State.setRf_acqs]
@[simp] theorem State.setRb_patternFired (s : State) (o : Obj) (n f i : Nat) (b : Bool) : (s.setRb o n f i b).patternFired = s.patternFired := by rw [State.setRb, State.setRf_patternFired]
@[simp] theorem State.setRb_stamps (s : State) (o : Obj) (n f i : Nat) (b : Bool) : (s.setRb o n f i b).stamps = s.stamps := by rw [State.setRb, State.setRf_stamps]
@[simp] theorem State.setRb_time (s : State) (o : Obj) (n f i : Nat) (b : Bool) : (s.setRb o n f i b).time = s.time := by rw [State.setRb, State.setRf_time]
@[simp] theorem State.setRb_ptp (s : State) (o : Obj) (n f i : Nat) (b : Bool) : (s.setRb o n f i b).ptp = s.ptp := by rw [State.setRb, State.setRf_ptp]
@[simp] theorem State.setRb_arb (s : State) (o : Obj) (n f i : Nat) (b : Bool) : (s.setRb o n f i b).arb = s.arb := by rw [State.setRb, State.setRf_arb]
@[simp] theorem State.setRb_boot (s : State) (o : Obj) (n f i : Nat) (b : Bool) : (s.setRb o n f i b).boot = s.boot := by rw [State.setRb, State.setRf_boot]
@[simp] theorem State.setRb_net (s : State) (o : Obj) (n f i : Nat) (b : Bool) : (s.setRb o n f i b).net = s.net := by rw [State.setRb, State.setRf_net]
@[simp] theorem State.setRb_links (s : State) (o : Obj) (n f i : Nat) (b : Bool) : (s.setRb o n f i b).links = s.links := by rw [State.setRb, State.setRf_links]
@[simp] theorem State.setRb_bankLines (s : State) (o : Obj) (n f i : Nat) (b : Bool) : (s.setRb o n f i b).bankLines = s.bankLines := by rw [State.setRb, State.setRf_bankLines]
@[simp] theorem State.setRb_hk (s : State) (o : Obj) (n f i : Nat) (b : Bool) : (s.setRb o n f i b).hk = s.hk := by rw [State.setRb, State.setRf_hk]
@[simp] theorem State.setRb_aouts (s : State) (o : Obj) (n f i : Nat) (b : Bool) : (s.setRb o n f i b).aouts = s.aouts := by rw [State.setRb, State.setRf_aouts]
@[simp] theorem State.setRb_waves (s : State) (o : Obj) (n f i : Nat) (b : Bool) : (s.setRb o n f i b).waves = s.waves := by rw [State.setRb, State.setRf_waves]

/-! ## count -/

@[simp] theorem State.count_pending (s : State) (o : Obj) (n f : Nat) : (s.count o n f).pending = s.pending := by rw [State.count, State.setReg_pending]
@[simp] theorem State.count_now (s : State) (o : Obj) (n f : Nat) : (s.count o n f).now = s.now := by rw [State.count, State.setReg_now]
@[simp] theorem State.count_clock (s : State) (o : Obj) (n f : Nat) : (s.count o n f).clock = s.clock := by rw [State.count, State.setReg_clock]
@[simp] theorem State.count_free (s : State) (o : Obj) (n f : Nat) : (s.count o n f).free = s.free := by rw [State.count, State.setReg_free]
@[simp] theorem State.count_commits (s : State) (o : Obj) (n f : Nat) : (s.count o n f).commits = s.commits := by rw [State.count, State.setReg_commits]
@[simp] theorem State.count_host (s : State) (o : Obj) (n f : Nat) : (s.count o n f).host = s.host := by rw [State.count, State.setReg_host]
@[simp] theorem State.count_faults (s : State) (o : Obj) (n f : Nat) : (s.count o n f).faults = s.faults := by rw [State.count, State.setReg_faults]
@[simp] theorem State.count_events (s : State) (o : Obj) (n f : Nat) : (s.count o n f).events = s.events := by rw [State.count, State.setReg_events]
@[simp] theorem State.count_records (s : State) (o : Obj) (n f : Nat) : (s.count o n f).records = s.records := by rw [State.count, State.setReg_records]
@[simp] theorem State.count_chans (s : State) (o : Obj) (n f : Nat) : (s.count o n f).chans = s.chans := by rw [State.count, State.setReg_chans]
@[simp] theorem State.count_descs (s : State) (o : Obj) (n f : Nat) : (s.count o n f).descs = s.descs := by rw [State.count, State.setReg_descs]
@[simp] theorem State.count_calSets (s : State) (o : Obj) (n f : Nat) : (s.count o n f).calSets = s.calSets := by rw [State.count, State.setReg_calSets]
@[simp] theorem State.count_points (s : State) (o : Obj) (n f : Nat) : (s.count o n f).points = s.points := by rw [State.count, State.setReg_points]
@[simp] theorem State.count_sweeps (s : State) (o : Obj) (n f : Nat) : (s.count o n f).sweeps = s.sweeps := by rw [State.count, State.setReg_sweeps]
@[simp] theorem State.count_regen (s : State) (o : Obj) (n f : Nat) : (s.count o n f).regen = s.regen := by rw [State.count, State.setReg_regen]
@[simp] theorem State.count_seqs (s : State) (o : Obj) (n f : Nat) : (s.count o n f).seqs = s.seqs := by rw [State.count, State.setReg_seqs]
@[simp] theorem State.count_bseqs (s : State) (o : Obj) (n f : Nat) : (s.count o n f).bseqs = s.bseqs := by rw [State.count, State.setReg_bseqs]
@[simp] theorem State.count_vecMems (s : State) (o : Obj) (n f : Nat) : (s.count o n f).vecMems = s.vecMems := by rw [State.count, State.setReg_vecMems]
@[simp] theorem State.count_acqs (s : State) (o : Obj) (n f : Nat) : (s.count o n f).acqs = s.acqs := by rw [State.count, State.setReg_acqs]
@[simp] theorem State.count_patternFired (s : State) (o : Obj) (n f : Nat) : (s.count o n f).patternFired = s.patternFired := by rw [State.count, State.setReg_patternFired]
@[simp] theorem State.count_stamps (s : State) (o : Obj) (n f : Nat) : (s.count o n f).stamps = s.stamps := by rw [State.count, State.setReg_stamps]
@[simp] theorem State.count_time (s : State) (o : Obj) (n f : Nat) : (s.count o n f).time = s.time := by rw [State.count, State.setReg_time]
@[simp] theorem State.count_ptp (s : State) (o : Obj) (n f : Nat) : (s.count o n f).ptp = s.ptp := by rw [State.count, State.setReg_ptp]
@[simp] theorem State.count_arb (s : State) (o : Obj) (n f : Nat) : (s.count o n f).arb = s.arb := by rw [State.count, State.setReg_arb]
@[simp] theorem State.count_boot (s : State) (o : Obj) (n f : Nat) : (s.count o n f).boot = s.boot := by rw [State.count, State.setReg_boot]
@[simp] theorem State.count_net (s : State) (o : Obj) (n f : Nat) : (s.count o n f).net = s.net := by rw [State.count, State.setReg_net]
@[simp] theorem State.count_links (s : State) (o : Obj) (n f : Nat) : (s.count o n f).links = s.links := by rw [State.count, State.setReg_links]
@[simp] theorem State.count_bankLines (s : State) (o : Obj) (n f : Nat) : (s.count o n f).bankLines = s.bankLines := by rw [State.count, State.setReg_bankLines]
@[simp] theorem State.count_hk (s : State) (o : Obj) (n f : Nat) : (s.count o n f).hk = s.hk := by rw [State.count, State.setReg_hk]
@[simp] theorem State.count_aouts (s : State) (o : Obj) (n f : Nat) : (s.count o n f).aouts = s.aouts := by rw [State.count, State.setReg_aouts]
@[simp] theorem State.count_waves (s : State) (o : Obj) (n f : Nat) : (s.count o n f).waves = s.waves := by rw [State.count, State.setReg_waves]

/-! ## countBy -/

@[simp] theorem State.countBy_pending (s : State) (o : Obj) (n f k : Nat) : (s.countBy o n f k).pending = s.pending := by rw [State.countBy, State.setReg_pending]
@[simp] theorem State.countBy_now (s : State) (o : Obj) (n f k : Nat) : (s.countBy o n f k).now = s.now := by rw [State.countBy, State.setReg_now]
@[simp] theorem State.countBy_clock (s : State) (o : Obj) (n f k : Nat) : (s.countBy o n f k).clock = s.clock := by rw [State.countBy, State.setReg_clock]
@[simp] theorem State.countBy_free (s : State) (o : Obj) (n f k : Nat) : (s.countBy o n f k).free = s.free := by rw [State.countBy, State.setReg_free]
@[simp] theorem State.countBy_commits (s : State) (o : Obj) (n f k : Nat) : (s.countBy o n f k).commits = s.commits := by rw [State.countBy, State.setReg_commits]
@[simp] theorem State.countBy_host (s : State) (o : Obj) (n f k : Nat) : (s.countBy o n f k).host = s.host := by rw [State.countBy, State.setReg_host]
@[simp] theorem State.countBy_faults (s : State) (o : Obj) (n f k : Nat) : (s.countBy o n f k).faults = s.faults := by rw [State.countBy, State.setReg_faults]
@[simp] theorem State.countBy_events (s : State) (o : Obj) (n f k : Nat) : (s.countBy o n f k).events = s.events := by rw [State.countBy, State.setReg_events]
@[simp] theorem State.countBy_records (s : State) (o : Obj) (n f k : Nat) : (s.countBy o n f k).records = s.records := by rw [State.countBy, State.setReg_records]
@[simp] theorem State.countBy_chans (s : State) (o : Obj) (n f k : Nat) : (s.countBy o n f k).chans = s.chans := by rw [State.countBy, State.setReg_chans]
@[simp] theorem State.countBy_descs (s : State) (o : Obj) (n f k : Nat) : (s.countBy o n f k).descs = s.descs := by rw [State.countBy, State.setReg_descs]
@[simp] theorem State.countBy_calSets (s : State) (o : Obj) (n f k : Nat) : (s.countBy o n f k).calSets = s.calSets := by rw [State.countBy, State.setReg_calSets]
@[simp] theorem State.countBy_points (s : State) (o : Obj) (n f k : Nat) : (s.countBy o n f k).points = s.points := by rw [State.countBy, State.setReg_points]
@[simp] theorem State.countBy_sweeps (s : State) (o : Obj) (n f k : Nat) : (s.countBy o n f k).sweeps = s.sweeps := by rw [State.countBy, State.setReg_sweeps]
@[simp] theorem State.countBy_regen (s : State) (o : Obj) (n f k : Nat) : (s.countBy o n f k).regen = s.regen := by rw [State.countBy, State.setReg_regen]
@[simp] theorem State.countBy_seqs (s : State) (o : Obj) (n f k : Nat) : (s.countBy o n f k).seqs = s.seqs := by rw [State.countBy, State.setReg_seqs]
@[simp] theorem State.countBy_bseqs (s : State) (o : Obj) (n f k : Nat) : (s.countBy o n f k).bseqs = s.bseqs := by rw [State.countBy, State.setReg_bseqs]
@[simp] theorem State.countBy_vecMems (s : State) (o : Obj) (n f k : Nat) : (s.countBy o n f k).vecMems = s.vecMems := by rw [State.countBy, State.setReg_vecMems]
@[simp] theorem State.countBy_acqs (s : State) (o : Obj) (n f k : Nat) : (s.countBy o n f k).acqs = s.acqs := by rw [State.countBy, State.setReg_acqs]
@[simp] theorem State.countBy_patternFired (s : State) (o : Obj) (n f k : Nat) : (s.countBy o n f k).patternFired = s.patternFired := by rw [State.countBy, State.setReg_patternFired]
@[simp] theorem State.countBy_stamps (s : State) (o : Obj) (n f k : Nat) : (s.countBy o n f k).stamps = s.stamps := by rw [State.countBy, State.setReg_stamps]
@[simp] theorem State.countBy_time (s : State) (o : Obj) (n f k : Nat) : (s.countBy o n f k).time = s.time := by rw [State.countBy, State.setReg_time]
@[simp] theorem State.countBy_ptp (s : State) (o : Obj) (n f k : Nat) : (s.countBy o n f k).ptp = s.ptp := by rw [State.countBy, State.setReg_ptp]
@[simp] theorem State.countBy_arb (s : State) (o : Obj) (n f k : Nat) : (s.countBy o n f k).arb = s.arb := by rw [State.countBy, State.setReg_arb]
@[simp] theorem State.countBy_boot (s : State) (o : Obj) (n f k : Nat) : (s.countBy o n f k).boot = s.boot := by rw [State.countBy, State.setReg_boot]
@[simp] theorem State.countBy_net (s : State) (o : Obj) (n f k : Nat) : (s.countBy o n f k).net = s.net := by rw [State.countBy, State.setReg_net]
@[simp] theorem State.countBy_links (s : State) (o : Obj) (n f k : Nat) : (s.countBy o n f k).links = s.links := by rw [State.countBy, State.setReg_links]
@[simp] theorem State.countBy_bankLines (s : State) (o : Obj) (n f k : Nat) : (s.countBy o n f k).bankLines = s.bankLines := by rw [State.countBy, State.setReg_bankLines]
@[simp] theorem State.countBy_hk (s : State) (o : Obj) (n f k : Nat) : (s.countBy o n f k).hk = s.hk := by rw [State.countBy, State.setReg_hk]
@[simp] theorem State.countBy_aouts (s : State) (o : Obj) (n f k : Nat) : (s.countBy o n f k).aouts = s.aouts := by rw [State.countBy, State.setReg_aouts]
@[simp] theorem State.countBy_waves (s : State) (o : Obj) (n f k : Nat) : (s.countBy o n f k).waves = s.waves := by rw [State.countBy, State.setReg_waves]

/-! ## setSession -/

@[simp] theorem State.setSession_pending (s : State) (n : Nat) (x : Session) : (s.setSession n x).pending = s.pending := by unfold State.setSession; rfl
@[simp] theorem State.setSession_now (s : State) (n : Nat) (x : Session) : (s.setSession n x).now = s.now := by unfold State.setSession; rfl
@[simp] theorem State.setSession_clock (s : State) (n : Nat) (x : Session) : (s.setSession n x).clock = s.clock := by unfold State.setSession; rfl
@[simp] theorem State.setSession_free (s : State) (n : Nat) (x : Session) : (s.setSession n x).free = s.free := by unfold State.setSession; rfl
@[simp] theorem State.setSession_regs (s : State) (n : Nat) (x : Session) : (s.setSession n x).regs = s.regs := by unfold State.setSession; rfl
@[simp] theorem State.setSession_commits (s : State) (n : Nat) (x : Session) : (s.setSession n x).commits = s.commits := by unfold State.setSession; rfl
@[simp] theorem State.setSession_faults (s : State) (n : Nat) (x : Session) : (s.setSession n x).faults = s.faults := by unfold State.setSession; rfl
@[simp] theorem State.setSession_events (s : State) (n : Nat) (x : Session) : (s.setSession n x).events = s.events := by unfold State.setSession; rfl
@[simp] theorem State.setSession_records (s : State) (n : Nat) (x : Session) : (s.setSession n x).records = s.records := by unfold State.setSession; rfl
@[simp] theorem State.setSession_chans (s : State) (n : Nat) (x : Session) : (s.setSession n x).chans = s.chans := by unfold State.setSession; rfl
@[simp] theorem State.setSession_descs (s : State) (n : Nat) (x : Session) : (s.setSession n x).descs = s.descs := by unfold State.setSession; rfl
@[simp] theorem State.setSession_calSets (s : State) (n : Nat) (x : Session) : (s.setSession n x).calSets = s.calSets := by unfold State.setSession; rfl
@[simp] theorem State.setSession_points (s : State) (n : Nat) (x : Session) : (s.setSession n x).points = s.points := by unfold State.setSession; rfl
@[simp] theorem State.setSession_sweeps (s : State) (n : Nat) (x : Session) : (s.setSession n x).sweeps = s.sweeps := by unfold State.setSession; rfl
@[simp] theorem State.setSession_regen (s : State) (n : Nat) (x : Session) : (s.setSession n x).regen = s.regen := by unfold State.setSession; rfl
@[simp] theorem State.setSession_seqs (s : State) (n : Nat) (x : Session) : (s.setSession n x).seqs = s.seqs := by unfold State.setSession; rfl
@[simp] theorem State.setSession_bseqs (s : State) (n : Nat) (x : Session) : (s.setSession n x).bseqs = s.bseqs := by unfold State.setSession; rfl
@[simp] theorem State.setSession_vecMems (s : State) (n : Nat) (x : Session) : (s.setSession n x).vecMems = s.vecMems := by unfold State.setSession; rfl
@[simp] theorem State.setSession_acqs (s : State) (n : Nat) (x : Session) : (s.setSession n x).acqs = s.acqs := by unfold State.setSession; rfl
@[simp] theorem State.setSession_patternFired (s : State) (n : Nat) (x : Session) : (s.setSession n x).patternFired = s.patternFired := by unfold State.setSession; rfl
@[simp] theorem State.setSession_stamps (s : State) (n : Nat) (x : Session) : (s.setSession n x).stamps = s.stamps := by unfold State.setSession; rfl
@[simp] theorem State.setSession_time (s : State) (n : Nat) (x : Session) : (s.setSession n x).time = s.time := by unfold State.setSession; rfl
@[simp] theorem State.setSession_ptp (s : State) (n : Nat) (x : Session) : (s.setSession n x).ptp = s.ptp := by unfold State.setSession; rfl
@[simp] theorem State.setSession_arb (s : State) (n : Nat) (x : Session) : (s.setSession n x).arb = s.arb := by unfold State.setSession; rfl
@[simp] theorem State.setSession_boot (s : State) (n : Nat) (x : Session) : (s.setSession n x).boot = s.boot := by unfold State.setSession; rfl
@[simp] theorem State.setSession_net (s : State) (n : Nat) (x : Session) : (s.setSession n x).net = s.net := by unfold State.setSession; rfl
@[simp] theorem State.setSession_links (s : State) (n : Nat) (x : Session) : (s.setSession n x).links = s.links := by unfold State.setSession; rfl
@[simp] theorem State.setSession_bankLines (s : State) (n : Nat) (x : Session) : (s.setSession n x).bankLines = s.bankLines := by unfold State.setSession; rfl
@[simp] theorem State.setSession_hk (s : State) (n : Nat) (x : Session) : (s.setSession n x).hk = s.hk := by unfold State.setSession; rfl
@[simp] theorem State.setSession_aouts (s : State) (n : Nat) (x : Session) : (s.setSession n x).aouts = s.aouts := by unfold State.setSession; rfl
@[simp] theorem State.setSession_waves (s : State) (n : Nat) (x : Session) : (s.setSession n x).waves = s.waves := by unfold State.setSession; rfl

/-! ## sendFrame -/

@[simp] theorem State.sendFrame_pending (s : State) (p : Port) (k : Nat) (m : Sent) : (s.sendFrame p k m).pending = s.pending := by
  unfold State.sendFrame; split <;> (dsimp only; try rw [State.count_pending])
@[simp] theorem State.sendFrame_now (s : State) (p : Port) (k : Nat) (m : Sent) : (s.sendFrame p k m).now = s.now := by
  unfold State.sendFrame; split <;> (dsimp only; try rw [State.count_now])
@[simp] theorem State.sendFrame_clock (s : State) (p : Port) (k : Nat) (m : Sent) : (s.sendFrame p k m).clock = s.clock := by
  unfold State.sendFrame; split <;> (dsimp only; try rw [State.count_clock])
@[simp] theorem State.sendFrame_free (s : State) (p : Port) (k : Nat) (m : Sent) : (s.sendFrame p k m).free = s.free := by
  unfold State.sendFrame; split <;> (dsimp only; try rw [State.count_free])
@[simp] theorem State.sendFrame_commits (s : State) (p : Port) (k : Nat) (m : Sent) : (s.sendFrame p k m).commits = s.commits := by
  unfold State.sendFrame; split <;> (dsimp only; try rw [State.count_commits])
@[simp] theorem State.sendFrame_faults (s : State) (p : Port) (k : Nat) (m : Sent) : (s.sendFrame p k m).faults = s.faults := by
  unfold State.sendFrame; split <;> (dsimp only; try rw [State.count_faults])
@[simp] theorem State.sendFrame_events (s : State) (p : Port) (k : Nat) (m : Sent) : (s.sendFrame p k m).events = s.events := by
  unfold State.sendFrame; split <;> (dsimp only; try rw [State.count_events])
@[simp] theorem State.sendFrame_records (s : State) (p : Port) (k : Nat) (m : Sent) : (s.sendFrame p k m).records = s.records := by
  unfold State.sendFrame; split <;> (dsimp only; try rw [State.count_records])
@[simp] theorem State.sendFrame_chans (s : State) (p : Port) (k : Nat) (m : Sent) : (s.sendFrame p k m).chans = s.chans := by
  unfold State.sendFrame; split <;> (dsimp only; try rw [State.count_chans])
@[simp] theorem State.sendFrame_descs (s : State) (p : Port) (k : Nat) (m : Sent) : (s.sendFrame p k m).descs = s.descs := by
  unfold State.sendFrame; split <;> (dsimp only; try rw [State.count_descs])
@[simp] theorem State.sendFrame_calSets (s : State) (p : Port) (k : Nat) (m : Sent) : (s.sendFrame p k m).calSets = s.calSets := by
  unfold State.sendFrame; split <;> (dsimp only; try rw [State.count_calSets])
@[simp] theorem State.sendFrame_points (s : State) (p : Port) (k : Nat) (m : Sent) : (s.sendFrame p k m).points = s.points := by
  unfold State.sendFrame; split <;> (dsimp only; try rw [State.count_points])
@[simp] theorem State.sendFrame_sweeps (s : State) (p : Port) (k : Nat) (m : Sent) : (s.sendFrame p k m).sweeps = s.sweeps := by
  unfold State.sendFrame; split <;> (dsimp only; try rw [State.count_sweeps])
@[simp] theorem State.sendFrame_regen (s : State) (p : Port) (k : Nat) (m : Sent) : (s.sendFrame p k m).regen = s.regen := by
  unfold State.sendFrame; split <;> (dsimp only; try rw [State.count_regen])
@[simp] theorem State.sendFrame_seqs (s : State) (p : Port) (k : Nat) (m : Sent) : (s.sendFrame p k m).seqs = s.seqs := by
  unfold State.sendFrame; split <;> (dsimp only; try rw [State.count_seqs])
@[simp] theorem State.sendFrame_bseqs (s : State) (p : Port) (k : Nat) (m : Sent) : (s.sendFrame p k m).bseqs = s.bseqs := by
  unfold State.sendFrame; split <;> (dsimp only; try rw [State.count_bseqs])
@[simp] theorem State.sendFrame_vecMems (s : State) (p : Port) (k : Nat) (m : Sent) : (s.sendFrame p k m).vecMems = s.vecMems := by
  unfold State.sendFrame; split <;> (dsimp only; try rw [State.count_vecMems])
@[simp] theorem State.sendFrame_acqs (s : State) (p : Port) (k : Nat) (m : Sent) : (s.sendFrame p k m).acqs = s.acqs := by
  unfold State.sendFrame; split <;> (dsimp only; try rw [State.count_acqs])
@[simp] theorem State.sendFrame_patternFired (s : State) (p : Port) (k : Nat) (m : Sent) : (s.sendFrame p k m).patternFired = s.patternFired := by
  unfold State.sendFrame; split <;> (dsimp only; try rw [State.count_patternFired])
@[simp] theorem State.sendFrame_stamps (s : State) (p : Port) (k : Nat) (m : Sent) : (s.sendFrame p k m).stamps = s.stamps := by
  unfold State.sendFrame; split <;> (dsimp only; try rw [State.count_stamps])
@[simp] theorem State.sendFrame_time (s : State) (p : Port) (k : Nat) (m : Sent) : (s.sendFrame p k m).time = s.time := by
  unfold State.sendFrame; split <;> (dsimp only; try rw [State.count_time])
@[simp] theorem State.sendFrame_ptp (s : State) (p : Port) (k : Nat) (m : Sent) : (s.sendFrame p k m).ptp = s.ptp := by
  unfold State.sendFrame; split <;> (dsimp only; try rw [State.count_ptp])
@[simp] theorem State.sendFrame_arb (s : State) (p : Port) (k : Nat) (m : Sent) : (s.sendFrame p k m).arb = s.arb := by
  unfold State.sendFrame; split <;> (dsimp only; try rw [State.count_arb])
@[simp] theorem State.sendFrame_boot (s : State) (p : Port) (k : Nat) (m : Sent) : (s.sendFrame p k m).boot = s.boot := by
  unfold State.sendFrame; split <;> (dsimp only; try rw [State.count_boot])
@[simp] theorem State.sendFrame_net (s : State) (p : Port) (k : Nat) (m : Sent) : (s.sendFrame p k m).net = s.net := by
  unfold State.sendFrame; split <;> (dsimp only; try rw [State.count_net])
@[simp] theorem State.sendFrame_links (s : State) (p : Port) (k : Nat) (m : Sent) : (s.sendFrame p k m).links = s.links := by
  unfold State.sendFrame; split <;> (dsimp only; try rw [State.count_links])
@[simp] theorem State.sendFrame_bankLines (s : State) (p : Port) (k : Nat) (m : Sent) : (s.sendFrame p k m).bankLines = s.bankLines := by
  unfold State.sendFrame; split <;> (dsimp only; try rw [State.count_bankLines])
@[simp] theorem State.sendFrame_hk (s : State) (p : Port) (k : Nat) (m : Sent) : (s.sendFrame p k m).hk = s.hk := by
  unfold State.sendFrame; split <;> (dsimp only; try rw [State.count_hk])
@[simp] theorem State.sendFrame_aouts (s : State) (p : Port) (k : Nat) (m : Sent) : (s.sendFrame p k m).aouts = s.aouts := by
  unfold State.sendFrame; split <;> (dsimp only; try rw [State.count_aouts])
@[simp] theorem State.sendFrame_waves (s : State) (p : Port) (k : Nat) (m : Sent) : (s.sendFrame p k m).waves = s.waves := by
  unfold State.sendFrame; split <;> (dsimp only; try rw [State.count_waves])

/-! ## send -/

@[simp] theorem State.send_pending (s : State) (p : Port) (k : Nat) (m : OutMsg) : (s.send p k m).pending = s.pending := by
  rw [State.send, State.sendFrame_pending]
@[simp] theorem State.send_now (s : State) (p : Port) (k : Nat) (m : OutMsg) : (s.send p k m).now = s.now := by
  rw [State.send, State.sendFrame_now]
@[simp] theorem State.send_clock (s : State) (p : Port) (k : Nat) (m : OutMsg) : (s.send p k m).clock = s.clock := by
  rw [State.send, State.sendFrame_clock]
@[simp] theorem State.send_free (s : State) (p : Port) (k : Nat) (m : OutMsg) : (s.send p k m).free = s.free := by
  rw [State.send, State.sendFrame_free]
@[simp] theorem State.send_commits (s : State) (p : Port) (k : Nat) (m : OutMsg) : (s.send p k m).commits = s.commits := by
  rw [State.send, State.sendFrame_commits]
@[simp] theorem State.send_faults (s : State) (p : Port) (k : Nat) (m : OutMsg) : (s.send p k m).faults = s.faults := by
  rw [State.send, State.sendFrame_faults]
@[simp] theorem State.send_events (s : State) (p : Port) (k : Nat) (m : OutMsg) : (s.send p k m).events = s.events := by
  rw [State.send, State.sendFrame_events]
@[simp] theorem State.send_records (s : State) (p : Port) (k : Nat) (m : OutMsg) : (s.send p k m).records = s.records := by
  rw [State.send, State.sendFrame_records]
@[simp] theorem State.send_chans (s : State) (p : Port) (k : Nat) (m : OutMsg) : (s.send p k m).chans = s.chans := by
  rw [State.send, State.sendFrame_chans]
@[simp] theorem State.send_descs (s : State) (p : Port) (k : Nat) (m : OutMsg) : (s.send p k m).descs = s.descs := by
  rw [State.send, State.sendFrame_descs]
@[simp] theorem State.send_calSets (s : State) (p : Port) (k : Nat) (m : OutMsg) : (s.send p k m).calSets = s.calSets := by
  rw [State.send, State.sendFrame_calSets]
@[simp] theorem State.send_points (s : State) (p : Port) (k : Nat) (m : OutMsg) : (s.send p k m).points = s.points := by
  rw [State.send, State.sendFrame_points]
@[simp] theorem State.send_sweeps (s : State) (p : Port) (k : Nat) (m : OutMsg) : (s.send p k m).sweeps = s.sweeps := by
  rw [State.send, State.sendFrame_sweeps]
@[simp] theorem State.send_regen (s : State) (p : Port) (k : Nat) (m : OutMsg) : (s.send p k m).regen = s.regen := by
  rw [State.send, State.sendFrame_regen]
@[simp] theorem State.send_seqs (s : State) (p : Port) (k : Nat) (m : OutMsg) : (s.send p k m).seqs = s.seqs := by
  rw [State.send, State.sendFrame_seqs]
@[simp] theorem State.send_bseqs (s : State) (p : Port) (k : Nat) (m : OutMsg) : (s.send p k m).bseqs = s.bseqs := by
  rw [State.send, State.sendFrame_bseqs]
@[simp] theorem State.send_vecMems (s : State) (p : Port) (k : Nat) (m : OutMsg) : (s.send p k m).vecMems = s.vecMems := by
  rw [State.send, State.sendFrame_vecMems]
@[simp] theorem State.send_acqs (s : State) (p : Port) (k : Nat) (m : OutMsg) : (s.send p k m).acqs = s.acqs := by
  rw [State.send, State.sendFrame_acqs]
@[simp] theorem State.send_patternFired (s : State) (p : Port) (k : Nat) (m : OutMsg) : (s.send p k m).patternFired = s.patternFired := by
  rw [State.send, State.sendFrame_patternFired]
@[simp] theorem State.send_stamps (s : State) (p : Port) (k : Nat) (m : OutMsg) : (s.send p k m).stamps = s.stamps := by
  rw [State.send, State.sendFrame_stamps]
@[simp] theorem State.send_time (s : State) (p : Port) (k : Nat) (m : OutMsg) : (s.send p k m).time = s.time := by
  rw [State.send, State.sendFrame_time]
@[simp] theorem State.send_ptp (s : State) (p : Port) (k : Nat) (m : OutMsg) : (s.send p k m).ptp = s.ptp := by
  rw [State.send, State.sendFrame_ptp]
@[simp] theorem State.send_arb (s : State) (p : Port) (k : Nat) (m : OutMsg) : (s.send p k m).arb = s.arb := by
  rw [State.send, State.sendFrame_arb]
@[simp] theorem State.send_boot (s : State) (p : Port) (k : Nat) (m : OutMsg) : (s.send p k m).boot = s.boot := by
  rw [State.send, State.sendFrame_boot]
@[simp] theorem State.send_net (s : State) (p : Port) (k : Nat) (m : OutMsg) : (s.send p k m).net = s.net := by
  rw [State.send, State.sendFrame_net]
@[simp] theorem State.send_links (s : State) (p : Port) (k : Nat) (m : OutMsg) : (s.send p k m).links = s.links := by
  rw [State.send, State.sendFrame_links]
@[simp] theorem State.send_bankLines (s : State) (p : Port) (k : Nat) (m : OutMsg) : (s.send p k m).bankLines = s.bankLines := by
  rw [State.send, State.sendFrame_bankLines]
@[simp] theorem State.send_hk (s : State) (p : Port) (k : Nat) (m : OutMsg) : (s.send p k m).hk = s.hk := by
  rw [State.send, State.sendFrame_hk]
@[simp] theorem State.send_aouts (s : State) (p : Port) (k : Nat) (m : OutMsg) : (s.send p k m).aouts = s.aouts := by
  rw [State.send, State.sendFrame_aouts]
@[simp] theorem State.send_waves (s : State) (p : Port) (k : Nat) (m : OutMsg) : (s.send p k m).waves = s.waves := by
  rw [State.send, State.sendFrame_waves]

/-! ## learn -/

@[simp] theorem State.learn_pending (s : State) (p : Port) (mac : Nat) : (s.learn p mac).pending = s.pending := by
  unfold State.learn; dsimp only; split <;> rfl
@[simp] theorem State.learn_now (s : State) (p : Port) (mac : Nat) : (s.learn p mac).now = s.now := by
  unfold State.learn; dsimp only; split <;> rfl
@[simp] theorem State.learn_clock (s : State) (p : Port) (mac : Nat) : (s.learn p mac).clock = s.clock := by
  unfold State.learn; dsimp only; split <;> rfl
@[simp] theorem State.learn_free (s : State) (p : Port) (mac : Nat) : (s.learn p mac).free = s.free := by
  unfold State.learn; dsimp only; split <;> rfl
@[simp] theorem State.learn_regs (s : State) (p : Port) (mac : Nat) : (s.learn p mac).regs = s.regs := by
  unfold State.learn; dsimp only; split <;> rfl
@[simp] theorem State.learn_commits (s : State) (p : Port) (mac : Nat) : (s.learn p mac).commits = s.commits := by
  unfold State.learn; dsimp only; split <;> rfl
@[simp] theorem State.learn_host (s : State) (p : Port) (mac : Nat) : (s.learn p mac).host = s.host := by
  unfold State.learn; dsimp only; split <;> rfl
@[simp] theorem State.learn_faults (s : State) (p : Port) (mac : Nat) : (s.learn p mac).faults = s.faults := by
  unfold State.learn; dsimp only; split <;> rfl
@[simp] theorem State.learn_events (s : State) (p : Port) (mac : Nat) : (s.learn p mac).events = s.events := by
  unfold State.learn; dsimp only; split <;> rfl
@[simp] theorem State.learn_records (s : State) (p : Port) (mac : Nat) : (s.learn p mac).records = s.records := by
  unfold State.learn; dsimp only; split <;> rfl
@[simp] theorem State.learn_chans (s : State) (p : Port) (mac : Nat) : (s.learn p mac).chans = s.chans := by
  unfold State.learn; dsimp only; split <;> rfl
@[simp] theorem State.learn_descs (s : State) (p : Port) (mac : Nat) : (s.learn p mac).descs = s.descs := by
  unfold State.learn; dsimp only; split <;> rfl
@[simp] theorem State.learn_calSets (s : State) (p : Port) (mac : Nat) : (s.learn p mac).calSets = s.calSets := by
  unfold State.learn; dsimp only; split <;> rfl
@[simp] theorem State.learn_points (s : State) (p : Port) (mac : Nat) : (s.learn p mac).points = s.points := by
  unfold State.learn; dsimp only; split <;> rfl
@[simp] theorem State.learn_sweeps (s : State) (p : Port) (mac : Nat) : (s.learn p mac).sweeps = s.sweeps := by
  unfold State.learn; dsimp only; split <;> rfl
@[simp] theorem State.learn_regen (s : State) (p : Port) (mac : Nat) : (s.learn p mac).regen = s.regen := by
  unfold State.learn; dsimp only; split <;> rfl
@[simp] theorem State.learn_seqs (s : State) (p : Port) (mac : Nat) : (s.learn p mac).seqs = s.seqs := by
  unfold State.learn; dsimp only; split <;> rfl
@[simp] theorem State.learn_bseqs (s : State) (p : Port) (mac : Nat) : (s.learn p mac).bseqs = s.bseqs := by
  unfold State.learn; dsimp only; split <;> rfl
@[simp] theorem State.learn_vecMems (s : State) (p : Port) (mac : Nat) : (s.learn p mac).vecMems = s.vecMems := by
  unfold State.learn; dsimp only; split <;> rfl
@[simp] theorem State.learn_acqs (s : State) (p : Port) (mac : Nat) : (s.learn p mac).acqs = s.acqs := by
  unfold State.learn; dsimp only; split <;> rfl
@[simp] theorem State.learn_patternFired (s : State) (p : Port) (mac : Nat) : (s.learn p mac).patternFired = s.patternFired := by
  unfold State.learn; dsimp only; split <;> rfl
@[simp] theorem State.learn_stamps (s : State) (p : Port) (mac : Nat) : (s.learn p mac).stamps = s.stamps := by
  unfold State.learn; dsimp only; split <;> rfl
@[simp] theorem State.learn_time (s : State) (p : Port) (mac : Nat) : (s.learn p mac).time = s.time := by
  unfold State.learn; dsimp only; split <;> rfl
@[simp] theorem State.learn_ptp (s : State) (p : Port) (mac : Nat) : (s.learn p mac).ptp = s.ptp := by
  unfold State.learn; dsimp only; split <;> rfl
@[simp] theorem State.learn_arb (s : State) (p : Port) (mac : Nat) : (s.learn p mac).arb = s.arb := by
  unfold State.learn; dsimp only; split <;> rfl
@[simp] theorem State.learn_boot (s : State) (p : Port) (mac : Nat) : (s.learn p mac).boot = s.boot := by
  unfold State.learn; dsimp only; split <;> rfl
@[simp] theorem State.learn_links (s : State) (p : Port) (mac : Nat) : (s.learn p mac).links = s.links := by
  unfold State.learn; dsimp only; split <;> rfl
@[simp] theorem State.learn_bankLines (s : State) (p : Port) (mac : Nat) : (s.learn p mac).bankLines = s.bankLines := by
  unfold State.learn; dsimp only; split <;> rfl
@[simp] theorem State.learn_hk (s : State) (p : Port) (mac : Nat) : (s.learn p mac).hk = s.hk := by
  unfold State.learn; dsimp only; split <;> rfl
@[simp] theorem State.learn_aouts (s : State) (p : Port) (mac : Nat) : (s.learn p mac).aouts = s.aouts := by
  unfold State.learn; dsimp only; split <;> rfl
@[simp] theorem State.learn_waves (s : State) (p : Port) (mac : Nat) : (s.learn p mac).waves = s.waves := by
  unfold State.learn; dsimp only; split <;> rfl

/-! ## heardFrom -/

@[simp] theorem State.heardFrom_pending (s : State) (p : Port) (mac : Nat) : (s.heardFrom p mac).pending = s.pending := by
  unfold State.heardFrom; rfl
@[simp] theorem State.heardFrom_now (s : State) (p : Port) (mac : Nat) : (s.heardFrom p mac).now = s.now := by
  unfold State.heardFrom; rfl
@[simp] theorem State.heardFrom_clock (s : State) (p : Port) (mac : Nat) : (s.heardFrom p mac).clock = s.clock := by
  unfold State.heardFrom; rfl
@[simp] theorem State.heardFrom_free (s : State) (p : Port) (mac : Nat) : (s.heardFrom p mac).free = s.free := by
  unfold State.heardFrom; rfl
@[simp] theorem State.heardFrom_regs (s : State) (p : Port) (mac : Nat) : (s.heardFrom p mac).regs = s.regs := by
  unfold State.heardFrom; rfl
@[simp] theorem State.heardFrom_commits (s : State) (p : Port) (mac : Nat) : (s.heardFrom p mac).commits = s.commits := by
  unfold State.heardFrom; rfl
@[simp] theorem State.heardFrom_faults (s : State) (p : Port) (mac : Nat) : (s.heardFrom p mac).faults = s.faults := by
  unfold State.heardFrom; rfl
@[simp] theorem State.heardFrom_events (s : State) (p : Port) (mac : Nat) : (s.heardFrom p mac).events = s.events := by
  unfold State.heardFrom; rfl
@[simp] theorem State.heardFrom_records (s : State) (p : Port) (mac : Nat) : (s.heardFrom p mac).records = s.records := by
  unfold State.heardFrom; rfl
@[simp] theorem State.heardFrom_chans (s : State) (p : Port) (mac : Nat) : (s.heardFrom p mac).chans = s.chans := by
  unfold State.heardFrom; rfl
@[simp] theorem State.heardFrom_descs (s : State) (p : Port) (mac : Nat) : (s.heardFrom p mac).descs = s.descs := by
  unfold State.heardFrom; rfl
@[simp] theorem State.heardFrom_calSets (s : State) (p : Port) (mac : Nat) : (s.heardFrom p mac).calSets = s.calSets := by
  unfold State.heardFrom; rfl
@[simp] theorem State.heardFrom_points (s : State) (p : Port) (mac : Nat) : (s.heardFrom p mac).points = s.points := by
  unfold State.heardFrom; rfl
@[simp] theorem State.heardFrom_sweeps (s : State) (p : Port) (mac : Nat) : (s.heardFrom p mac).sweeps = s.sweeps := by
  unfold State.heardFrom; rfl
@[simp] theorem State.heardFrom_regen (s : State) (p : Port) (mac : Nat) : (s.heardFrom p mac).regen = s.regen := by
  unfold State.heardFrom; rfl
@[simp] theorem State.heardFrom_seqs (s : State) (p : Port) (mac : Nat) : (s.heardFrom p mac).seqs = s.seqs := by
  unfold State.heardFrom; rfl
@[simp] theorem State.heardFrom_bseqs (s : State) (p : Port) (mac : Nat) : (s.heardFrom p mac).bseqs = s.bseqs := by
  unfold State.heardFrom; rfl
@[simp] theorem State.heardFrom_vecMems (s : State) (p : Port) (mac : Nat) : (s.heardFrom p mac).vecMems = s.vecMems := by
  unfold State.heardFrom; rfl
@[simp] theorem State.heardFrom_acqs (s : State) (p : Port) (mac : Nat) : (s.heardFrom p mac).acqs = s.acqs := by
  unfold State.heardFrom; rfl
@[simp] theorem State.heardFrom_patternFired (s : State) (p : Port) (mac : Nat) : (s.heardFrom p mac).patternFired = s.patternFired := by
  unfold State.heardFrom; rfl
@[simp] theorem State.heardFrom_stamps (s : State) (p : Port) (mac : Nat) : (s.heardFrom p mac).stamps = s.stamps := by
  unfold State.heardFrom; rfl
@[simp] theorem State.heardFrom_time (s : State) (p : Port) (mac : Nat) : (s.heardFrom p mac).time = s.time := by
  unfold State.heardFrom; rfl
@[simp] theorem State.heardFrom_ptp (s : State) (p : Port) (mac : Nat) : (s.heardFrom p mac).ptp = s.ptp := by
  unfold State.heardFrom; rfl
@[simp] theorem State.heardFrom_arb (s : State) (p : Port) (mac : Nat) : (s.heardFrom p mac).arb = s.arb := by
  unfold State.heardFrom; rfl
@[simp] theorem State.heardFrom_boot (s : State) (p : Port) (mac : Nat) : (s.heardFrom p mac).boot = s.boot := by
  unfold State.heardFrom; rfl
@[simp] theorem State.heardFrom_net (s : State) (p : Port) (mac : Nat) : (s.heardFrom p mac).net = s.net := by
  unfold State.heardFrom; rfl
@[simp] theorem State.heardFrom_links (s : State) (p : Port) (mac : Nat) : (s.heardFrom p mac).links = s.links := by
  unfold State.heardFrom; rfl
@[simp] theorem State.heardFrom_bankLines (s : State) (p : Port) (mac : Nat) : (s.heardFrom p mac).bankLines = s.bankLines := by
  unfold State.heardFrom; rfl
@[simp] theorem State.heardFrom_hk (s : State) (p : Port) (mac : Nat) : (s.heardFrom p mac).hk = s.hk := by
  unfold State.heardFrom; rfl
@[simp] theorem State.heardFrom_aouts (s : State) (p : Port) (mac : Nat) : (s.heardFrom p mac).aouts = s.aouts := by
  unfold State.heardFrom; rfl
@[simp] theorem State.heardFrom_waves (s : State) (p : Port) (mac : Nat) : (s.heardFrom p mac).waves = s.waves := by
  unfold State.heardFrom; rfl

/-! ## frameIn -/

@[simp] theorem State.frameIn_pending (s : State) (p : Port) (mac : Nat) : (s.frameIn p mac).pending = s.pending := by
  rw [State.frameIn, State.heardFrom_pending, State.learn_pending, State.count_pending, State.setRb_pending]
@[simp] theorem State.frameIn_now (s : State) (p : Port) (mac : Nat) : (s.frameIn p mac).now = s.now := by
  rw [State.frameIn, State.heardFrom_now, State.learn_now, State.count_now, State.setRb_now]
@[simp] theorem State.frameIn_clock (s : State) (p : Port) (mac : Nat) : (s.frameIn p mac).clock = s.clock := by
  rw [State.frameIn, State.heardFrom_clock, State.learn_clock, State.count_clock, State.setRb_clock]
@[simp] theorem State.frameIn_free (s : State) (p : Port) (mac : Nat) : (s.frameIn p mac).free = s.free := by
  rw [State.frameIn, State.heardFrom_free, State.learn_free, State.count_free, State.setRb_free]
@[simp] theorem State.frameIn_commits (s : State) (p : Port) (mac : Nat) : (s.frameIn p mac).commits = s.commits := by
  rw [State.frameIn, State.heardFrom_commits, State.learn_commits, State.count_commits, State.setRb_commits]
@[simp] theorem State.frameIn_faults (s : State) (p : Port) (mac : Nat) : (s.frameIn p mac).faults = s.faults := by
  rw [State.frameIn, State.heardFrom_faults, State.learn_faults, State.count_faults, State.setRb_faults]
@[simp] theorem State.frameIn_events (s : State) (p : Port) (mac : Nat) : (s.frameIn p mac).events = s.events := by
  rw [State.frameIn, State.heardFrom_events, State.learn_events, State.count_events, State.setRb_events]
@[simp] theorem State.frameIn_records (s : State) (p : Port) (mac : Nat) : (s.frameIn p mac).records = s.records := by
  rw [State.frameIn, State.heardFrom_records, State.learn_records, State.count_records, State.setRb_records]
@[simp] theorem State.frameIn_chans (s : State) (p : Port) (mac : Nat) : (s.frameIn p mac).chans = s.chans := by
  rw [State.frameIn, State.heardFrom_chans, State.learn_chans, State.count_chans, State.setRb_chans]
@[simp] theorem State.frameIn_descs (s : State) (p : Port) (mac : Nat) : (s.frameIn p mac).descs = s.descs := by
  rw [State.frameIn, State.heardFrom_descs, State.learn_descs, State.count_descs, State.setRb_descs]
@[simp] theorem State.frameIn_calSets (s : State) (p : Port) (mac : Nat) : (s.frameIn p mac).calSets = s.calSets := by
  rw [State.frameIn, State.heardFrom_calSets, State.learn_calSets, State.count_calSets, State.setRb_calSets]
@[simp] theorem State.frameIn_points (s : State) (p : Port) (mac : Nat) : (s.frameIn p mac).points = s.points := by
  rw [State.frameIn, State.heardFrom_points, State.learn_points, State.count_points, State.setRb_points]
@[simp] theorem State.frameIn_sweeps (s : State) (p : Port) (mac : Nat) : (s.frameIn p mac).sweeps = s.sweeps := by
  rw [State.frameIn, State.heardFrom_sweeps, State.learn_sweeps, State.count_sweeps, State.setRb_sweeps]
@[simp] theorem State.frameIn_regen (s : State) (p : Port) (mac : Nat) : (s.frameIn p mac).regen = s.regen := by
  rw [State.frameIn, State.heardFrom_regen, State.learn_regen, State.count_regen, State.setRb_regen]
@[simp] theorem State.frameIn_seqs (s : State) (p : Port) (mac : Nat) : (s.frameIn p mac).seqs = s.seqs := by
  rw [State.frameIn, State.heardFrom_seqs, State.learn_seqs, State.count_seqs, State.setRb_seqs]
@[simp] theorem State.frameIn_bseqs (s : State) (p : Port) (mac : Nat) : (s.frameIn p mac).bseqs = s.bseqs := by
  rw [State.frameIn, State.heardFrom_bseqs, State.learn_bseqs, State.count_bseqs, State.setRb_bseqs]
@[simp] theorem State.frameIn_vecMems (s : State) (p : Port) (mac : Nat) : (s.frameIn p mac).vecMems = s.vecMems := by
  rw [State.frameIn, State.heardFrom_vecMems, State.learn_vecMems, State.count_vecMems, State.setRb_vecMems]
@[simp] theorem State.frameIn_acqs (s : State) (p : Port) (mac : Nat) : (s.frameIn p mac).acqs = s.acqs := by
  rw [State.frameIn, State.heardFrom_acqs, State.learn_acqs, State.count_acqs, State.setRb_acqs]
@[simp] theorem State.frameIn_patternFired (s : State) (p : Port) (mac : Nat) : (s.frameIn p mac).patternFired = s.patternFired := by
  rw [State.frameIn, State.heardFrom_patternFired, State.learn_patternFired, State.count_patternFired, State.setRb_patternFired]
@[simp] theorem State.frameIn_stamps (s : State) (p : Port) (mac : Nat) : (s.frameIn p mac).stamps = s.stamps := by
  rw [State.frameIn, State.heardFrom_stamps, State.learn_stamps, State.count_stamps, State.setRb_stamps]
@[simp] theorem State.frameIn_time (s : State) (p : Port) (mac : Nat) : (s.frameIn p mac).time = s.time := by
  rw [State.frameIn, State.heardFrom_time, State.learn_time, State.count_time, State.setRb_time]
@[simp] theorem State.frameIn_ptp (s : State) (p : Port) (mac : Nat) : (s.frameIn p mac).ptp = s.ptp := by
  rw [State.frameIn, State.heardFrom_ptp, State.learn_ptp, State.count_ptp, State.setRb_ptp]
@[simp] theorem State.frameIn_arb (s : State) (p : Port) (mac : Nat) : (s.frameIn p mac).arb = s.arb := by
  rw [State.frameIn, State.heardFrom_arb, State.learn_arb, State.count_arb, State.setRb_arb]
@[simp] theorem State.frameIn_boot (s : State) (p : Port) (mac : Nat) : (s.frameIn p mac).boot = s.boot := by
  rw [State.frameIn, State.heardFrom_boot, State.learn_boot, State.count_boot, State.setRb_boot]
@[simp] theorem State.frameIn_links (s : State) (p : Port) (mac : Nat) : (s.frameIn p mac).links = s.links := by
  rw [State.frameIn, State.heardFrom_links, State.learn_links, State.count_links, State.setRb_links]
@[simp] theorem State.frameIn_bankLines (s : State) (p : Port) (mac : Nat) : (s.frameIn p mac).bankLines = s.bankLines := by
  rw [State.frameIn, State.heardFrom_bankLines, State.learn_bankLines, State.count_bankLines, State.setRb_bankLines]
@[simp] theorem State.frameIn_hk (s : State) (p : Port) (mac : Nat) : (s.frameIn p mac).hk = s.hk := by
  rw [State.frameIn, State.heardFrom_hk, State.learn_hk, State.count_hk, State.setRb_hk]
@[simp] theorem State.frameIn_aouts (s : State) (p : Port) (mac : Nat) : (s.frameIn p mac).aouts = s.aouts := by
  rw [State.frameIn, State.heardFrom_aouts, State.learn_aouts, State.count_aouts, State.setRb_aouts]
@[simp] theorem State.frameIn_waves (s : State) (p : Port) (mac : Nat) : (s.frameIn p mac).waves = s.waves := by
  rw [State.frameIn, State.heardFrom_waves, State.learn_waves, State.count_waves, State.setRb_waves]

/-! ## advanceSeq -/

@[simp] theorem State.advanceSeq_pending (s : State) (n : Nat) : (s.advanceSeq n).pending = s.pending := by
  unfold State.advanceSeq; split <;> rfl
@[simp] theorem State.advanceSeq_now (s : State) (n : Nat) : (s.advanceSeq n).now = s.now := by
  unfold State.advanceSeq; split <;> rfl
@[simp] theorem State.advanceSeq_clock (s : State) (n : Nat) : (s.advanceSeq n).clock = s.clock := by
  unfold State.advanceSeq; split <;> rfl
@[simp] theorem State.advanceSeq_free (s : State) (n : Nat) : (s.advanceSeq n).free = s.free := by
  unfold State.advanceSeq; split <;> rfl
@[simp] theorem State.advanceSeq_regs (s : State) (n : Nat) : (s.advanceSeq n).regs = s.regs := by
  unfold State.advanceSeq; split <;> rfl
@[simp] theorem State.advanceSeq_commits (s : State) (n : Nat) : (s.advanceSeq n).commits = s.commits := by
  unfold State.advanceSeq; split <;> rfl
@[simp] theorem State.advanceSeq_faults (s : State) (n : Nat) : (s.advanceSeq n).faults = s.faults := by
  unfold State.advanceSeq; split <;> rfl
@[simp] theorem State.advanceSeq_events (s : State) (n : Nat) : (s.advanceSeq n).events = s.events := by
  unfold State.advanceSeq; split <;> rfl
@[simp] theorem State.advanceSeq_records (s : State) (n : Nat) : (s.advanceSeq n).records = s.records := by
  unfold State.advanceSeq; split <;> rfl
@[simp] theorem State.advanceSeq_chans (s : State) (n : Nat) : (s.advanceSeq n).chans = s.chans := by
  unfold State.advanceSeq; split <;> rfl
@[simp] theorem State.advanceSeq_descs (s : State) (n : Nat) : (s.advanceSeq n).descs = s.descs := by
  unfold State.advanceSeq; split <;> rfl
@[simp] theorem State.advanceSeq_calSets (s : State) (n : Nat) : (s.advanceSeq n).calSets = s.calSets := by
  unfold State.advanceSeq; split <;> rfl
@[simp] theorem State.advanceSeq_points (s : State) (n : Nat) : (s.advanceSeq n).points = s.points := by
  unfold State.advanceSeq; split <;> rfl
@[simp] theorem State.advanceSeq_sweeps (s : State) (n : Nat) : (s.advanceSeq n).sweeps = s.sweeps := by
  unfold State.advanceSeq; split <;> rfl
@[simp] theorem State.advanceSeq_regen (s : State) (n : Nat) : (s.advanceSeq n).regen = s.regen := by
  unfold State.advanceSeq; split <;> rfl
@[simp] theorem State.advanceSeq_seqs (s : State) (n : Nat) : (s.advanceSeq n).seqs = s.seqs := by
  unfold State.advanceSeq; split <;> rfl
@[simp] theorem State.advanceSeq_bseqs (s : State) (n : Nat) : (s.advanceSeq n).bseqs = s.bseqs := by
  unfold State.advanceSeq; split <;> rfl
@[simp] theorem State.advanceSeq_vecMems (s : State) (n : Nat) : (s.advanceSeq n).vecMems = s.vecMems := by
  unfold State.advanceSeq; split <;> rfl
@[simp] theorem State.advanceSeq_acqs (s : State) (n : Nat) : (s.advanceSeq n).acqs = s.acqs := by
  unfold State.advanceSeq; split <;> rfl
@[simp] theorem State.advanceSeq_patternFired (s : State) (n : Nat) : (s.advanceSeq n).patternFired = s.patternFired := by
  unfold State.advanceSeq; split <;> rfl
@[simp] theorem State.advanceSeq_stamps (s : State) (n : Nat) : (s.advanceSeq n).stamps = s.stamps := by
  unfold State.advanceSeq; split <;> rfl
@[simp] theorem State.advanceSeq_time (s : State) (n : Nat) : (s.advanceSeq n).time = s.time := by
  unfold State.advanceSeq; split <;> rfl
@[simp] theorem State.advanceSeq_ptp (s : State) (n : Nat) : (s.advanceSeq n).ptp = s.ptp := by
  unfold State.advanceSeq; split <;> rfl
@[simp] theorem State.advanceSeq_arb (s : State) (n : Nat) : (s.advanceSeq n).arb = s.arb := by
  unfold State.advanceSeq; split <;> rfl
@[simp] theorem State.advanceSeq_boot (s : State) (n : Nat) : (s.advanceSeq n).boot = s.boot := by
  unfold State.advanceSeq; split <;> rfl
@[simp] theorem State.advanceSeq_net (s : State) (n : Nat) : (s.advanceSeq n).net = s.net := by
  unfold State.advanceSeq; split <;> rfl
@[simp] theorem State.advanceSeq_links (s : State) (n : Nat) : (s.advanceSeq n).links = s.links := by
  unfold State.advanceSeq; split <;> rfl
@[simp] theorem State.advanceSeq_bankLines (s : State) (n : Nat) : (s.advanceSeq n).bankLines = s.bankLines := by
  unfold State.advanceSeq; split <;> rfl
@[simp] theorem State.advanceSeq_hk (s : State) (n : Nat) : (s.advanceSeq n).hk = s.hk := by
  unfold State.advanceSeq; split <;> rfl
@[simp] theorem State.advanceSeq_aouts (s : State) (n : Nat) : (s.advanceSeq n).aouts = s.aouts := by
  unfold State.advanceSeq; split <;> rfl
@[simp] theorem State.advanceSeq_waves (s : State) (n : Nat) : (s.advanceSeq n).waves = s.waves := by
  unfold State.advanceSeq; split <;> rfl

/-! ## reply -/

@[simp] theorem State.reply_pending (s : State) (n : Nat) (key : List Byte) (r : Req) (st t : Nat) (b : List Word) : (s.reply n key r st t b).pending = s.pending := by
  unfold State.reply; dsimp only; split <;> rw [State.send_pending] <;> rw [State.setSession_pending]
@[simp] theorem State.reply_now (s : State) (n : Nat) (key : List Byte) (r : Req) (st t : Nat) (b : List Word) : (s.reply n key r st t b).now = s.now := by
  unfold State.reply; dsimp only; split <;> rw [State.send_now] <;> rw [State.setSession_now]
@[simp] theorem State.reply_clock (s : State) (n : Nat) (key : List Byte) (r : Req) (st t : Nat) (b : List Word) : (s.reply n key r st t b).clock = s.clock := by
  unfold State.reply; dsimp only; split <;> rw [State.send_clock] <;> rw [State.setSession_clock]
@[simp] theorem State.reply_free (s : State) (n : Nat) (key : List Byte) (r : Req) (st t : Nat) (b : List Word) : (s.reply n key r st t b).free = s.free := by
  unfold State.reply; dsimp only; split <;> rw [State.send_free] <;> rw [State.setSession_free]
@[simp] theorem State.reply_commits (s : State) (n : Nat) (key : List Byte) (r : Req) (st t : Nat) (b : List Word) : (s.reply n key r st t b).commits = s.commits := by
  unfold State.reply; dsimp only; split <;> rw [State.send_commits] <;> rw [State.setSession_commits]
@[simp] theorem State.reply_faults (s : State) (n : Nat) (key : List Byte) (r : Req) (st t : Nat) (b : List Word) : (s.reply n key r st t b).faults = s.faults := by
  unfold State.reply; dsimp only; split <;> rw [State.send_faults] <;> rw [State.setSession_faults]
@[simp] theorem State.reply_events (s : State) (n : Nat) (key : List Byte) (r : Req) (st t : Nat) (b : List Word) : (s.reply n key r st t b).events = s.events := by
  unfold State.reply; dsimp only; split <;> rw [State.send_events] <;> rw [State.setSession_events]
@[simp] theorem State.reply_records (s : State) (n : Nat) (key : List Byte) (r : Req) (st t : Nat) (b : List Word) : (s.reply n key r st t b).records = s.records := by
  unfold State.reply; dsimp only; split <;> rw [State.send_records] <;> rw [State.setSession_records]
@[simp] theorem State.reply_chans (s : State) (n : Nat) (key : List Byte) (r : Req) (st t : Nat) (b : List Word) : (s.reply n key r st t b).chans = s.chans := by
  unfold State.reply; dsimp only; split <;> rw [State.send_chans] <;> rw [State.setSession_chans]
@[simp] theorem State.reply_descs (s : State) (n : Nat) (key : List Byte) (r : Req) (st t : Nat) (b : List Word) : (s.reply n key r st t b).descs = s.descs := by
  unfold State.reply; dsimp only; split <;> rw [State.send_descs] <;> rw [State.setSession_descs]
@[simp] theorem State.reply_calSets (s : State) (n : Nat) (key : List Byte) (r : Req) (st t : Nat) (b : List Word) : (s.reply n key r st t b).calSets = s.calSets := by
  unfold State.reply; dsimp only; split <;> rw [State.send_calSets] <;> rw [State.setSession_calSets]
@[simp] theorem State.reply_points (s : State) (n : Nat) (key : List Byte) (r : Req) (st t : Nat) (b : List Word) : (s.reply n key r st t b).points = s.points := by
  unfold State.reply; dsimp only; split <;> rw [State.send_points] <;> rw [State.setSession_points]
@[simp] theorem State.reply_sweeps (s : State) (n : Nat) (key : List Byte) (r : Req) (st t : Nat) (b : List Word) : (s.reply n key r st t b).sweeps = s.sweeps := by
  unfold State.reply; dsimp only; split <;> rw [State.send_sweeps] <;> rw [State.setSession_sweeps]
@[simp] theorem State.reply_regen (s : State) (n : Nat) (key : List Byte) (r : Req) (st t : Nat) (b : List Word) : (s.reply n key r st t b).regen = s.regen := by
  unfold State.reply; dsimp only; split <;> rw [State.send_regen] <;> rw [State.setSession_regen]
@[simp] theorem State.reply_seqs (s : State) (n : Nat) (key : List Byte) (r : Req) (st t : Nat) (b : List Word) : (s.reply n key r st t b).seqs = s.seqs := by
  unfold State.reply; dsimp only; split <;> rw [State.send_seqs] <;> rw [State.setSession_seqs]
@[simp] theorem State.reply_bseqs (s : State) (n : Nat) (key : List Byte) (r : Req) (st t : Nat) (b : List Word) : (s.reply n key r st t b).bseqs = s.bseqs := by
  unfold State.reply; dsimp only; split <;> rw [State.send_bseqs] <;> rw [State.setSession_bseqs]
@[simp] theorem State.reply_vecMems (s : State) (n : Nat) (key : List Byte) (r : Req) (st t : Nat) (b : List Word) : (s.reply n key r st t b).vecMems = s.vecMems := by
  unfold State.reply; dsimp only; split <;> rw [State.send_vecMems] <;> rw [State.setSession_vecMems]
@[simp] theorem State.reply_acqs (s : State) (n : Nat) (key : List Byte) (r : Req) (st t : Nat) (b : List Word) : (s.reply n key r st t b).acqs = s.acqs := by
  unfold State.reply; dsimp only; split <;> rw [State.send_acqs] <;> rw [State.setSession_acqs]
@[simp] theorem State.reply_patternFired (s : State) (n : Nat) (key : List Byte) (r : Req) (st t : Nat) (b : List Word) : (s.reply n key r st t b).patternFired = s.patternFired := by
  unfold State.reply; dsimp only; split <;> rw [State.send_patternFired] <;> rw [State.setSession_patternFired]
@[simp] theorem State.reply_stamps (s : State) (n : Nat) (key : List Byte) (r : Req) (st t : Nat) (b : List Word) : (s.reply n key r st t b).stamps = s.stamps := by
  unfold State.reply; dsimp only; split <;> rw [State.send_stamps] <;> rw [State.setSession_stamps]
@[simp] theorem State.reply_time (s : State) (n : Nat) (key : List Byte) (r : Req) (st t : Nat) (b : List Word) : (s.reply n key r st t b).time = s.time := by
  unfold State.reply; dsimp only; split <;> rw [State.send_time] <;> rw [State.setSession_time]
@[simp] theorem State.reply_ptp (s : State) (n : Nat) (key : List Byte) (r : Req) (st t : Nat) (b : List Word) : (s.reply n key r st t b).ptp = s.ptp := by
  unfold State.reply; dsimp only; split <;> rw [State.send_ptp] <;> rw [State.setSession_ptp]
@[simp] theorem State.reply_arb (s : State) (n : Nat) (key : List Byte) (r : Req) (st t : Nat) (b : List Word) : (s.reply n key r st t b).arb = s.arb := by
  unfold State.reply; dsimp only; split <;> rw [State.send_arb] <;> rw [State.setSession_arb]
@[simp] theorem State.reply_boot (s : State) (n : Nat) (key : List Byte) (r : Req) (st t : Nat) (b : List Word) : (s.reply n key r st t b).boot = s.boot := by
  unfold State.reply; dsimp only; split <;> rw [State.send_boot] <;> rw [State.setSession_boot]
@[simp] theorem State.reply_net (s : State) (n : Nat) (key : List Byte) (r : Req) (st t : Nat) (b : List Word) : (s.reply n key r st t b).net = s.net := by
  unfold State.reply; dsimp only; split <;> rw [State.send_net] <;> rw [State.setSession_net]
@[simp] theorem State.reply_links (s : State) (n : Nat) (key : List Byte) (r : Req) (st t : Nat) (b : List Word) : (s.reply n key r st t b).links = s.links := by
  unfold State.reply; dsimp only; split <;> rw [State.send_links] <;> rw [State.setSession_links]
@[simp] theorem State.reply_bankLines (s : State) (n : Nat) (key : List Byte) (r : Req) (st t : Nat) (b : List Word) : (s.reply n key r st t b).bankLines = s.bankLines := by
  unfold State.reply; dsimp only; split <;> rw [State.send_bankLines] <;> rw [State.setSession_bankLines]
@[simp] theorem State.reply_hk (s : State) (n : Nat) (key : List Byte) (r : Req) (st t : Nat) (b : List Word) : (s.reply n key r st t b).hk = s.hk := by
  unfold State.reply; dsimp only; split <;> rw [State.send_hk] <;> rw [State.setSession_hk]
@[simp] theorem State.reply_aouts (s : State) (n : Nat) (key : List Byte) (r : Req) (st t : Nat) (b : List Word) : (s.reply n key r st t b).aouts = s.aouts := by
  unfold State.reply; dsimp only; split <;> rw [State.send_aouts] <;> rw [State.setSession_aouts]
@[simp] theorem State.reply_waves (s : State) (n : Nat) (key : List Byte) (r : Req) (st t : Nat) (b : List Word) : (s.reply n key r st t b).waves = s.waves := by
  unfold State.reply; dsimp only; split <;> rw [State.send_waves] <;> rw [State.setSession_waves]

/-! ## replyOnce -/

@[simp] theorem State.replyOnce_pending (s : State) (key : List Byte) (r : Req) (st t : Nat) (b : List Word) : (s.replyOnce key r st t b).pending = s.pending := by
  rw [State.replyOnce, State.send_pending]
@[simp] theorem State.replyOnce_now (s : State) (key : List Byte) (r : Req) (st t : Nat) (b : List Word) : (s.replyOnce key r st t b).now = s.now := by
  rw [State.replyOnce, State.send_now]
@[simp] theorem State.replyOnce_clock (s : State) (key : List Byte) (r : Req) (st t : Nat) (b : List Word) : (s.replyOnce key r st t b).clock = s.clock := by
  rw [State.replyOnce, State.send_clock]
@[simp] theorem State.replyOnce_free (s : State) (key : List Byte) (r : Req) (st t : Nat) (b : List Word) : (s.replyOnce key r st t b).free = s.free := by
  rw [State.replyOnce, State.send_free]
@[simp] theorem State.replyOnce_commits (s : State) (key : List Byte) (r : Req) (st t : Nat) (b : List Word) : (s.replyOnce key r st t b).commits = s.commits := by
  rw [State.replyOnce, State.send_commits]
@[simp] theorem State.replyOnce_faults (s : State) (key : List Byte) (r : Req) (st t : Nat) (b : List Word) : (s.replyOnce key r st t b).faults = s.faults := by
  rw [State.replyOnce, State.send_faults]
@[simp] theorem State.replyOnce_events (s : State) (key : List Byte) (r : Req) (st t : Nat) (b : List Word) : (s.replyOnce key r st t b).events = s.events := by
  rw [State.replyOnce, State.send_events]
@[simp] theorem State.replyOnce_records (s : State) (key : List Byte) (r : Req) (st t : Nat) (b : List Word) : (s.replyOnce key r st t b).records = s.records := by
  rw [State.replyOnce, State.send_records]
@[simp] theorem State.replyOnce_chans (s : State) (key : List Byte) (r : Req) (st t : Nat) (b : List Word) : (s.replyOnce key r st t b).chans = s.chans := by
  rw [State.replyOnce, State.send_chans]
@[simp] theorem State.replyOnce_descs (s : State) (key : List Byte) (r : Req) (st t : Nat) (b : List Word) : (s.replyOnce key r st t b).descs = s.descs := by
  rw [State.replyOnce, State.send_descs]
@[simp] theorem State.replyOnce_calSets (s : State) (key : List Byte) (r : Req) (st t : Nat) (b : List Word) : (s.replyOnce key r st t b).calSets = s.calSets := by
  rw [State.replyOnce, State.send_calSets]
@[simp] theorem State.replyOnce_points (s : State) (key : List Byte) (r : Req) (st t : Nat) (b : List Word) : (s.replyOnce key r st t b).points = s.points := by
  rw [State.replyOnce, State.send_points]
@[simp] theorem State.replyOnce_sweeps (s : State) (key : List Byte) (r : Req) (st t : Nat) (b : List Word) : (s.replyOnce key r st t b).sweeps = s.sweeps := by
  rw [State.replyOnce, State.send_sweeps]
@[simp] theorem State.replyOnce_regen (s : State) (key : List Byte) (r : Req) (st t : Nat) (b : List Word) : (s.replyOnce key r st t b).regen = s.regen := by
  rw [State.replyOnce, State.send_regen]
@[simp] theorem State.replyOnce_seqs (s : State) (key : List Byte) (r : Req) (st t : Nat) (b : List Word) : (s.replyOnce key r st t b).seqs = s.seqs := by
  rw [State.replyOnce, State.send_seqs]
@[simp] theorem State.replyOnce_bseqs (s : State) (key : List Byte) (r : Req) (st t : Nat) (b : List Word) : (s.replyOnce key r st t b).bseqs = s.bseqs := by
  rw [State.replyOnce, State.send_bseqs]
@[simp] theorem State.replyOnce_vecMems (s : State) (key : List Byte) (r : Req) (st t : Nat) (b : List Word) : (s.replyOnce key r st t b).vecMems = s.vecMems := by
  rw [State.replyOnce, State.send_vecMems]
@[simp] theorem State.replyOnce_acqs (s : State) (key : List Byte) (r : Req) (st t : Nat) (b : List Word) : (s.replyOnce key r st t b).acqs = s.acqs := by
  rw [State.replyOnce, State.send_acqs]
@[simp] theorem State.replyOnce_patternFired (s : State) (key : List Byte) (r : Req) (st t : Nat) (b : List Word) : (s.replyOnce key r st t b).patternFired = s.patternFired := by
  rw [State.replyOnce, State.send_patternFired]
@[simp] theorem State.replyOnce_stamps (s : State) (key : List Byte) (r : Req) (st t : Nat) (b : List Word) : (s.replyOnce key r st t b).stamps = s.stamps := by
  rw [State.replyOnce, State.send_stamps]
@[simp] theorem State.replyOnce_time (s : State) (key : List Byte) (r : Req) (st t : Nat) (b : List Word) : (s.replyOnce key r st t b).time = s.time := by
  rw [State.replyOnce, State.send_time]
@[simp] theorem State.replyOnce_ptp (s : State) (key : List Byte) (r : Req) (st t : Nat) (b : List Word) : (s.replyOnce key r st t b).ptp = s.ptp := by
  rw [State.replyOnce, State.send_ptp]
@[simp] theorem State.replyOnce_arb (s : State) (key : List Byte) (r : Req) (st t : Nat) (b : List Word) : (s.replyOnce key r st t b).arb = s.arb := by
  rw [State.replyOnce, State.send_arb]
@[simp] theorem State.replyOnce_boot (s : State) (key : List Byte) (r : Req) (st t : Nat) (b : List Word) : (s.replyOnce key r st t b).boot = s.boot := by
  rw [State.replyOnce, State.send_boot]
@[simp] theorem State.replyOnce_net (s : State) (key : List Byte) (r : Req) (st t : Nat) (b : List Word) : (s.replyOnce key r st t b).net = s.net := by
  rw [State.replyOnce, State.send_net]
@[simp] theorem State.replyOnce_links (s : State) (key : List Byte) (r : Req) (st t : Nat) (b : List Word) : (s.replyOnce key r st t b).links = s.links := by
  rw [State.replyOnce, State.send_links]
@[simp] theorem State.replyOnce_bankLines (s : State) (key : List Byte) (r : Req) (st t : Nat) (b : List Word) : (s.replyOnce key r st t b).bankLines = s.bankLines := by
  rw [State.replyOnce, State.send_bankLines]
@[simp] theorem State.replyOnce_hk (s : State) (key : List Byte) (r : Req) (st t : Nat) (b : List Word) : (s.replyOnce key r st t b).hk = s.hk := by
  rw [State.replyOnce, State.send_hk]
@[simp] theorem State.replyOnce_aouts (s : State) (key : List Byte) (r : Req) (st t : Nat) (b : List Word) : (s.replyOnce key r st t b).aouts = s.aouts := by
  rw [State.replyOnce, State.send_aouts]
@[simp] theorem State.replyOnce_waves (s : State) (key : List Byte) (r : Req) (st t : Nat) (b : List Word) : (s.replyOnce key r st t b).waves = s.waves := by
  rw [State.replyOnce, State.send_waves]

/-! ## noticeTo -/

@[simp] theorem State.noticeTo_pending (s : State) (n : Nat) (x : Session) (q c t : Nat) (b : List Word) : (s.noticeTo n x q c t b).pending = s.pending := by
  unfold State.noticeTo; dsimp only; split
  · rw [State.setSession_pending]
  · rw [State.send_pending, State.setSession_pending]
@[simp] theorem State.noticeTo_now (s : State) (n : Nat) (x : Session) (q c t : Nat) (b : List Word) : (s.noticeTo n x q c t b).now = s.now := by
  unfold State.noticeTo; dsimp only; split
  · rw [State.setSession_now]
  · rw [State.send_now, State.setSession_now]
@[simp] theorem State.noticeTo_clock (s : State) (n : Nat) (x : Session) (q c t : Nat) (b : List Word) : (s.noticeTo n x q c t b).clock = s.clock := by
  unfold State.noticeTo; dsimp only; split
  · rw [State.setSession_clock]
  · rw [State.send_clock, State.setSession_clock]
@[simp] theorem State.noticeTo_free (s : State) (n : Nat) (x : Session) (q c t : Nat) (b : List Word) : (s.noticeTo n x q c t b).free = s.free := by
  unfold State.noticeTo; dsimp only; split
  · rw [State.setSession_free]
  · rw [State.send_free, State.setSession_free]
@[simp] theorem State.noticeTo_commits (s : State) (n : Nat) (x : Session) (q c t : Nat) (b : List Word) : (s.noticeTo n x q c t b).commits = s.commits := by
  unfold State.noticeTo; dsimp only; split
  · rw [State.setSession_commits]
  · rw [State.send_commits, State.setSession_commits]
@[simp] theorem State.noticeTo_faults (s : State) (n : Nat) (x : Session) (q c t : Nat) (b : List Word) : (s.noticeTo n x q c t b).faults = s.faults := by
  unfold State.noticeTo; dsimp only; split
  · rw [State.setSession_faults]
  · rw [State.send_faults, State.setSession_faults]
@[simp] theorem State.noticeTo_events (s : State) (n : Nat) (x : Session) (q c t : Nat) (b : List Word) : (s.noticeTo n x q c t b).events = s.events := by
  unfold State.noticeTo; dsimp only; split
  · rw [State.setSession_events]
  · rw [State.send_events, State.setSession_events]
@[simp] theorem State.noticeTo_records (s : State) (n : Nat) (x : Session) (q c t : Nat) (b : List Word) : (s.noticeTo n x q c t b).records = s.records := by
  unfold State.noticeTo; dsimp only; split
  · rw [State.setSession_records]
  · rw [State.send_records, State.setSession_records]
@[simp] theorem State.noticeTo_chans (s : State) (n : Nat) (x : Session) (q c t : Nat) (b : List Word) : (s.noticeTo n x q c t b).chans = s.chans := by
  unfold State.noticeTo; dsimp only; split
  · rw [State.setSession_chans]
  · rw [State.send_chans, State.setSession_chans]
@[simp] theorem State.noticeTo_descs (s : State) (n : Nat) (x : Session) (q c t : Nat) (b : List Word) : (s.noticeTo n x q c t b).descs = s.descs := by
  unfold State.noticeTo; dsimp only; split
  · rw [State.setSession_descs]
  · rw [State.send_descs, State.setSession_descs]
@[simp] theorem State.noticeTo_calSets (s : State) (n : Nat) (x : Session) (q c t : Nat) (b : List Word) : (s.noticeTo n x q c t b).calSets = s.calSets := by
  unfold State.noticeTo; dsimp only; split
  · rw [State.setSession_calSets]
  · rw [State.send_calSets, State.setSession_calSets]
@[simp] theorem State.noticeTo_points (s : State) (n : Nat) (x : Session) (q c t : Nat) (b : List Word) : (s.noticeTo n x q c t b).points = s.points := by
  unfold State.noticeTo; dsimp only; split
  · rw [State.setSession_points]
  · rw [State.send_points, State.setSession_points]
@[simp] theorem State.noticeTo_sweeps (s : State) (n : Nat) (x : Session) (q c t : Nat) (b : List Word) : (s.noticeTo n x q c t b).sweeps = s.sweeps := by
  unfold State.noticeTo; dsimp only; split
  · rw [State.setSession_sweeps]
  · rw [State.send_sweeps, State.setSession_sweeps]
@[simp] theorem State.noticeTo_regen (s : State) (n : Nat) (x : Session) (q c t : Nat) (b : List Word) : (s.noticeTo n x q c t b).regen = s.regen := by
  unfold State.noticeTo; dsimp only; split
  · rw [State.setSession_regen]
  · rw [State.send_regen, State.setSession_regen]
@[simp] theorem State.noticeTo_seqs (s : State) (n : Nat) (x : Session) (q c t : Nat) (b : List Word) : (s.noticeTo n x q c t b).seqs = s.seqs := by
  unfold State.noticeTo; dsimp only; split
  · rw [State.setSession_seqs]
  · rw [State.send_seqs, State.setSession_seqs]
@[simp] theorem State.noticeTo_bseqs (s : State) (n : Nat) (x : Session) (q c t : Nat) (b : List Word) : (s.noticeTo n x q c t b).bseqs = s.bseqs := by
  unfold State.noticeTo; dsimp only; split
  · rw [State.setSession_bseqs]
  · rw [State.send_bseqs, State.setSession_bseqs]
@[simp] theorem State.noticeTo_vecMems (s : State) (n : Nat) (x : Session) (q c t : Nat) (b : List Word) : (s.noticeTo n x q c t b).vecMems = s.vecMems := by
  unfold State.noticeTo; dsimp only; split
  · rw [State.setSession_vecMems]
  · rw [State.send_vecMems, State.setSession_vecMems]
@[simp] theorem State.noticeTo_acqs (s : State) (n : Nat) (x : Session) (q c t : Nat) (b : List Word) : (s.noticeTo n x q c t b).acqs = s.acqs := by
  unfold State.noticeTo; dsimp only; split
  · rw [State.setSession_acqs]
  · rw [State.send_acqs, State.setSession_acqs]
@[simp] theorem State.noticeTo_patternFired (s : State) (n : Nat) (x : Session) (q c t : Nat) (b : List Word) : (s.noticeTo n x q c t b).patternFired = s.patternFired := by
  unfold State.noticeTo; dsimp only; split
  · rw [State.setSession_patternFired]
  · rw [State.send_patternFired, State.setSession_patternFired]
@[simp] theorem State.noticeTo_stamps (s : State) (n : Nat) (x : Session) (q c t : Nat) (b : List Word) : (s.noticeTo n x q c t b).stamps = s.stamps := by
  unfold State.noticeTo; dsimp only; split
  · rw [State.setSession_stamps]
  · rw [State.send_stamps, State.setSession_stamps]
@[simp] theorem State.noticeTo_time (s : State) (n : Nat) (x : Session) (q c t : Nat) (b : List Word) : (s.noticeTo n x q c t b).time = s.time := by
  unfold State.noticeTo; dsimp only; split
  · rw [State.setSession_time]
  · rw [State.send_time, State.setSession_time]
@[simp] theorem State.noticeTo_ptp (s : State) (n : Nat) (x : Session) (q c t : Nat) (b : List Word) : (s.noticeTo n x q c t b).ptp = s.ptp := by
  unfold State.noticeTo; dsimp only; split
  · rw [State.setSession_ptp]
  · rw [State.send_ptp, State.setSession_ptp]
@[simp] theorem State.noticeTo_arb (s : State) (n : Nat) (x : Session) (q c t : Nat) (b : List Word) : (s.noticeTo n x q c t b).arb = s.arb := by
  unfold State.noticeTo; dsimp only; split
  · rw [State.setSession_arb]
  · rw [State.send_arb, State.setSession_arb]
@[simp] theorem State.noticeTo_boot (s : State) (n : Nat) (x : Session) (q c t : Nat) (b : List Word) : (s.noticeTo n x q c t b).boot = s.boot := by
  unfold State.noticeTo; dsimp only; split
  · rw [State.setSession_boot]
  · rw [State.send_boot, State.setSession_boot]
@[simp] theorem State.noticeTo_net (s : State) (n : Nat) (x : Session) (q c t : Nat) (b : List Word) : (s.noticeTo n x q c t b).net = s.net := by
  unfold State.noticeTo; dsimp only; split
  · rw [State.setSession_net]
  · rw [State.send_net, State.setSession_net]
@[simp] theorem State.noticeTo_links (s : State) (n : Nat) (x : Session) (q c t : Nat) (b : List Word) : (s.noticeTo n x q c t b).links = s.links := by
  unfold State.noticeTo; dsimp only; split
  · rw [State.setSession_links]
  · rw [State.send_links, State.setSession_links]
@[simp] theorem State.noticeTo_bankLines (s : State) (n : Nat) (x : Session) (q c t : Nat) (b : List Word) : (s.noticeTo n x q c t b).bankLines = s.bankLines := by
  unfold State.noticeTo; dsimp only; split
  · rw [State.setSession_bankLines]
  · rw [State.send_bankLines, State.setSession_bankLines]
@[simp] theorem State.noticeTo_hk (s : State) (n : Nat) (x : Session) (q c t : Nat) (b : List Word) : (s.noticeTo n x q c t b).hk = s.hk := by
  unfold State.noticeTo; dsimp only; split
  · rw [State.setSession_hk]
  · rw [State.send_hk, State.setSession_hk]
@[simp] theorem State.noticeTo_aouts (s : State) (n : Nat) (x : Session) (q c t : Nat) (b : List Word) : (s.noticeTo n x q c t b).aouts = s.aouts := by
  unfold State.noticeTo; dsimp only; split
  · rw [State.setSession_aouts]
  · rw [State.send_aouts, State.setSession_aouts]
@[simp] theorem State.noticeTo_waves (s : State) (n : Nat) (x : Session) (q c t : Nat) (b : List Word) : (s.noticeTo n x q c t b).waves = s.waves := by
  unfold State.noticeTo; dsimp only; split
  · rw [State.setSession_waves]
  · rw [State.send_waves, State.setSession_waves]

/-! ## logFault -/

@[simp] theorem State.logFault_pending (s : State) (c : Nat) (l : Bool) (o i k : Nat) : (s.logFault c l o i k).pending = s.pending := by
  unfold State.logFault; dsimp only; split <;> rfl
@[simp] theorem State.logFault_now (s : State) (c : Nat) (l : Bool) (o i k : Nat) : (s.logFault c l o i k).now = s.now := by
  unfold State.logFault; dsimp only; split <;> rfl
@[simp] theorem State.logFault_clock (s : State) (c : Nat) (l : Bool) (o i k : Nat) : (s.logFault c l o i k).clock = s.clock := by
  unfold State.logFault; dsimp only; split <;> rfl
@[simp] theorem State.logFault_free (s : State) (c : Nat) (l : Bool) (o i k : Nat) : (s.logFault c l o i k).free = s.free := by
  unfold State.logFault; dsimp only; split <;> rfl
@[simp] theorem State.logFault_regs (s : State) (c : Nat) (l : Bool) (o i k : Nat) : (s.logFault c l o i k).regs = s.regs := by
  unfold State.logFault; dsimp only; split <;> rfl
@[simp] theorem State.logFault_commits (s : State) (c : Nat) (l : Bool) (o i k : Nat) : (s.logFault c l o i k).commits = s.commits := by
  unfold State.logFault; dsimp only; split <;> rfl
@[simp] theorem State.logFault_host (s : State) (c : Nat) (l : Bool) (o i k : Nat) : (s.logFault c l o i k).host = s.host := by
  unfold State.logFault; dsimp only; split <;> rfl
@[simp] theorem State.logFault_events (s : State) (c : Nat) (l : Bool) (o i k : Nat) : (s.logFault c l o i k).events = s.events := by
  unfold State.logFault; dsimp only; split <;> rfl
@[simp] theorem State.logFault_records (s : State) (c : Nat) (l : Bool) (o i k : Nat) : (s.logFault c l o i k).records = s.records := by
  unfold State.logFault; dsimp only; split <;> rfl
@[simp] theorem State.logFault_chans (s : State) (c : Nat) (l : Bool) (o i k : Nat) : (s.logFault c l o i k).chans = s.chans := by
  unfold State.logFault; dsimp only; split <;> rfl
@[simp] theorem State.logFault_descs (s : State) (c : Nat) (l : Bool) (o i k : Nat) : (s.logFault c l o i k).descs = s.descs := by
  unfold State.logFault; dsimp only; split <;> rfl
@[simp] theorem State.logFault_calSets (s : State) (c : Nat) (l : Bool) (o i k : Nat) : (s.logFault c l o i k).calSets = s.calSets := by
  unfold State.logFault; dsimp only; split <;> rfl
@[simp] theorem State.logFault_points (s : State) (c : Nat) (l : Bool) (o i k : Nat) : (s.logFault c l o i k).points = s.points := by
  unfold State.logFault; dsimp only; split <;> rfl
@[simp] theorem State.logFault_sweeps (s : State) (c : Nat) (l : Bool) (o i k : Nat) : (s.logFault c l o i k).sweeps = s.sweeps := by
  unfold State.logFault; dsimp only; split <;> rfl
@[simp] theorem State.logFault_regen (s : State) (c : Nat) (l : Bool) (o i k : Nat) : (s.logFault c l o i k).regen = s.regen := by
  unfold State.logFault; dsimp only; split <;> rfl
@[simp] theorem State.logFault_seqs (s : State) (c : Nat) (l : Bool) (o i k : Nat) : (s.logFault c l o i k).seqs = s.seqs := by
  unfold State.logFault; dsimp only; split <;> rfl
@[simp] theorem State.logFault_bseqs (s : State) (c : Nat) (l : Bool) (o i k : Nat) : (s.logFault c l o i k).bseqs = s.bseqs := by
  unfold State.logFault; dsimp only; split <;> rfl
@[simp] theorem State.logFault_vecMems (s : State) (c : Nat) (l : Bool) (o i k : Nat) : (s.logFault c l o i k).vecMems = s.vecMems := by
  unfold State.logFault; dsimp only; split <;> rfl
@[simp] theorem State.logFault_acqs (s : State) (c : Nat) (l : Bool) (o i k : Nat) : (s.logFault c l o i k).acqs = s.acqs := by
  unfold State.logFault; dsimp only; split <;> rfl
@[simp] theorem State.logFault_patternFired (s : State) (c : Nat) (l : Bool) (o i k : Nat) : (s.logFault c l o i k).patternFired = s.patternFired := by
  unfold State.logFault; dsimp only; split <;> rfl
@[simp] theorem State.logFault_stamps (s : State) (c : Nat) (l : Bool) (o i k : Nat) : (s.logFault c l o i k).stamps = s.stamps := by
  unfold State.logFault; dsimp only; split <;> rfl
@[simp] theorem State.logFault_time (s : State) (c : Nat) (l : Bool) (o i k : Nat) : (s.logFault c l o i k).time = s.time := by
  unfold State.logFault; dsimp only; split <;> rfl
@[simp] theorem State.logFault_ptp (s : State) (c : Nat) (l : Bool) (o i k : Nat) : (s.logFault c l o i k).ptp = s.ptp := by
  unfold State.logFault; dsimp only; split <;> rfl
@[simp] theorem State.logFault_arb (s : State) (c : Nat) (l : Bool) (o i k : Nat) : (s.logFault c l o i k).arb = s.arb := by
  unfold State.logFault; dsimp only; split <;> rfl
@[simp] theorem State.logFault_boot (s : State) (c : Nat) (l : Bool) (o i k : Nat) : (s.logFault c l o i k).boot = s.boot := by
  unfold State.logFault; dsimp only; split <;> rfl
@[simp] theorem State.logFault_net (s : State) (c : Nat) (l : Bool) (o i k : Nat) : (s.logFault c l o i k).net = s.net := by
  unfold State.logFault; dsimp only; split <;> rfl
@[simp] theorem State.logFault_links (s : State) (c : Nat) (l : Bool) (o i k : Nat) : (s.logFault c l o i k).links = s.links := by
  unfold State.logFault; dsimp only; split <;> rfl
@[simp] theorem State.logFault_bankLines (s : State) (c : Nat) (l : Bool) (o i k : Nat) : (s.logFault c l o i k).bankLines = s.bankLines := by
  unfold State.logFault; dsimp only; split <;> rfl
@[simp] theorem State.logFault_hk (s : State) (c : Nat) (l : Bool) (o i k : Nat) : (s.logFault c l o i k).hk = s.hk := by
  unfold State.logFault; dsimp only; split <;> rfl
@[simp] theorem State.logFault_aouts (s : State) (c : Nat) (l : Bool) (o i k : Nat) : (s.logFault c l o i k).aouts = s.aouts := by
  unfold State.logFault; dsimp only; split <;> rfl
@[simp] theorem State.logFault_waves (s : State) (c : Nat) (l : Bool) (o i k : Nat) : (s.logFault c l o i k).waves = s.waves := by
  unfold State.logFault; dsimp only; split <;> rfl

end Sys2Proof.Machine
end

