-- ==== Sys2Proof/Laws/Protocol.lean ====
section
/-!
SUPPORT. What happens to a request in order, said once for every command: it is paid for, its command works in the admitted state,
and it is answered or refused.
-/

namespace Sys2Proof.Machine

theorem session_setSession (s : State) (n : Nat) (x : Session) : (s.setSession n x).session n = some x := by
  unfold State.session State.setSession
  exact find_insertKey_same ..

theorem setSession_setSession (s : State) (n : Nat) (x y : Session) : (s.setSession n x).setSession n y = s.setSession n y := by
  simp only [State.setSession, insertKey_insertKey]

theorem advanceSeq_setSession (s : State) (n : Nat) (x : Session) :
    (s.setSession n x).advanceSeq n = s.setSession n { x with next := (x.next + 1) % 2 ^ 32 } := by
  unfold State.advanceSeq
  rw [session_setSession]
  exact setSession_setSession ..

/-- A received frame turns what is sent to its host to its port, and nothing else of a session (R562). -/
theorem session_frameIn (s : State) (p : Port) (mac n : Nat) :
    (s.frameIn p mac).session n = (s.session n).map (Session.heard p mac) := by
  simp [State.session, State.frameIn, State.heardFrom, find_mapValues]

@[simp] theorem isFrozen_frameIn (s : State) (p : Port) (mac m : Nat) : (s.frameIn p mac).isFrozen m = s.isFrozen m := by
  simp [State.isFrozen]

@[simp] theorem session_admitted (s : State) (r : Req) (n : Nat) (x : Session) :
    (s.admitted r n x).session n = some (s.paying r x) := session_setSession ..

theorem regAt_heardFrom (s : State) (p : Port) (mac : Nat) (o : Obj) (n f w : Nat) :
    (s.heardFrom p mac).regAt o n f w = s.regAt o n f w := by
  simp [State.regAt]

theorem regAt_learn (s : State) (p : Port) (mac : Nat) (o : Obj) (n f w : Nat) : (s.learn p mac).regAt o n f w = s.regAt o n f w := by
  simp [State.regAt]

/-- A received frame writes PORT fields only. -/
theorem regAt_frameIn (s : State) (p : Port) (mac : Nat) (o : Obj) (n f w : Nat) (ho : o ≠ .port) (hn : n < 65536)
    (hf : f < 65536) (hw : w < 16) : (s.frameIn p mac).regAt o n f w = s.regAt o n f w := by
  have hp : portNum p < 65536 := by cases p <;> decide
  have hc : objCode .port ≠ objCode o := by cases o <;> simp_all [objCode]
  rw [State.frameIn, regAt_heardFrom, regAt_learn]
  simp only [State.count, State.setRb, State.setRf, State.setReg]
  rw [regAt_setRegAt_obj _ _ _ _ _ _ _ _ _ _ hc hp hn (by decide) hf (by decide) hw,
    regAt_setRegAt_obj _ _ _ _ _ _ _ _ _ _ hc hp hn (by decide) hf (by decide) hw]

/-- The fields of every object but PORT are as they were when a request is admitted. -/
theorem regAt_admitted (s : State) (r : Req) (n : Nat) (x : Session) (o : Obj) (k f w : Nat) (ho : o ≠ .port) (hn : k < 65536)
    (hf : f < 65536) (hw : w < 16) : (s.admitted r n x).regAt o k f w = s.regAt o k f w := by
  have h : (s.admitted r n x).regAt o k f w = (s.frameIn r.env.src.port r.env.src.mac).regAt o k f w := by
    simp [State.regAt, State.admitted]
  rw [h, regAt_frameIn _ _ _ _ _ _ _ ho hn hf hw]

/-- A frame that fits the MTU is taken by the switch as received. -/
theorem takeFrame_fits {s : State} {p : Port} {mac n : Nat} {act : State → State} (hs : s.switching = true)
    (hn : (s.frameIn p mac).tooLong n = false) : s.takeFrame p mac n act = act (s.frameIn p mac) := by
  simp [State.takeFrame, hs, hn]

/-- A request in order reaches its command in the admitted state. -/
theorem receive_inOrder {s : State} {r : Req} {n : Nat} {x : Session} (h : InOrder s r n x) :
    s.receive handle r = State.drainHeld handle n 31 ((s.admitted r n x).process handle n x.key r) := by
  obtain ⟨-, hr, hst, hf, hfr, hnum, hn0, hop, htag, hfree, -, hpaid, hnext, -, -, -, -, -⟩ := h
  simp only [Req.framed, Bool.and_eq_true, beq_iff_eq] at hfr
  obtain ⟨⟨⟨⟨h1, h2⟩, h3⟩, h4⟩, h5⟩ := hfr
  have hmtu : (s.frameIn r.env.src.port r.env.src.mac).tooLong
      (clientBytes r.env) = false := by
    have hreg := regAt_frameIn s r.env.src.port r.env.src.mac .dev 0 0x183 0 (by simp) (by decide) (by decide) (by decide)
    simp only [State.fitsMtu, State.tooLong, State.rf, State.reg, Bool.not_eq_true'] at hf ⊢
    simp only [hreg]
    exact hf
  simp only [State.tokens, Req.cost] at hpaid
  have hsw : s.switching = true := by simp [State.switching, hr]
  unfold State.receive
  dsimp only
  rw [takeFrame_fits hsw hmtu]
  simp only [State.frameIn_boot, State.frameIn_faults, hr, hst, hmtu, h1, h2, h3, h4, h5, hnum, hn0, session_frameIn, Option.map_some,
    Session.heard, hop, htag,
    isFrozen_frameIn, hfree, State.frameIn_clock]
  simp only [bne_self_eq_false, Option.isSome_none, Bool.or_self, Bool.false_eq_true, if_false, Bool.not_true]
  rw [← h4]
  simp only [Nat.not_lt.2 hpaid, if_false]
  unfold State.inSession
  simp only [hnext, Nat.add_sub_cancel_left, advanceSeq_setSession]
  simp only [Nat.mod_self, if_true]
  simp only [State.admitted, State.paying, State.tokens, Req.cost]
  unfold Source.heard
  split <;> rfl

/-- The envelope of a request in order passes its checks. -/
theorem envelopeOk_inOrder {s : State} {r : Req} {n : Nat} {x : Session} (h : InOrder s r n x) :
    (s.admitted r n x).envelopeOk r = .ok () := by
  have hz : ∀ m, (s.admitted r n x).isFrozen m = s.isFrozen m := by
    intro m
    simp [State.isFrozen, State.admitted]
  have ht := h.timing
  simp only [State.envelopeOk, require, demand, hz, h.served, h.whole, h.control, h.bounded]
  rcases ht with ht | ⟨h3, ht⟩
  · simp [ht]; rfl
  · simp [ht, h3]; rfl

/-- A command that works in the admitted state is answered. -/
theorem receive_answered {s : State} {r : Req} {n : Nat} {x : Session} {d : Done} (h : InOrder s r n x)
    (hd : handle r (s.admitted r n x) = .ok d) (hl : d.later = false) (hfit : 40 + 4 * d.body.length ≤ x.maxReply) :
    s.receive handle r = s.answered r n x d := by
  have hb : (s.admitted r n x).nextBoundary = s.nextBoundary := by
    simp [State.nextBoundary, State.admitted]
  have hf : (s.admitted r n x).replyFits n d = .ok d := by
    simp only [State.replyFits, session_admitted, State.paying]
    rw [if_neg (by omega)]
  rw [receive_inOrder h, State.answered, State.process, envelopeOk_inOrder h]
  simp only [bind, Except.bind, hd, hf, hl, hb]
  rfl

/-- A refused command leaves the admitted state as it is. -/
theorem receive_refused {s : State} {r : Req} {n : Nat} {x : Session} {d : Denial} (h : InOrder s r n x)
    (hd : handle r (s.admitted r n x) = .error d) : s.receive handle r = s.turnedAway r n x d := by
  have hb : (s.admitted r n x).now = s.now := by simp [State.admitted]
  rw [receive_inOrder h, State.turnedAway, State.process, envelopeOk_inOrder h]
  simp only [bind, Except.bind, hd, hb]

/-- A command whose reply follows later leaves the request executing. -/
theorem receive_later {s : State} {r : Req} {n : Nat} {x y : Session} {d : Done} (h : InOrder s r n x)
    (hd : handle r (s.admitted r n x) = .ok d) (hl : d.later = true) (hfit : 40 + 4 * d.body.length ≤ x.maxReply)
    (hy : d.state.session n = some y) :
    s.receive handle r = State.drainHeld handle n 31
      (d.state.setSession n { y with executing := y.executing ++ [r.env.seq.toNat] }) := by
  have hf : (s.admitted r n x).replyFits n d = .ok d := by
    simp only [State.replyFits, session_admitted, State.paying]
    rw [if_neg (by omega)]
  rw [receive_inOrder h, State.process, envelopeOk_inOrder h]
  simp only [bind, Except.bind, hd, hf, hl, hy]
  rfl

end Sys2Proof.Machine
end

