-- ==== Sys2Proof/Tests/Slice0.lean ====
section
/-!
SUPPORT. Tests of the model on small states: every check of WellFormed refuses a term that fails it, some commands have the results the
manual's rules give for them, and the hypotheses of the statements can be met together. No test is a statement for the provers.
-/

open Sys2Proof Sys2Proof.Machine

namespace Sys2Proof.Tests

set_option Elab.async false

/-! ## Small states -/

/-- The session the tests send from: number 1, with a key of sixteen zero bytes, nothing sent yet and a full bucket. -/
def sess : Session where
  key := List.replicate 16 0
  src := ⟨.a, 0x020000000001, 0x0A000001, 40000, none⟩
  msgRate := 1000
  burst := 64
  timeout := 10
  maxReply := 8192
  noticePort := 40000
  egressPort := 40000
  noticeMask := 0
  bucket := 64 * 10 ^ 9
  bucketAt := 0
  next := 1
  held := []
  replies := []
  executing := []
  lastValid := 0
  noticeBucket := 0
  noticeAt := 0
  noticeLost := false
  streamSeq := 0

/-- The device after reset with that session open. -/
def dev : State := { State.reset with host := { State.reset.host with sessions := [(1, sess)] } }

/-- An envelope without a tag. -/
def bare (body : List Word) : Envelope where
  src := sess.src
  udpLength := 40 + 4 * body.length
  magic := 0x52D0
  version := 1
  kind := 1
  session := 1
  length := BitVec.ofNat 16 (40 + 4 * body.length)
  seq := 1
  ctl := 0
  atField := 0
  tag := 0
  auxLate := false
  tail := []

/-- The envelope of the session's next request, with its tag. -/
def env (cmd : HostCmd) (body : List Word) : Envelope :=
  { bare body with tag := BitVec.ofNat 128 (ofBytes ((hmacSha256 sess.key (Req.bytes ⟨cmd, bare body, body⟩)).take 16)) }

/-- Device s takes the session's next request. -/
def ready (s : State) (body : List Word) : Bool :=
  decide (s.boot.phase = .running) && decide (s.faults.restart = none) && s.fitsMtu (bare body) && decide (40 + 4 * body.length ≤ 8960) &&
    decide (s.session 1 = some sess) && s.faults.frozen.all (fun p => decide (0x3000 ≤ p.1)) &&
    decide (ceilDiv (40 + 4 * body.length) 1024 * 10 ^ 9 ≤ s.tokens sess)

theorem ofBytes_fold (l : List Byte) (a : Nat) : l.foldl (fun a b => a * 256 + b.toNat) a < (a + 1) * 256 ^ l.length := by
  induction l generalizing a with
  | nil => simp
  | cons b l ih =>
    have h1 := ih (a * 256 + b.toNat)
    have h2 := b.isLt
    have h3 : (a * 256 + b.toNat + 1) * 256 ^ l.length ≤ (a + 1) * 256 * 256 ^ l.length :=
      Nat.mul_le_mul_right _ (by omega)
    simp only [List.foldl_cons, List.length_cons, Nat.pow_succ]
    calc _ < _ := h1
      _ ≤ _ := h3
      _ = _ := by rw [Nat.mul_assoc, Nat.mul_comm 256]

theorem ofBytes_lt (l : List Byte) : ofBytes l < 256 ^ l.length := by
  have := ofBytes_fold l 0
  simpa [ofBytes] using this

theorem tag_toNat (l : List Byte) : (BitVec.ofNat 128 (ofBytes (l.take 16))).toNat = ofBytes (l.take 16) := by
  have hl := ofBytes_lt (l.take 16)
  have hp : 256 ^ (l.take 16).length ≤ 256 ^ 16 := Nat.pow_le_pow_right (by omega) (List.length_take_le 16 _)
  have h : ofBytes (l.take 16) < 2 ^ 128 := Nat.lt_of_lt_of_le hl (Nat.le_trans hp (by decide))
  rw [BitVec.toNat_ofNat, Nat.mod_eq_of_lt h]

/-- The tag of env is right, whatever the command. -/
theorem tagOk_env (cmd : HostCmd) (body : List Word) : Req.tagOk sess.key ⟨cmd, env cmd body, body⟩ = true := by
  have hb : Req.bytes ⟨cmd, env cmd body, body⟩ = Req.bytes ⟨cmd, bare body, body⟩ := by simp only [Req.bytes, env]
  simp only [Req.tagOk, hb]
  simp only [env, tag_toNat, beq_self_eq_true]

theorem fits_env (s : State) (cmd : HostCmd) (body : List Word) : s.fitsMtu (env cmd body) = s.fitsMtu (bare body) := by
  have h : clientBytes (env cmd body) = clientBytes (bare body) := by simp only [clientBytes, env]; rfl
  simp only [State.fitsMtu, h]

theorem source_formed : sess.src.wellFormed = true := by decide

theorem find_none {α : Type} {m : List (Nat × α)} {k : Nat} (h : ∀ p ∈ m, p.1 ≠ k) : find m k = none := by
  induction m with
  | nil => rfl
  | cons p r ih =>
    have h1 : p.1 ≠ k := h p (by simp)
    have h2 := ih fun q hq => h q (by simp [hq])
    simp only [find, h1, if_false, h2]

/-- No session and no task is frozen where ready holds. -/
theorem unfrozen {s : State} {k : Nat} (h : s.faults.frozen.all (fun p => decide (0x3000 ≤ p.1)) = true) (hk : k < 0x3000) :
    s.isFrozen k = false := by
  have h1 : find s.faults.frozen k = none := find_none fun p hp => by
    have := List.all_eq_true.mp h p hp
    simp at this
    omega
  simp [State.isFrozen, h1]

/-- A request of the session is in order on a device that is ready for it. -/
theorem inOrder_env {s : State} {cmd : HostCmd} {body : List Word} (h : ready s body = true) :
    InOrder s ⟨cmd, env cmd body, body⟩ 1 sess := by
  simp only [ready, Bool.and_eq_true, decide_eq_true_eq] at h
  obtain ⟨⟨⟨⟨⟨⟨h1, h2⟩, h3⟩, h4⟩, h5⟩, h6⟩, h7⟩ := h
  have hl : (env cmd body).length.toNat = 40 + 4 * body.length := by
    simp only [env, bare, BitVec.toNat_ofNat]; omega
  exact {
    formed := by
      have : 40 + 4 * body.length < 65536 := by omega
      simp [env, bare, Envelope.wellFormed, this, source_formed]
    running := h1
    steady := h2
    fits := (fits_env s cmd body).trans h3
    framed := by simp [Req.framed, Req.size, hl]; simp [env, bare]
    number := rfl
    inSession := by decide
    opened := h5
    tagged := tagOk_env cmd body
    free := unfrozen h6 (by decide)
    served := by
      show (cmd.releases || !s.isFrozen (0x2000 + Config.servingTask cmd.code % 4096)) = true
      simp [unfrozen h6 (k := 0x2000 + Config.servingTask cmd.code % 4096) (by omega)]
    paid := by simp only [Req.cost, hl]; exact h7
    next := rfl
    whole := rfl
    control := by simp [env, bare, bitsOf]
    timing := Or.inl (by simp [env, bare, bitsOf])
    room := by decide
    bounded := by rw [hl]; exact h4 }

/-- What the tests send as a request that opens a session, before its tag. -/
def openBody : List Word := [1, 2, 3, 4, 1000, 0x0040000A, 0x20009C40, 0]

def openEnv : Envelope :=
  let e : Envelope := { bare openBody with session := 0, seq := 0 }
  { e with tag := BitVec.ofNat 128 (ofBytes ((hmacSha256 sess.key (Req.bytes ⟨.sessionOpen, e, openBody⟩)).take 16)) }

/-- A request of the session with a SEQ of its own. -/
def envAt (seq : Nat) : Envelope :=
  let e : Envelope := { bare [] with seq := BitVec.ofNat 32 seq }
  { e with tag := BitVec.ofNat 128 (ofBytes ((hmacSha256 sess.key (Req.bytes ⟨.sessionPing, e, []⟩)).take 16)) }

/-- Device dev with another state of its session. -/
def devWith (x : Session) : State := { State.reset with host := { State.reset.host with sessions := [(1, x)] } }

/-- Device dev with the staging buffer of OUTER 0 holding KP of the session. -/
def staged : State := { dev with commits := { dev.commits with staging := [⟨⟨.outer, 0, 0⟩, 1, [⟨2, 0, 0x3F800000⟩]⟩] } }

/-- A ticket that waits for its release word. -/
def ticket : Ticket := ⟨3, 0, 1, [⟨⟨.outer, 0, 0⟩, 1, [⟨2, 0, 0x3F800000⟩]⟩], false, 50, 100, false, false, none⟩

/-- What a check answers, where it answers. -/
def okOf {α : Type} (d : α) : Except Denial α → α
  | .ok x => x
  | .error _ => d

def isOk {α : Type} : Except Denial α → Bool
  | .ok _ => true
  | .error _ => false

theorem exc_eq {α : Type} [DecidableEq α] {w : Except Denial α} (x : α)
    (h : (match w with | .ok y => decide (y = x) | .error _ => false) = true) : w = .ok x := by
  cases w with
  | ok y => simp at h; rw [h]
  | error d => simp at h

/-- What a check refuses with, where it refuses. -/
def errOf {α : Type} : Except Denial α → Denial
  | .ok _ => { err := .format }
  | .error d => d

theorem err_of {α : Type} (w : Except Denial α) (h : isOk w = false) : w = .error (errOf w) := by
  cases w with
  | ok x => exact absurd h (by simp [isOk])
  | error d => rfl

theorem err_eq {α : Type} {w : Except Denial α} (x : Denial)
    (h : (match w with | .ok _ => false | .error d => decide (d = x)) = true) : w = .error x := by
  cases w with
  | ok y => simp at h
  | error d => simp at h; rw [h]

def clearRow : FieldRow := (fieldRowForWrite .repet 1).getD ⟨0, 0, 0, .locked, [], []⟩

/-- The body of CLEAR of channel 511. -/
def clearBody : List Word := word 1 :: encodeItems [⟨0x22, false, 0, 511, 1, 1, [0x20000000]⟩]

theorem ok_of {α : Type} (d : α) (w : Except Denial α) (h : isOk w = true) : w = .ok (okOf d w) := by
  cases w with
  | ok x => rfl
  | error x => exact absurd h (by simp [isOk])

/-- Reset with fields of one object's word 0. -/
def field (s : State) (o : Obj) (n f v : Nat) : State := s.setReg o n f (BitVec.ofNat 32 v)

/-- dev with a lock of channel 511 that the session owns; leaseEnds as given. -/
def locked (ends : Option Nat) : State := { dev with faults := { dev.faults with locks := [(0, ⟨.chan, 511, 0x1001, ends⟩)] } }

def conv (origin : Nat) : HkConv := ⟨31, origin, 0, 0, 0, false, 0⟩

/-- dev with a housekeeping conversion in progress. -/
def converting (origin : Nat) : State := { dev with hk := { dev.hk with conv := some (conv origin) } }

/-- Route 1023 from TRIG pin 15 to FORCE of channel 511, enabled, with re-arm interval 3 and divider 2. -/
def routed : State :=
  field (field (field (field dev .route 1023 0 0x80000003) .route 1023 1 0x100F) .route 1023 3 0x51FF) .route 1023 4 2

/-- Channel sequencer 511 with a program of one HALT. -/
def haltProgram (s : State) : State := (field s .seq 511 0 0x100).setRegAt .seq 511 0x100 0 0

def request (m : Nat) : ArbReq := ⟨m, 3, 0, false, false, false, false⟩

def calHead : List Word := [0x0001FFFF, 0, 0, 7, 0, 0]

/-- A calibration image without sections. -/
def calImage : CalSet where
  state := 1
  words := [(0, 0x0001FFFF), (3, 7), (6, BitVec.ofNat 32 (crc32 (wordBytes calHead)))]
  top := 6
  checks := []
  worn := []

def queued (m slot : Nat) : State := { dev with arb := { dev.arb with queue := [request m], slot := slot } }

def timedReq (k : TimedKind) : TimedReq := ⟨5, 1, k, [1], 0, true, 0, .a, false⟩

/-- dev with an admitted command whose boundary has come. -/
def atBoundary (k : TimedKind) : State := { dev with commits := { dev.commits with timed := [timedReq k] } }

/-- s with one admitted command, for instances 511, whose boundary has come. -/
def timedAt (s : State) (k : TimedKind) (flags : Word) : State :=
  { s with commits := { s.commits with timed := [⟨5, 1, k, [511], flags, true, 0, .a, false⟩] } }

/-- The command of timedAt. -/
def timedReqAt (k : TimedKind) (flags : Word) : TimedReq := ⟨5, 1, k, [511], flags, true, 0, .a, false⟩

def bankBody : List Word := [0, 1, word (7 * 65536)]

def chanBody : List Word := [0, 1, word (511 * 65536)]

def bankRun : State := dev.admitted ⟨.bseqRun, env .bseqRun bankBody, bankBody⟩ 1 sess

def shortProgram : State := field dev .seq 511 0 0x100

def chanRun : State := shortProgram.admitted ⟨.seqRun, env .seqRun chanBody, chanBody⟩ 1 sess

def longRecord : State := field (field dev .acq 511 5 1000) .acq 511 6 1000

def unitRun : State := longRecord.admitted ⟨.acqArm, env .acqArm chanBody, chanBody⟩ 1 sess

/-- A packet of FIFO 8 with one word of payload and its CRC, stored first. -/
def spooled : SpoolPacket := ⟨withCheck (mkPacket 2 false false false 8 0x40 511 0 0 0 [1]), 36, false, false, false⟩

def withRecords (s : State) (f : Records → Records) : State := { s with records := f s.records }

def withSpool (f : Spool → Spool) : State := withRecords dev fun r => { r with spool := f r.spool }

def withJournal (s : State) (f : Journal → Journal) : State := withRecords s fun r => { r with journal := f r.journal }

def opened : OpenPacket := ⟨0, true, false, 0, 0, [1], 0⟩

/-- dev with a packet in FIFO 8. -/
def ringed : State := withRecords dev fun r => { r with rings := [(8, ⟨[[1]], false⟩)] }

def egressTo : EgressTo := ⟨1, sess.key, sess.src, 40000⟩

def kept : JRecord := ⟨0, 5, 1, [[1]], 3, 4, 0, [], true⟩

def journalOn : State := field (field dev .journal 0 8 0x80000000) .journal 0 0x20 0x80000000

def opening : JOpen := ⟨0, 0, [[1]], 32, 0, 0⟩

def record : Record := ⟨3, none, false, 0, 0, 0, 0, 1, 0, 0, .fresh, true⟩

def unit (a : Acq) : State := { dev with acqs := [(511, a)] }

/-- Channel 511 of s in a state of CHAN.STATE, with what it keeps beside its fields. -/
def chanAt (s : State) (state : Nat) (x : Chan) : State := (field s .chan 511 0x20 state).setChan 511 x

def late (s : State) : State := { s with clock := 10 ^ 10 }

def ch : Chan := Chan.fresh

def supv (x : Supervise) : Chan := { ch with supv := x }

def plausible : State := chanAt dev 4 (supv { ch.supv with plDue := some (2, 5) })

/-- A descriptor whose every range has full scale 10. -/
def described (s : State) : State := { s with descs := [(511, List.replicate 24 0x4120000041200000)] }

def autoRanged : State :=
  chanAt (field (field dev .chan 511 1 0x000F0080) .chan 511 0x21 0x50000000) 4
    { ch with autoV := { ch.autoV with upRun := 100, full := true, seen := [(0, 0)], since := some 0 } }

def outerAt (mode : Nat) : State :=
  chanAt (field (field dev .chan 511 0 mode) .outer 511 0 0) 4 { ch with outer := { ch.outer with due := true, good := 1 } }

/-- A fast block that carries zeros. -/
def fastB : Block := BitVec.ofNat 64 (crc16Bits (true :: bitsMsb 48 0) * 2 ^ 48)

def linked (s : State) : State := field s .chan 511 0x52 0x40000000

def change : RangeChange := ⟨false, 3, 0, 0⟩

def msg : HeadMsg := ⟨9, false, 5, [], 1, 1, 0, some (1, ⟨.headRead, env .headRead [0x01FF0001, 5], [0x01FF0001, 5]⟩), false⟩

/-- dev with a head register access of request 1 under way. -/
def asked : State :=
  { dev with host := { dev.host with sessions := [(1, { sess with next := 2, executing := [1] })] } }.setLink 511
    { Link.fresh with msgs := [msg] }

/-- Sequencer q of s in a state of STATE.RUN with one program word, and what it keeps beside its fields. -/
def seqAt (s : State) (q : SeqRef) (run : Nat) (w : Nat) (x : Seq) : State :=
  ((s.setRf q.obj q.num 0x60 31 28 run).setRegAt q.obj q.num 0x100 0 (word w)).setSeqx q x

def sq : Seq := Seq.fresh

def q511 : SeqRef := .chan 511

def q7 : SeqRef := .bank 7

def executing (q : SeqRef) (w : Nat) : State := seqAt dev q 1 w { sq with exec := true }

def expanded (kind : Nat) : Expanded := ⟨kind, 0, 0, 16, 0, 0, 0, 0, 0, 0, 0⟩

/-- dev with sweep 0 of the given kind expanded, its points from granule 0 on. -/
def swept (kind : Nat) : State :=
  field { dev with sweeps := [(0, { Sweep.fresh with from? := some (expanded kind) })] } .sweep 0 0x20 0x20000000

def deciding (run : Nat) (from_ : Nat) (w : Nat) : State :=
  (seqAt { dev with now := 1000 } q511 run w { sq with waitFrom := from_ }).setRegAt .seq 511 0x100 1 5

def under : Underrun := ⟨0, false, 0, 0, 0, none, false⟩

def vec63 : Issued := ⟨0, 0, 0, [(63, 5, 0)], 0, false⟩

/-- A stream datagram of one granule. -/
def streamEnv : Envelope :=
  let e : Envelope := { bare (List.replicate 64 0) with kind := 6, ctl := 1 }
  { e with tag := BitVec.ofNat 128 (ofBytes ((hmacSha256 sess.key (streamBytes e 511 (List.replicate 64 0))).take 16)) }

theorem streamTag : ofBytes ((hmacSha256 sess.key (streamBytes streamEnv 511 (List.replicate 64 0))).take 16) = streamEnv.tag.toNat := by
  have h : streamBytes streamEnv 511 (List.replicate 64 0) =
    streamBytes { bare (List.replicate 64 0) with kind := 6, ctl := 1 } 511 (List.replicate 64 0) := by
    simp only [streamBytes, streamEnv]
  rw [h]
  simp only [streamEnv, tag_toNat]

def linkAt (s : State) (state : Nat) (l : Link) : State := (field s .chan 511 0x52 (state * 2 ^ 28)).setLink 511 l

def lk : Link := Link.fresh

/-- dev with the lines of bank 7 ready and link 511 enabled. -/
def wired : State :=
  late (field (field { dev with bankLines := [(7, ⟨true, 0, 0, 0⟩)] } .chan 511 0x50 0x80000000) .bank 7 0x40 0x40000000)

def descHead : List Block :=
  [0x4844014800000000, 0, 0, 0, 0x8000, 0x0032000000000000, 0, 0, 0x4120000000000000, 0x00010000C0000000] ++ List.replicate 30 0 ++
    [0x4120000000000000, 0x00010000C0000000] ++ List.replicate 30 0

def descGood : List Block := descHead ++ [BitVec.ofNat 64 (crc32 (blockBytes descHead))]

set_option maxRecDepth 20000 in
theorem descGood_ok : descOk descGood = true := by decide +kernel

def statusHead : List Block := List.replicate 8 0

def statusGood : List Block := statusHead ++ [BitVec.ofNat 64 (crc32 (statusBytes (statusHead ++ [0])) * 2 ^ 32)]

def frozenMaster : State := { dev with faults := { dev.faults with frozen := [(0xB000, 1)] } }

/-- The state an outcome answers, where it answers one. -/
def after : Host.Outcome State Fault Refusal → State
  | .next t => t
  | _ => dev

def goesOn : Host.Outcome State Fault Refusal → Bool
  | .next _ => true
  | _ => false

theorem next_of (o : Host.Outcome State Fault Refusal) (h : goesOn o = true) : o = .next (after o) := by
  cases o with
  | next t => rfl
  | fault f => exact absurd h (by simp [goesOn])
  | refused r => exact absurd h (by simp [goesOn])

def roleAt (role : Nat) : State := field dev .sync 0 0 (role * 2 ^ 30)

def ptpMsg (k : PtpKind) : PtpMsg := ⟨k, 5, false, 0, 7, 0, 0, 128, 248, 9⟩

/-- The frame of a PTP message of 86 bytes over UDP. -/
def ptpFrame (dst : Nat) : PtpFrame := ⟨0x020000000001, dst, .udp4, 0x0A000001, 319, none, 86⟩

def slave : State := field dev .time 0 0 0x20000000

def ethFrame (dst : Nat) (ok : Bool) : EthFrame := ⟨0x020000000001, dst, 0x0800, 64, none, [], ok, false⟩

def addressed : State := field dev .dev 0 0x181 0x0A000001

/-- An enumeration frame to the device's own address before one is assigned. -/
def enumFrame (type : Nat) (payload : List Byte) : EnumFrame :=
  ⟨.a, 0x020000000001, 0x0E0000000000, none,
    [0xD5, BitVec.ofNat 8 type, BitVec.ofNat 8 (payload.length / 256), BitVec.ofNat 8 payload.length, 0, 0, 0, 0] ++ payload⟩

def booting (b : Boot) : State := { State.reset with boot := { b with phase := .bootRom } }

def bt : Boot := State.reset.boot

def loading (n : Nat) : State := booting { bt with loadId := some 1, imageLen := n, checking := none, accepted := false }

def loadFrame (type : Nat) : EnumFrame := enumFrame type [0, 1, 0, 0, 0, 0, 0, 0]

def checked (accepted : Bool) : State := booting { bt with checking := some ⟨.b, 5, none⟩, accepted := accepted, image := [] }

def keyItem : Item := ⟨1, false, 0, 0, 0x184, 1, [5]⟩

def ping : Instr := .sessionPing (env .sessionPing []) []


/-- The same block as it comes from a link whose latest bits are zeros. -/
def fastIn : Received := ⟨1, scramble 0 fastB, 0⟩

/-- A control block with a payload, as it comes after zeros. -/
def controlIn (b : Block) : Received := ⟨2, scramble 0 b, 0⟩

/-- A training block of channel 511. -/
def training (kind adv : Nat) : TrainingBlock := ⟨kind, 0, 0, adv, 0, 511⟩

/-- It as a head sends it after zeros. -/
def trainingIn (kind adv : Nat) : Received := controlIn (training kind adv).payload

/-- It after as many good headers as lock needs. -/
def trainingHeard : Heard := ⟨List.replicate 63 1, trainingIn 0xE1 0⟩

/-- The blocks of statusGood as a head sends them after zeros. -/
def statusLine : List (Nat × Block) := (sendBlocks 0 (statusGood.map fun b => (2, b))).1

/-- Where an image passes the check, a boot ROM about to accept it and a frame for it. -/
theorem witness_ImagesAreLoaded_accepted (b : Boot) (h : checkImage b.bytes = 0) : ∃ (s : State) (f : EnumFrame),
    s.boot.phase = .bootRom ∧ f.wellFormed = true ∧ f.proto = 0xD5 ∧ f.dst = (s.frameIn f.port f.src).ownMac ∧
    (s.frameIn f.port f.src).tooLong f.bytes.length = false ∧
    ∃ from', s.boot.checking = some from' ∧ s.boot.accepted = false ∧ checkImage s.boot.bytes = 0 :=
  ⟨booting { b with checking := some ⟨.b, 5, none⟩, accepted := false }, loadFrame 0x12, rfl, by decide, by decide, by rfl,
    Eq.trans (b := (State.reset.frameIn (loadFrame 0x12).port (loadFrame 0x12).src).tooLong (loadFrame 0x12).bytes.length) (by rfl)
      (by decide +kernel),
    ⟨.b, 5, none⟩, rfl, rfl, h⟩

/-- A fast block of the vector layout with a payload, as it comes after zeros. -/
def compareIn (b : Nat) : Received :=
  ⟨1, scramble 0 (BitVec.ofNat 64 (crc16Bits (true :: bitsMsb 48 b) * 2 ^ 48 + b)), 0⟩

theorem witness_StepRunsFrontCommand :
  (∃ (c : Instr) (rest : List Instr) (s : State), s.pending = c :: rest) ∧
  (∃ s : State, s.pending = []) :=
  ⟨⟨.meridian, [.lantern], { State.reset with pending := [.meridian, .lantern] }, by decide +kernel⟩,
  ⟨State.reset, by decide +kernel⟩⟩

theorem witness_EveryFormedCommandCompletes :
  (∃ (i : Instr) (s : State), i.wellFormed = true) ∧
  (∃ (i : Instr) (s : State), i.wellFormed = false) :=
  ⟨⟨.crossTime 511, State.reset, by decide +kernel⟩,
  ⟨.crossTime 512, State.reset, by decide +kernel⟩⟩

theorem witness_BadMessagesAreCountedAndDropped :
  (∃ (s : State) (r : Req), s.boot.phase = .running ∧ s.faults.restart = none ∧ s.fitsMtu r.env = true ∧ r.framed = false) ∧
  (∃ (s : State) (r : Req) (n : Nat), s.boot.phase = .running ∧ s.faults.restart = none ∧ s.fitsMtu r.env = true ∧ r.framed = true ∧ r.env.session.toNat = n ∧ n ≠ 0 ∧ (∀ x, s.session n = some x → r.tagOk x.key = false)) :=
  ⟨⟨dev, ⟨.sessionPing, { env .sessionPing [] with magic := 0 }, []⟩, by and_intros <;> decide +kernel⟩,
  ⟨dev,
    ⟨.sessionPing, { env .sessionPing [] with session := 2 }, []⟩,
    2,
    by
      iterate 6 refine ⟨by decide +kernel, ?_⟩
      exact fun x h => by simp [State.session, dev, find] at h⟩⟩

theorem witness_RequestsInOrderAreAnswered :
  (∃ (s : State) (r : Req) (n : Nat) (x : Session), InOrder s r n x ∧ ∃ d : Done, handle r (s.admitted r n x) = .ok d ∧ d.later = false ∧ 40 + 4 * d.body.length ≤ x.maxReply) ∧
  (∃ (s : State) (r : Req) (n : Nat) (x : Session), InOrder s r n x ∧ ∃ d : Denial, handle r (s.admitted r n x) = .error d) :=
  ⟨⟨dev,
    ⟨.sessionPing, env .sessionPing [], []⟩,
    1,
    sess,
    inOrder_env (by decide +kernel),
    { state := dev.admitted ⟨.sessionPing, env .sessionPing [], []⟩ 1 sess },
    by first | exact exc_eq _ (by decide +kernel) | decide +kernel | rfl,
    by and_intros <;> decide +kernel⟩,
  ⟨dev, ⟨.sessionPing, env .sessionPing [0], [0]⟩, 1, sess, inOrder_env (by decide +kernel), { err := .format }, err_eq _ (by decide +kernel)⟩⟩

theorem witness_RequestsOutOfOrderAreHeldOrRepeated :
  (∃ (s : State) (r : Req) (n : Nat) (x : Session), s.boot.phase = .running ∧ s.faults.restart = none ∧ s.fitsMtu r.env = true ∧ r.framed = true ∧ r.env.session.toNat = n ∧ n ≠ 0 ∧ s.session n = some x ∧ r.tagOk x.key = true ∧ s.isFrozen (sessionMaster n) = false ∧ s.tokens x < r.cost) ∧
  (∃ (s : State) (r : Req) (n : Nat) (x : Session) (m : OutMsg), s.boot.phase = .running ∧ s.faults.restart = none ∧ s.fitsMtu r.env = true ∧ r.framed = true ∧ r.env.session.toNat = n ∧ n ≠ 0 ∧ s.session n = some x ∧ r.tagOk x.key = true ∧ s.isFrozen (sessionMaster n) = false ∧ r.cost ≤ s.tokens x ∧ 2 ^ 32 - 64 ≤ (r.env.seq.toNat + 2 ^ 32 - x.next) % 2 ^ 32 ∧ x.replies.find? (fun k => k.1 == r.env.seq.toNat) = some (r.env.seq.toNat, m)) ∧
  (∃ (s : State) (r : Req) (n : Nat) (x : Session), s.boot.phase = .running ∧ s.faults.restart = none ∧ s.fitsMtu r.env = true ∧ r.framed = true ∧ r.env.session.toNat = n ∧ n ≠ 0 ∧ s.session n = some x ∧ r.tagOk x.key = true ∧ s.isFrozen (sessionMaster n) = false ∧ r.cost ≤ s.tokens x ∧ 1 ≤ (r.env.seq.toNat + 2 ^ 32 - x.next) % 2 ^ 32 ∧ (r.env.seq.toNat + 2 ^ 32 - x.next) % 2 ^ 32 ≤ 31 ∧ (∀ h ∈ x.held, h.seq ≠ r.env.seq.toNat)) :=
  ⟨⟨devWith { sess with bucket := 0, msgRate := 0 },
    ⟨.sessionPing, env .sessionPing [], []⟩,
    1,
    { sess with bucket := 0, msgRate := 0 },
    by and_intros <;> decide +kernel⟩,
  ⟨devWith { sess with next := 2, replies := [(1, .pause .a 0)] },
    ⟨.sessionPing, env .sessionPing [], []⟩,
    1,
    { sess with next := 2, replies := [(1, .pause .a 0)] },
    .pause .a 0,
    by and_intros <;> decide +kernel⟩,
  ⟨dev, ⟨.sessionPing, envAt 32, []⟩, 1, sess, by and_intros <;> decide +kernel⟩⟩

theorem witness_SessionsOpenActAndEnd :
  (∃ (s : State) (e : Envelope) (h0 h1 h2 h3 rate cfg ports masks : Word) (key : List Byte), 
  let body := [h0, h1, h2, h3, rate, cfg, ports, masks]
  
  let r : Req := ⟨.sessionOpen, e, body⟩
  e.wellFormed = true ∧ s.boot.phase = .running ∧ s.faults.restart = none ∧ s.fitsMtu e = true ∧ r.framed = true ∧ e.session = 0 ∧ e.tail = [] ∧ e.ctl = 0 ∧ s.net.chainKey = some key ∧ r.tagOk key = true ∧ (∃ k, 1 ≤ k ∧ k ≤ 16 ∧ s.session k = none) ∧ s.rateGranted + rate.toNat ≤ 40000 ∧ 10 ≤ rate.toNat ∧ 1 ≤ fld cfg 31 16 ∧ fld cfg 31 16 ≤ 1024 ∧ 1 ≤ fld cfg 15 0 ∧ fld cfg 15 0 ≤ 600 ∧ 1024 ≤ fld ports 31 16 ∧ fld ports 31 16 ≤ 8960) ∧
  (∃ (s : State) (e : Envelope) (n : Nat) (x : Session), InOrder s ⟨.sessionPing, e, []⟩ n x) ∧
  (∃ (s : State) (e : Envelope) (n : Nat) (x : Session), InOrder s ⟨.sessionClose, e, []⟩ n x) ∧
  (∃ (s : State) (n cause : Nat) (x : Session), s.sorted = true ∧ s.session n = some x) ∧
  (∃ (s : State) (n cause : Nat) (x : Session), s.sorted = true ∧ s.session n = some x) ∧
  (∃ (s : State) (n cause : Nat) (x : Session), s.sorted = true ∧ s.session n = some x ∧ ∃ m, m ≠ n) ∧
  (∃ (s : State) (n cause : Nat) (x : Session), s.sorted = true ∧ s.session n = some x ∧ ∃ l ∈ (s.endSession n cause).faults.locks, l.2.owner = sessionMaster n) :=
  ⟨⟨{ State.reset with net := { State.reset.net with chainKey := some sess.key } },
    openEnv,
    1,
    2,
    3,
    4,
    1000,
    0x0040000A,
    0x20009C40,
    0,
    sess.key,
    by
      iterate 10 refine ⟨by decide +kernel, ?_⟩
      exact ⟨⟨1, by decide +kernel⟩, by and_intros <;> decide +kernel⟩⟩,
  ⟨dev, env .sessionPing [], 1, sess, inOrder_env (by decide +kernel)⟩,
  ⟨dev, env .sessionClose [], 1, sess, inOrder_env (by decide +kernel)⟩,
  ⟨dev, 1, 1, sess, by and_intros <;> decide +kernel⟩,
  ⟨dev, 1, 0, sess, by and_intros <;> decide +kernel⟩,
  ⟨dev, 1, 1, sess, by decide +kernel, by decide +kernel, 2, by decide +kernel⟩,
  ⟨locked (some 5), 1, 0, sess, by decide +kernel, by decide +kernel, (0, ⟨.chan, 511, 0x1001, none⟩), by and_intros <;> decide +kernel⟩⟩

theorem witness_ReadReturnsTheField :
  (∃ (s : State) (e : Envelope) (n : Nat) (x : Session) (o : Obj) (k f : Nat) (view : Bool) (row : FieldRow), 
  let head := (⟨objCode o, view, 0, k, f, 1, []⟩ : Item).head
  
  let r : Req := ⟨.read (objCode o), e, word 1 :: head⟩
  InOrder s r n x ∧ k < objCount o ∧ f < 65536 ∧ fieldRow o f = some row ∧ row.words = 1) :=
  ⟨dev,
    env (.read 0x10) (word 1 :: (⟨0x10, false, 0, 511, 0, 1, []⟩ : Item).head),
    1,
    sess,
    .chan,
    511,
    0,
    false,
    ⟨0x0, 1, 1, .staged 0, [0x18000], [0xFFFC000]⟩,
    inOrder_env (by decide +kernel),
    by and_intros <;> decide +kernel⟩

theorem witness_WritesWaitForTheirBoundary :
  (∃ (s : State) (e : Envelope) (n : Nat) (x : Session) (o : Obj) (k f : Nat) (ws : List Word) (row : FieldRow), 
  let item : Item := ⟨objCode o, false, 0, k, f, ws.length, ws⟩
  
  let r : Req := ⟨.write (objCode o), e, word 1 :: encodeItems [item]⟩
  
  let a := s.admitted r n x
  InOrder s r n x ∧ Accepts a n o k f ws row) :=
  ⟨dev,
    env (.write 1) (word 1 :: encodeItems [⟨1, false, 0, 0, 0x184, 1, [0x000A0000]⟩]),
    1,
    sess,
    .dev,
    0,
    0x184,
    [0x000A0000],
    (fieldRowForWrite .dev 0x184).get (by decide),
    inOrder_env (by decide +kernel),
    by constructor <;> first | decide +kernel | rfl | exact exc_eq _ (by decide +kernel)⟩

theorem witness_FieldCommandsWaitForTheirBoundary :
  (∃ (s : State) (e : Envelope) (n : Nat) (x : Session) (i : Instr) (o : Obj) (k f : Nat) (ws : List Word) (row : FieldRow), 
  let r := fieldWrite e o k f ws
  
  let a := s.admitted r n x
  ((i, o, f, ws) ∈ ([(.expand e k, .sweep, 0xA, [0x80000000]), (.release e k, .sweep, 0xA, [0x40000000]), (.clear e k, .repet, 1, [0x20000000]), (.swflag e true k, .bseq, 0x50, [0x80000000]), (.swflag e false k, .seq, 0x51, [0x80000000])] : List (Instr × Obj × Nat × List Word)) ∨ (∃ v, (i, o, f, ws) ∈ ([(.acceptNew e k v, .chan, 0x50, [v ||| 0x40000000]), (.forceLevel e k v, .chan, 0x10, [v]), (.aoutLevel e k v, .aout, 4, [v])] : List (Instr × Obj × Nat × List Word))) ∨ (∃ v, k = 0 ∧ (i, o, f, ws) = (.faultStatus e v, .dev, 0x140, [v])) ∨ (∃ hi lo, (i, o, f, ws) = (.rateWrite e k hi lo, .seq, 0x50, [hi, lo])) ∨ (∃ on v, (i, o, f, ws) ∈ ([(.hrst e k on v, .bank, 0x40, [withBit v 31 on]), (.lclkEn e k on v, .bank, 0x40, [withBit v 30 on]), (.linkEn e k on v, .chan, 0x50, [withBit v 31 on])] : List (Instr × Obj × Nat × List Word))) ∨ (∃ u v, u < 65536 ∧ (i, o, f, ws) = (.curfew e k u v, .chan, 0x50, [putFld v 15 0 u])) ∨ (∃ on, k = 0 ∧ (i, o, f, ws) ∈ ([(.egressEn e on, .spool, 8, [withBit 0 31 on]), (.logEn e on, .journal, 8, [withBit 0 31 on])] : List (Instr × Obj × Nat × List Word))) ∨ (∃ u v, u < 128 ∧ k = 0 ∧ (i, o, f, ws) = (.spoolSize e u v, .spool, 0, [putFld v 31 25 u]))) ∧ InOrder s r n x ∧ Accepts a n o k f ws row) :=
  ⟨dev,
    (env (.write 0x22) clearBody),
    1,
    sess,
    .clear (env (.write 0x22) clearBody) 511,
    .repet,
    511,
    1,
    [0x20000000],
    clearRow,
    by simp,
    inOrder_env (by decide +kernel),
    by constructor <;> first | decide +kernel | rfl | exact exc_eq _ (by decide +kernel)⟩

theorem witness_StagingFillsTheBuffers :
  (∃ (s : State) (e : Envelope) (n : Nat) (x : Session) (o : Obj) (body : List Word) (items : List Item) (parts : List (GroupRef × List FieldWord)), 
  let r : Req := ⟨.stage (objCode o), e, body⟩
  
  let a := s.admitted r n x
  InOrder s r n x ∧ itemsOf true body = .ok items ∧ a.formStages r (objCode o) 0 items = .ok parts) ∧
  (∃ (s : State) (n : Nat) (g : GroupRef) (v : FieldWord), ∃ h, h ≠ g) :=
  ⟨⟨dev,
    env (.stage 0x10) (word 1 :: encodeItems [⟨0x10, false, 0, 511, 2, 1, [5]⟩]),
    1,
    sess,
    .chan,
    word 1 :: encodeItems [⟨0x10, false, 0, 511, 2, 1, [5]⟩],
    [⟨0x10, false, 0, 511, 2, 1, [5]⟩],
    [(⟨.chan, 511, 0⟩, [⟨2, 0, 5⟩])],
    inOrder_env (by decide +kernel),
    exc_eq _ (by decide +kernel),
    exc_eq _ (by decide +kernel)⟩,
  ⟨dev, 1, ⟨.chan, 0, 0⟩, ⟨2, 0, 5⟩, ⟨.chan, 1, 0⟩, by decide +kernel⟩⟩

theorem witness_CommitsTakeTicketsAndAreReleased :
  (∃ (s : State) (e : Envelope) (n : Nat) (x : Session) (body : List Word) (groups : List GroupRef) (d : Done), 
  let r : Req := ⟨.commit, e, body⟩
  
  let a := s.admitted r n x
  InOrder s r n x ∧ r.untimed ∧ groupsOf body = .ok groups ∧ commitGroups a r = .ok d ∧ 
  let snapshot := a.commits.staging.filter fun b => groups.contains b.ref
  
  let earlier := ((groups.flatMap a.ticketsNaming).map Ticket.boundary).foldl max 0
  ∃ y, d.state.session n = some y) ∧
  (∃ (s : State) (e : Envelope) (n : Nat) (x : Session) (body : List Word) (groups : List GroupRef) (d : Done), 
  let r : Req := ⟨.commit, e, body⟩
  
  let a := s.admitted r n x
  InOrder s r n x ∧ r.untimed ∧ groupsOf body = .ok groups ∧ commitGroups a r = .ok d) ∧
  (∃ (s : State) (t : Ticket), s.boot.phase = .running ∧ s.faults.restart = none ∧ s.commits.tickets.find? (fun u => u.num == t.num && !u.released) = some t ∧ t.leadEnd < s.now + 100 ∧ (t.timed = true → s.now < t.boundary) ∧ (∀ u ∈ s.commits.tickets, u.order < t.order → ∀ b ∈ u.snapshot, ∀ c ∈ t.snapshot, b.ref ≠ c.ref) ∧ 
  let b := if t.timed then t.boundary else s.nextBoundary
  t.answer = none) ∧
  (∃ (s : State) (t : Ticket), s.boot.phase = .running ∧ s.faults.restart = none ∧ s.commits.tickets.find? (fun u => u.num == t.num && !u.released) = some t ∧ t.leadEnd < s.now + 100 ∧ (t.timed = true → s.now < t.boundary) ∧ (∀ u ∈ s.commits.tickets, u.order < t.order → ∀ b ∈ u.snapshot, ∀ c ∈ t.snapshot, b.ref ≠ c.ref) ∧ 
  let b := if t.timed then t.boundary else s.nextBoundary
  ∃ r x, t.answer = some r ∧ s.session t.session = some x ∧ x.executing.contains r.env.seq.toNat = true) :=
  ⟨⟨staged,
    env .commit [1, 0x21000000],
    1,
    sess,
    [1, 0x21000000],
    [⟨.outer, 0, 0⟩],
    okOf { state := dev } (commitGroups (staged.admitted ⟨.commit, env .commit [1, 0x21000000], [1, 0x21000000]⟩ 1 sess) ⟨.commit, env .commit [1, 0x21000000], [1, 0x21000000]⟩),
    inOrder_env (by decide +kernel),
    by decide +kernel,
    exc_eq _ (by decide +kernel),
    ok_of _ _ (by decide +kernel),
    ((okOf { state := dev } (commitGroups (staged.admitted ⟨.commit, env .commit [1, 0x21000000], [1, 0x21000000]⟩ 1 sess) ⟨.commit, env .commit [1, 0x21000000], [1, 0x21000000]⟩)).state.session 1).get (by decide +kernel),
    (Option.some_get _).symm⟩,
  ⟨staged,
    env .commit [1, 0x21000000],
    1,
    sess,
    [1, 0x21000000],
    [⟨.outer, 0, 0⟩],
    okOf { state := dev } (commitGroups (staged.admitted ⟨.commit, env .commit [1, 0x21000000], [1, 0x21000000]⟩ 1 sess) ⟨.commit, env .commit [1, 0x21000000], [1, 0x21000000]⟩),
    inOrder_env (by decide +kernel),
    by decide +kernel,
    exc_eq _ (by decide +kernel),
    ok_of _ _ (by decide +kernel)⟩,
  ⟨{ dev with commits := { dev.commits with tickets := [ticket] } }, ticket, by and_intros <;> decide +kernel⟩,
  ⟨{ devWith { sess with executing := [1] } with commits := { dev.commits with tickets := [{ ticket with answer := some ⟨.commit, env .commit [1, 0x21000000], [1, 0x21000000]⟩ }] } },
    { ticket with answer := some ⟨.commit, env .commit [1, 0x21000000], [1, 0x21000000]⟩ },
    by
      iterate 6 refine ⟨by decide +kernel, ?_⟩
      exact ⟨⟨.commit, env .commit [1, 0x21000000], [1, 0x21000000]⟩, { sess with executing := [1] }, by and_intros <;> decide +kernel⟩⟩⟩

theorem witness_DiscardEmptiesTheBuffers :
  (∃ (s : State) (e : Envelope) (n : Nat) (x : Session) (body : List Word) (groups : List GroupRef), 
  let r : Req := ⟨.discard, e, body⟩
  
  let a := s.admitted r n x
  InOrder s r n x ∧ groupsOf body = .ok groups ∧ (∀ g ∈ groups, ∃ b, a.buffer g = some b ∧ b.owner = n)) :=
  ⟨staged,
    env .discard [1, 0x21000000],
    1,
    sess,
    [1, 0x21000000],
    [⟨.outer, 0, 0⟩],
    inOrder_env (by decide +kernel),
    exc_eq _ (by decide +kernel),
    fun g hg => ⟨⟨⟨.outer, 0, 0⟩, 1, [⟨2, 0, 0x3F800000⟩]⟩, by simp at hg; subst hg; exact ⟨by decide +kernel, rfl⟩⟩⟩

theorem witness_BoundariesActInOrder :
  (∃ (s : State) (t : Nat), s.boot.phase = .running ∧ t % 100 = 0 ∧ s.now < t ∧ t ≤ timeSpan ∧ s.timeJumps = false ∧ s.nextDue t = t) ∧
  (∃ (s : State) (t : Ticket), s.regsCanonical ∧ 
  let mine := s.commits.shadows.filter fun k => k.ticket == t.num
  (∀ k ∈ mine, k.ref.obj ∈ [Obj.profile, .repet, .sweep, .acq, .pattern, .lock, .hk, .aout, .seq] ∧ k.ref.inst < 65536 ∧ ∀ w ∈ k.words, w.field < 65536 ∧ w.idx < 16) ∧ (mine.flatMap fun k => k.words.map fun w => (k.ref.obj, k.ref.inst, w.field, w.idx)).Nodup) ∧
  (∃ (s : State) (t : Ticket), s.regsCanonical ∧ 
  let mine := s.commits.shadows.filter fun k => k.ticket == t.num
  (∀ k ∈ mine, k.ref.obj ∈ [Obj.profile, .repet, .sweep, .acq, .pattern, .lock, .hk, .aout, .seq] ∧ k.ref.inst < 65536 ∧ ∀ w ∈ k.words, w.field < 65536 ∧ w.idx < 16) ∧ (mine.flatMap fun k => k.words.map fun w => (k.ref.obj, k.ref.inst, w.field, w.idx)).Nodup) :=
  ⟨⟨dev, 100, by and_intros <;> decide +kernel⟩,
  ⟨{ dev with commits := { dev.commits with shadows := [⟨⟨.repet, 511, 0⟩, 3, [⟨2, 0, 5⟩]⟩] } }, ticket, by and_intros <;> decide +kernel⟩,
  ⟨dev, ticket, by and_intros <;> decide +kernel⟩⟩

theorem witness_DeviceCommandsAct :
  (∃ (s : State) (e : Envelope) (n : Nat) (x : Session) (h w : Word) (l : List Word), 
  let r : Req := ⟨.calWrite, e, h :: w :: l⟩
  
  let a := s.admitted r n x
  
  let id := fld h 31 16
  InOrder s r n x ∧ fld h 15 0 = 0 ∧ id ≠ 0 ∧ fld w 31 30 = 0 ∧ fld w 15 12 = 0 ∧ 1 ≤ l.length ∧ l.length ≤ 2048 ∧ fld w 11 0 = l.length ∧ fld w 29 16 + l.length ≤ 16384 ∧ a.calInUse id = false ∧ ((a.calSet id).state ≠ 0 ∨ a.calSets.length < 4096) ∧ 
  let y : CalSet := ⟨1, l.zipIdx.foldl (fun m p => insertKey m (fld w 29 16 + p.2) p.1) (a.calSet id).words, max (a.calSet id).top (fld w 29 16 + l.length - 1), [], []⟩
  y.reservedClear (fld w 29 16) (fld w 29 16 + l.length) = true) ∧
  (∃ (s : State) (e : Envelope) (n : Nat) (x : Session) (h : Word), 
  let r : Req := ⟨.calSeal, e, [h]⟩
  
  let a := s.admitted r n x
  
  let id := fld h 31 16
  InOrder s r n x ∧ fld h 15 0 = 0 ∧ id ≠ 0 ∧ (a.calSet id).state ≠ 0 ∧ (a.calSet id).sealCheck id = .ok ()) ∧
  (∃ (s : State) (e : Envelope) (n : Nat) (x : Session) (h : Word), 
  let r : Req := ⟨.calFree, e, [h]⟩
  
  let a := s.admitted r n x
  
  let id := fld h 31 16
  InOrder s r n x ∧ fld h 15 0 = 0 ∧ id ≠ 0 ∧ a.calInUse id = false) ∧
  (∃ (s : State) (e : Envelope) (n : Nat) (x : Session) (h : Word), 
  let r : Req := ⟨.calInfo, e, [h]⟩
  InOrder s r n x ∧ fld h 15 0 = 0) ∧
  (∃ (s : State) (e : Envelope) (n : Nat) (x : Session), 
  let r : Req := ⟨.caps, e, []⟩
  InOrder s r n x) ∧
  (∃ (s : State) (e : Envelope) (n : Nat) (x : Session) (w : Word) (f : FaultEntry) (rest : List FaultEntry), 
  let r : Req := ⟨.faultRead, e, [w]⟩
  
  let a := s.admitted r n x
  InOrder s r n x ∧ w.toNat = 1 ∧ a.faults.log = f :: rest) ∧
  (∃ (s : State) (e : Envelope) (n : Nat) (x : Session) (q0 q1 w : Word) (q : Notice) (rest : List Notice), 
  let r : Req := ⟨.noticeRead, e, [q0, q1, w]⟩
  
  let a := s.admitted r n x
  InOrder s r n x ∧ w.toNat = 1 ∧ a.host.ring = q :: rest ∧ dword [q0, q1] 0 = q.nseq ∧ (∀ y ∈ rest, q.nseq < y.nseq) ∧ q.body.length ≤ 200) :=
  ⟨⟨dev,
    env .calWrite [0xFFFF0000, 0x00000001, 5],
    1,
    sess,
    0xFFFF0000,
    0x00000001,
    [5],
    inOrder_env (by decide +kernel),
    by and_intros <;> decide +kernel⟩,
  ⟨{ dev with calSets := [(0xFFFF, calImage)] },
    env .calSeal [0xFFFF0000],
    1,
    sess,
    0xFFFF0000,
    inOrder_env (by decide +kernel),
    by
      iterate 3 refine ⟨by decide +kernel, ?_⟩
      exact exc_eq _ (by decide +kernel)⟩,
  ⟨dev, env .calFree [0xFFFF0000], 1, sess, 0xFFFF0000, inOrder_env (by decide +kernel), by and_intros <;> decide +kernel⟩,
  ⟨dev, env .calInfo [0], 1, sess, 0, inOrder_env (by decide +kernel), by decide +kernel⟩,
  ⟨dev, env .caps [], 1, sess, inOrder_env (by decide +kernel)⟩,
  ⟨{ dev with faults := { dev.faults with log := [⟨0x0602, true, 1, 0, 1, 0⟩] } },
    env .faultRead [1],
    1,
    sess,
    1,
    ⟨0x0602, true, 1, 0, 1, 0⟩,
    [],
    inOrder_env (by decide +kernel),
    by and_intros <;> decide +kernel⟩,
  ⟨{ dev with host := { dev.host with ring := [⟨7, 0x0603, 0, [1]⟩, ⟨8, 0x0603, 0, [1]⟩] } },
    env .noticeRead [0, 7, 1],
    1,
    sess,
    0,
    7,
    1,
    ⟨7, 0x0603, 0, [1]⟩,
    [⟨8, 0x0603, 0, [1]⟩],
    inOrder_env (by decide +kernel),
    by and_intros <;> decide +kernel⟩⟩

theorem witness_EventsReachTheirConsumers :
  (∃ (s : State) (k cyc : Nat), s.boot.phase = .running ∧ k < 4096 ∧ 
  let i := mkId 8 k
  
  let n := (s.events.deliveries.filter fun d => d.consumer == i && d.cycle == cyc).length
  1 ≤ n ∧ find s.events.busyEnd i ≠ some cyc) ∧
  (∃ (s : State) (k cyc stamp : Nat) (high : Bool), s.boot.phase = .running ∧ k < 16 ∧ s.rb .trigpin k 0 31 = false ∧ (high != s.rb .trigpin k 0 28) ≠ s.rb .trigpin k 0x20 31 ∧ s.edgeSelected k (high != s.rb .trigpin k 0 28) = true ∧ s.rearming (mkId 1 k) cyc = false) ∧
  (∃ (s : State) (k cyc a b : Nat), s.boot.phase = .running ∧ k < 16 ∧ find s.events.pulse k = some [(a, b)] ∧ b ≤ cyc ∧ s.rb .trigpin k 0 31 = true ∧ s.rf .trigpin k 0 27 26 ≠ 1 ∧ sortedKeys s.events.pulse = true) ∧
  (∃ (s : State) (i cyc : Nat), (∀ r ∈ s.enabledRoutes, s.routeSrc r ≠ i ∧ (s.gateMode r = 3 → s.rf .route r 2 31 16 ≠ i))) ∧
  (∃ (s : State) (i cyc : Nat), ∃ r t, (s.enabledRoutes.filter fun q => s.routeSrc q == i) = [r] ∧ find s.events.lastFire i = some t ∧ cyc < t + s.rf .route r 0 15 0) ∧
  (∃ (s : State) (e : Envelope) (n : Nat) (x : Session) (w : Word), 
  let r : Req := ⟨.sinkRead, e, [w]⟩
  
  let a := s.admitted r n x
  InOrder s r n x ∧ w.toNat < 65536 ∧ isConsumer w.toNat = true) ∧
  (∃ (s : State) (e : Envelope) (n : Nat) (x : Session) (w : Word), 
  let r : Req := ⟨.sinkClear, e, [w]⟩
  InOrder s r n x ∧ w.toNat < 65536 ∧ isConsumer w.toNat = true) :=
  ⟨⟨{ dev with events := { dev.events with deliveries := [⟨mkId 8 255, 9, 0⟩, ⟨mkId 8 255, 9, 1⟩] } },
    255,
    9,
    by and_intros <;> decide +kernel⟩,
  ⟨field dev .trigpin 15 0 0x20000000, 15, 8, 640, true, by and_intros <;> decide +kernel⟩,
  ⟨field { dev with events := { dev.events with pulse := [(15, [(4, 20)])] } } .trigpin 15 0 0x80000000,
    15,
    20,
    4,
    20,
    by and_intros <;> decide +kernel⟩,
  ⟨dev, mkId 1 15, 9, by decide +kernel⟩,
  ⟨{ routed with events := { routed.events with lastFire := [(mkId 1 15, 10)] } }, mkId 1 15, 12, 1023, 10, by and_intros <;> decide +kernel⟩,
  ⟨dev, env .sinkRead [0x51FF], 1, sess, 0x51FF, inOrder_env (by decide +kernel), by and_intros <;> decide +kernel⟩,
  ⟨dev, env .sinkClear [0x51FF], 1, sess, 0x51FF, inOrder_env (by decide +kernel), by and_intros <;> decide +kernel⟩⟩

theorem witness_TheArbiterServesItsMasters_1 :
  (∃ (s : State) (m unit i : Nat) (regen : Bool), s.boot.phase = .running ∧ m < 65536 ∧ i ≤ s.arb.slot ∧ (arbClass m).isSome ∧ s.isFrozen m = false ∧ (regen = true ∨ s.exceeds m i = false)) ∧
  (∃ (s : State) (c unit i : Nat), s.boot.phase = .running ∧ c < 512 ∧ i ≤ s.arb.slot ∧ s.isFrozen (0x3000 + c) = false ∧ s.exceeds (0x3000 + c) i = true) ∧
  (∃ (s : State) (m v : Nat), ∃ q ∈ (s.freeze m v).arb.queue, s.isFrozen m = false) ∧
  (∃ (s : State) (i r : Nat), s.boot.phase = .running ∧ i ≤ s.arb.slot ∧ s.arb.swapAt = some r ∧ r < i ∧ i % 256 = 0 ∧ s.arb.rebuild = false) ∧
  (∃ (s : State) (k i : Nat), s.boot.phase = .running ∧ k < 9 ∧ i ≤ s.arb.slot ∧ 1 ≤ (s.movedOf k).count ∧ max ((s.movedOf k).movedAt.getD 0) (s.movedOf k).starvedAt + s.rf .arb 0 0 15 0 * 10 ^ 6 ≤ slotNs i) ∧
  (∃ (s : State) (m i k : Nat) (q : ArbReq), s.boot.phase = .running ∧ m < 65536 ∧ i ≤ s.arb.slot ∧ arbClass m = some k ∧ s.arb.queue.find? (fun p => p.master == m && decide (s.rf .arb 0 (1 + k) 15 0 < slotNs (i - p.since)) && !p.starved) = some q) ∧
  (∃ (s : State) (m i k : Nat) (q : ArbReq), s.boot.phase = .running ∧ m < 65536 ∧ i ≤ s.arb.slot ∧ arbClass m = some k ∧ s.arb.queue.find? (fun p => p.master == m && decide (s.rf .arb 0 (1 + k) 15 0 < slotNs (i - p.since)) && !p.starved) = some q ∧ 
  let u := s.markReq q fun p => { p with starved := true }
  
  let y := u.arbMaster q.master
  (s.arbMaster m).noticed = true ∧ k ≤ 1) ∧
  (∃ (s : State) (m i : Nat) (q : ArbReq), s.boot.phase = .running ∧ m < 65536 ∧ i ≤ s.arb.slot ∧ (∃ k, arbClass m = some k ∧ (k ≤ 1 ∨ k = 7)) ∧ s.arb.queue.find? (fun p => p.master == m && decide (3072 < i - p.since) && !p.late) = some q) :=
  ⟨⟨dev, 0x2000, 3, 0, false, by and_intros <;> decide +kernel⟩,
  ⟨{ dev with arb := { dev.arb with masters := [(0x31FF, ⟨0, 0, 0, 0, false, 0, [0], false⟩)] } },
    511,
    0,
    0,
    by and_intros <;> decide +kernel⟩,
  ⟨queued 8 0, 9, 3, request 8, by and_intros <;> decide +kernel⟩,
  ⟨{ dev with arb := { dev.arb with slot := 256, swapAt := some 3 } }, 256, 3, by and_intros <;> decide +kernel⟩,
  ⟨{ dev with arb := { dev.arb with slot := 10 ^ 9, moved := [(8, ⟨1, some 0, 0⟩)] } }, 8, 10 ^ 9, by and_intros <;> decide +kernel⟩,
  ⟨queued 0xB000 (10 ^ 9), 0xB000, 10 ^ 9, 7, request 0xB000, by and_intros <;> decide +kernel⟩,
  ⟨{ queued 0x31FF (10 ^ 9) with arb := { (queued 0x31FF (10 ^ 9)).arb with masters := [(0x31FF, ⟨0, 0, 0, 0, false, 0, [], true⟩)] } },
    0x31FF,
    10 ^ 9,
    0,
    request 0x31FF,
    by and_intros <;> decide +kernel⟩,
  ⟨queued 0xB000 3073,
    0xB000,
    3073,
    request 0xB000,
    by
      iterate 3 refine ⟨by decide +kernel, ?_⟩
      exact ⟨⟨7, by decide +kernel⟩, by decide +kernel⟩⟩⟩

theorem witness_TheArbiterServesItsMasters_2 :
  (∃ (s : State) (e : Envelope) (n : Nat) (x : Session) (w : Word), 
  let r : Req := ⟨.arbRead, e, [w]⟩
  
  let a := s.admitted r n x
  
  let t := a.slotsTo a.slotNow
  InOrder s r n x ∧ w.toNat < 65536 ∧ a.isMaster w.toNat = true) ∧
  (∃ (s : State) (e : Envelope) (n : Nat) (x : Session) (w : Word), 
  let r : Req := ⟨.arbClear, e, [w]⟩
  
  let a := s.admitted r n x
  
  let t := a.slotsTo a.slotNow
  InOrder s r n x ∧ w.toNat < 65536 ∧ a.isMaster w.toNat = true) :=
  ⟨⟨dev, env .arbRead [0x31FF], 1, sess, 0x31FF, inOrder_env (by decide +kernel), by and_intros <;> decide +kernel⟩,
  ⟨dev, env .arbClear [0x31FF], 1, sess, 0x31FF, inOrder_env (by decide +kernel), by and_intros <;> decide +kernel⟩⟩

theorem witness_LocksAreTakenAndExpire :
  (∃ (s : State) (e : Envelope) (n : Nat) (x : Session) (w ms : Word) (o : Obj) (k i : Nat), 
  let r : Req := ⟨.lockTake, e, [w, ms]⟩
  
  let a := s.admitted r n x
  InOrder s r n x ∧ o ∈ [Obj.chan, .seq, .bseq] ∧ objOfCode (fld w 31 24) = some o ∧ fld w 23 16 = 0 ∧ fld w 15 0 = k ∧ k < objCount o ∧ 1 ≤ ms.toNat ∧ ms.toNat ≤ 60000 ∧ a.lockOn o k = none ∧ i < 1024 ∧ find a.faults.locks i = none ∧ (∀ j, j < i → (find a.faults.locks j).isSome)) ∧
  (∃ (s : State) (e : Envelope) (n : Nat) (x : Session) (w ms : Word) (o : Obj) (k i : Nat) (l : Lock), 
  let r : Req := ⟨.lockRenew, e, [w, ms]⟩
  
  let a := s.admitted r n x
  InOrder s r n x ∧ o ∈ [Obj.chan, .seq, .bseq] ∧ objOfCode (fld w 31 24) = some o ∧ fld w 23 16 = 0 ∧ fld w 15 0 = k ∧ k < objCount o ∧ 1 ≤ ms.toNat ∧ ms.toNat ≤ 60000 ∧ a.lockOn o k = some (i, l) ∧ l.owner = sessionMaster n ∧ l.leased a.clock = true) ∧
  (∃ (s : State) (e : Envelope) (n : Nat) (x : Session) (w : Word) (o : Obj) (k i : Nat) (l : Lock), 
  let r : Req := ⟨.lockRelease, e, [w]⟩
  
  let a := s.admitted r n x
  InOrder s r n x ∧ o ∈ [Obj.chan, .seq, .bseq] ∧ objOfCode (fld w 31 24) = some o ∧ fld w 23 16 = 0 ∧ fld w 15 0 = k ∧ k < objCount o ∧ a.lockOn o k = some (i, l) ∧ l.owner = sessionMaster n ∧ l.leased a.clock = true) ∧
  (∃ (s : State) (i : Nat) (l : Lock) (t : Nat), s.boot.phase = .running ∧ i < 1024 ∧ find s.faults.locks i = some l ∧ l.leaseEnds = some t ∧ t ≤ s.clock) ∧
  (∃ (s : State) (i : Nat) (l : Lock) (t : Nat), s.boot.phase = .running ∧ i < 1024 ∧ find s.faults.locks i = some l ∧ l.leaseEnds = some t ∧ s.clock < t) :=
  ⟨⟨dev,
    env .lockTake [0x100001FF, 60000],
    1,
    sess,
    0x100001FF,
    60000,
    .chan,
    511,
    0,
    inOrder_env (by decide +kernel),
    by and_intros <;> decide +kernel⟩,
  ⟨locked (some 5),
    env .lockRenew [0x100001FF, 1],
    1,
    sess,
    0x100001FF,
    1,
    .chan,
    511,
    0,
    ⟨.chan, 511, 0x1001, some 5⟩,
    inOrder_env (by decide +kernel),
    by and_intros <;> decide +kernel⟩,
  ⟨locked (some 5),
    env .lockRelease [0x100001FF],
    1,
    sess,
    0x100001FF,
    .chan,
    511,
    0,
    ⟨.chan, 511, 0x1001, some 5⟩,
    inOrder_env (by decide +kernel),
    by and_intros <;> decide +kernel⟩,
  ⟨locked (some 0), 0, ⟨.chan, 511, 0x1001, some 0⟩, 0, by and_intros <;> decide +kernel⟩,
  ⟨locked (some 1), 0, ⟨.chan, 511, 0x1001, some 1⟩, 1, by and_intros <;> decide +kernel⟩⟩

theorem witness_HousekeepingConverts_1 :
  (∃ (s : State) (e : Envelope) (n : Nat) (x : Session), 
  let r : Req := ⟨.hkRun, e, []⟩
  
  let a := s.admitted r n x
  InOrder s r n x ∧ a.rb .hk 0 0x20 31 = false ∧ (∀ i, i ≤ a.rf .hk 0 2 31 26 → a.hkInput (a.hkSlotInput i) = true)) ∧
  (∃ (s : State) (e : Envelope) (n : Nat) (x : Session), 
  let r : Req := ⟨.hkStop, e, []⟩
  
  let a := s.admitted r n x
  InOrder s r n x ∧ (∀ k, a.hk.conv = some k → k.origin ≠ 0)) ∧
  (∃ (s : State) (e : Envelope) (n : Nat) (x : Session) (k : HkConv), 
  let r : Req := ⟨.hkStop, e, []⟩
  
  let a := s.admitted r n x
  InOrder s r n x ∧ a.hk.conv = some k ∧ k.origin = 0 ∧ a.hk.hostWaits = none) ∧
  (∃ (s : State) (e : Envelope) (n : Nat) (x : Session) (w : Word), 
  let r : Req := ⟨.hkConvert, e, [w]⟩
  
  let a := s.admitted r n x
  InOrder s r n x ∧ w.toNat < 32 ∧ a.hkInput w.toNat = true ∧ a.hk.hostWaits = none ∧ a.hk.conv = none) ∧
  (∃ (s : State) (e : Envelope) (n : Nat) (x : Session) (w : Word) (k : HkConv), 
  let r : Req := ⟨.hkConvert, e, [w]⟩
  
  let a := s.admitted r n x
  InOrder s r n x ∧ w.toNat < 32 ∧ a.hkInput w.toNat = true ∧ a.hk.hostWaits = none ∧ a.hk.conv = some k ∧ k.origin ≠ 1) ∧
  (∃ (s : State) (n origin t : Nat), s.regsCanonical ∧ n < 32 ∧ origin < 3) ∧
  (∃ (s : State) (n origin t : Nat), s.regsCanonical ∧ n < 32 ∧ origin < 3 ∧ ∃ o k f w, o ≠ Obj.hk ∧ k < 65536 ∧ f < 65536 ∧ w < 16) ∧
  (∃ (s : State) (t due : Nat), s.boot.phase = .running ∧ s.hk.due = some due ∧ due ≤ t ∧ s.rb .hk 0 0x20 31 = true ∧ s.hk.slotWaits = false ∧ s.hk.conv = none) :=
  ⟨⟨dev,
    env .hkRun [],
    1,
    sess,
    inOrder_env (by decide +kernel),
    by decide +kernel,
    fun i hi => by have h : i ≤ 31 := Nat.le_trans hi (by decide +kernel); revert i; decide +kernel⟩,
  ⟨dev, env .hkStop [], 1, sess, inOrder_env (by decide +kernel), fun k h => nomatch (show none = some k from h)⟩,
  ⟨converting 0, env .hkStop [], 1, sess, conv 0, inOrder_env (by decide +kernel), by and_intros <;> decide +kernel⟩,
  ⟨dev, env .hkConvert [31], 1, sess, 31, inOrder_env (by decide +kernel), by and_intros <;> decide +kernel⟩,
  ⟨converting 0, env .hkConvert [31], 1, sess, 31, conv 0, inOrder_env (by decide +kernel), by and_intros <;> decide +kernel⟩,
  ⟨dev, 31, 2, 0, by and_intros <;> decide +kernel⟩,
  ⟨dev,
    31,
    2,
    0,
    by
      iterate 3 refine ⟨by decide +kernel, ?_⟩
      exact ⟨.dev, 0, 0x100, 0, by and_intros <;> decide +kernel⟩⟩,
  ⟨{ field dev .hk 0 0x20 0x80000000 with hk := { dev.hk with due := some 5 } }, 5, 5, by and_intros <;> decide +kernel⟩⟩

theorem witness_HousekeepingConverts_2 :
  (∃ (s : State) (t due : Nat) (k : HkConv), s.boot.phase = .running ∧ s.hk.due = some due ∧ due ≤ t ∧ s.rb .hk 0 0x20 31 = true ∧ s.hk.slotWaits = false ∧ s.hk.conv = some k) ∧
  (∃ (s : State) (n t k cyc : Nat), s.boot.phase = .running ∧ n < 32 ∧ s.hk.urgent = [(n, k, cyc)] ∧ s.hk.conv = none ∧ (∀ done, find s.events.busyEnd (mkId 0xA 0) = some done → done < cyc)) ∧
  (∃ (s : State) (cyc : Nat), s.boot.phase = .running ∧ s.hk.packet ≠ [] ∧ s.hk.packetAt + 10 ^ 6 ≤ s.clock) ∧
  (∃ (s : State) (y : Sample) (t cyc : Nat) (c : HkConv), s.boot.phase = .running ∧ s.hk.conv = some c ∧ c.origin = 0 ∧ c.started + hkTime c ≤ t ∧ c.log = false ∧ s.hk.hostWaits = none ∧ s.hk.slotWaits = false ∧ 
  let u := (((({ s with hk := { s.hk with conv := none, doneAt := insertKey s.hk.doneAt c.input s.clock } } : State).setRb .hk 0 0x20 30 false).hkPublish c y (c.started + hkTime c - 1000)).busyEnds (mkId 0xA 0) cyc).fire (mkId 0xA 0) cyc
  u.rb .hk 0 0x20 31 = true ∧ u.hk.hostWaits = none ∧ u.hk.slotWaits = false) ∧
  (∃ (s : State) (c : HkConv) (y : Sample) (stamp : Nat), s.regsCanonical ∧ c.input < 32 ∧ c.origin ≠ 1) :=
  ⟨⟨{ field dev .hk 0 0x20 0x80000000 with hk := { dev.hk with due := some 5, conv := some (conv 1) } },
    5,
    5,
    conv 1,
    by and_intros <;> decide +kernel⟩,
  ⟨{ dev with hk := { dev.hk with urgent := [(31, 9, 4)] } }, 31, 0, 9, 4, by and_intros <;> decide +kernel⟩,
  ⟨{ dev with clock := 10 ^ 6, hk := { dev.hk with packet := [[1]] } }, 0, by and_intros <;> decide +kernel⟩,
  ⟨{ field dev .hk 0 0x20 0x80000000 with hk := { dev.hk with conv := some (conv 0) } },
    0,
    10 ^ 9,
    0,
    conv 0,
    by and_intros <;> decide +kernel⟩,
  ⟨dev, conv 0, 5, 0, by and_intros <;> decide +kernel⟩⟩

theorem witness_AuxOutputsPlay_1 :
  (∃ (s : State) (e : Envelope) (n : Nat) (x : Session) (body : List Word) (l : List Nat), 
  let r : Req := ⟨.aoutRun, e, body⟩
  
  let a := s.admitted r n x
  InOrder s r n x ∧ flagsAndSet .aout 0 body = .ok (0, l) ∧ (∀ k ∈ l, a.rb .aout k 0x20 31 = false ∧ (a.aout k).startAt = none)) ∧
  (∃ (s : State) (e : Envelope) (n : Nat) (x : Session) (body : List Word) (l : List Nat), 
  let r : Req := ⟨.aoutStop, e, body⟩
  
  let a := s.admitted r n x
  InOrder s r n x ∧ flagsAndSet .aout 0 body = .ok (0, l)) ∧
  (∃ (s : State) (e : Envelope) (n : Nat) (x : Session) (k i : Nat) (v : Word), 
  let r : Req := ⟨.waveWrite, e, [word (k * 65536 + 1), word i, v]⟩
  
  let a := s.admitted r n x
  InOrder s r n x ∧ k < 8 ∧ i < 65536 ∧ a.aoutPlaying k = false) ∧
  (∃ (s : State) (k i : Nat) (v : BitVec 16), sortedKeys s.waves = true ∧ i < 65536) ∧
  (∃ (s : State) (k i : Nat) (v : BitVec 16), sortedKeys s.waves = true ∧ i < 65536 ∧ ∃ j m, m < 65536 ∧ (j ≠ k ∨ m ≠ i)) ∧
  (∃ (s : State) (k t cyc due : Nat), s.boot.phase = .running ∧ k < 8 ∧ (s.aout k).startAt = some due ∧ t % 1000 = 0 ∧ due ≤ t ∧ s.aoutPlaying k = false ∧ s.aoutMode k ≠ 0 ∧ (s.aout k).stopAt = [] ∧ (s.aout k).faultAt = none ∧ sortedKeys s.aouts = true) ∧
  (∃ (s : State) (k t : Nat) (r : WaveRead), s.boot.phase = .running ∧ k < 8 ∧ t % 1000 = 0 ∧ s.aoutPlaying k = true ∧ (s.aout k).ticks < s.rf .aout k 0 15 0 ∧ (s.aout k).faultAt = none) ∧
  (∃ (s : State) (k t : Nat) (r : WaveRead), s.boot.phase = .running ∧ k < 8 ∧ t % 1000 = 0 ∧ s.aoutPlaying k = true ∧ s.rf .aout k 0 15 0 ≤ (s.aout k).ticks ∧ s.passEnds k = false ∧ (s.aout k).faultAt = none) :=
  ⟨⟨dev,
    env .aoutRun [0, 1, 0x00070000],
    1,
    sess,
    [0, 1, 0x00070000],
    [7],
    inOrder_env (by decide +kernel),
    exc_eq _ (by decide +kernel),
    by decide +kernel⟩,
  ⟨dev, env .aoutStop [0, 1, 0x00070000], 1, sess, [0, 1, 0x00070000], [7], inOrder_env (by decide +kernel), exc_eq _ (by decide +kernel)⟩,
  ⟨dev,
    env .waveWrite [word (7 * 65536 + 1), word 65535, 5],
    1,
    sess,
    7,
    65535,
    5,
    inOrder_env (by decide +kernel),
    by and_intros <;> decide +kernel⟩,
  ⟨dev, 7, 65535, 5, by and_intros <;> decide +kernel⟩,
  ⟨dev, 7, 65535, 5, by decide +kernel, by decide +kernel, 7, 65534, by and_intros <;> decide +kernel⟩,
  ⟨{ field dev .aout 7 0 0x40000000 with aouts := [(7, { Aout.fresh with startAt := some 0 })] },
    7,
    0,
    0,
    0,
    by and_intros <;> decide +kernel⟩,
  ⟨field (field dev .aout 7 0 0x00000001) .aout 7 0x20 0x80000000, 7, 1000, ⟨.ok, 0⟩, by and_intros <;> decide +kernel⟩,
  ⟨field (field dev .aout 7 0x20 0x80000000) .aout 7 1 0x00000001, 7, 1000, ⟨.ok, 0⟩, by and_intros <;> decide +kernel⟩⟩

theorem witness_AuxOutputsPlay_2 :
  (∃ (s : State) (k t due : Nat) (r : WaveRead), s.boot.phase = .running ∧ k < 8 ∧ t % 1000 = 0 ∧ s.aoutPlaying k = false ∧ (s.aout k).levelAt = some due ∧ due ≤ t ∧ (s.aout k).faultAt = none) ∧
  (∃ (s : State) (k t cyc due : Nat), s.boot.phase = .running ∧ k < 8 ∧ t % 1000 = 0 ∧ s.aoutPlaying k = true ∧ s.passEnds k = false ∧ due ∈ (s.aout k).stopAt ∧ due ≤ t) ∧
  (∃ (s : State) (k t : Nat), sortedKeys s.aouts = true ∧ k < 8) ∧
  (∃ (s : State) (k t : Nat), sortedKeys s.aouts = true ∧ k < 8 ∧ ∃ j, j ≠ k) :=
  ⟨⟨{ dev with aouts := [(7, { Aout.fresh with levelAt := some 0 })] }, 7, 0, 0, ⟨.ok, 0⟩, by and_intros <;> decide +kernel⟩,
  ⟨{ field (field dev .aout 7 0 0x40000001) .aout 7 0x20 0x80000000 with aouts := [(7, { Aout.fresh with stopAt := [0, 5000] })] },
    7,
    1000,
    9,
    0,
    by and_intros <;> decide +kernel⟩,
  ⟨dev, 7, 9, by and_intros <;> decide +kernel⟩,
  ⟨dev, 7, 9, by decide +kernel, by decide +kernel, 6, by decide +kernel⟩⟩

theorem witness_BoundaryCommandsAreAccepted :
  (∃ (s : State) (e : Envelope) (n : Nat) (x : Session) (body : List Word) (f : Word) (l : List Nat) (i : Instr) (cmd : HostCmd) (o : Obj) (flags : Nat) (kind : TimedKind), (i, cmd, o, flags, kind) ∈ ([(.arm e body, .arm, .chan, 0xC0000000, .arm), (.seqStop e body, .seqStop, .seq, 0x80000000, .seqStop), (.bseqStop e body, .bseqStop, .bseq, 0x80000000, .bseqStop), (.seqResume e body, .seqResume, .seq, 0, .seqResume), (.bseqResume e body, .bseqResume, .bseq, 0, .bseqResume), (.acqStop e body, .acqStop, .acq, 0, .acqStop), (.acqForce e body, .acqForce, .acq, 0, .acqForce), (.disarm e body, .disarm, .chan, 0x80000000, .disarm)] : List (Instr × HostCmd × Obj × Nat × TimedKind)) ∧ 
  let r : Req := ⟨cmd, e, body⟩
  
  let a := s.admitted r n x
  InOrder s r n x ∧ r.untimed ∧ flagsAndSet o flags body = .ok (f, l) ∧ a.allUnlocked n o l = .ok () ∧ a.noTimed o l = .ok () ∧ (kind = .arm → ∀ c ∈ l, a.armCheck c (bitAt f 31) = .ok ()) ∧ (kind = .seqResume → ∀ c ∈ l, a.run (.chan c) = 4) ∧ (kind = .bseqResume → ∀ b ∈ l, a.run (.bank b) = 4) ∧ (kind = .disarm → a.commits.timed = [])) ∧
  (∃ (s : State) (e : Envelope) (n : Nat) (x : Session) (body : List Word) (f : Word) (l : List Nat) (i : Instr) (cmd : HostCmd) (o : Obj) (flags : Nat) (kind : TimedKind), (i, cmd, o, flags, kind) ∈ ([(.arm e body, .arm, .chan, 0xC0000000, .arm), (.seqStop e body, .seqStop, .seq, 0x80000000, .seqStop), (.bseqStop e body, .bseqStop, .bseq, 0x80000000, .bseqStop), (.seqResume e body, .seqResume, .seq, 0, .seqResume), (.bseqResume e body, .bseqResume, .bseq, 0, .bseqResume), (.acqStop e body, .acqStop, .acq, 0, .acqStop), (.acqForce e body, .acqForce, .acq, 0, .acqForce), (.disarm e body, .disarm, .chan, 0x80000000, .disarm)] : List (Instr × HostCmd × Obj × Nat × TimedKind)) ∧ 
  let r : Req := ⟨cmd, e, body⟩
  
  let a := s.admitted r n x
  InOrder s r n x ∧ r.untimed ∧ flagsAndSet o flags body = .ok (f, l) ∧ a.allUnlocked n o l = .ok () ∧ a.noTimed o l = .ok () ∧ (kind = .arm → ∀ c ∈ l, a.armCheck c (bitAt f 31) = .ok ()) ∧ (kind = .seqResume → ∀ c ∈ l, a.run (.chan c) = 4) ∧ (kind = .bseqResume → ∀ b ∈ l, a.run (.bank b) = 4) ∧ (kind = .disarm → a.commits.timed = [])) ∧
  (∃ (s : State) (e : Envelope) (n : Nat) (x : Session) (body : List Word) (f : Word) (l : List Nat) (i : Instr) (cmd : HostCmd) (o : Obj) (flags : Nat) (kind : TimedKind), (i, cmd, o, flags, kind) ∈ ([(.arm e body, .arm, .chan, 0xC0000000, .arm), (.seqStop e body, .seqStop, .seq, 0x80000000, .seqStop), (.bseqStop e body, .bseqStop, .bseq, 0x80000000, .bseqStop), (.seqResume e body, .seqResume, .seq, 0, .seqResume), (.bseqResume e body, .bseqResume, .bseq, 0, .bseqResume), (.acqStop e body, .acqStop, .acq, 0, .acqStop), (.acqForce e body, .acqForce, .acq, 0, .acqForce), (.disarm e body, .disarm, .chan, 0x80000000, .disarm)] : List (Instr × HostCmd × Obj × Nat × TimedKind)) ∧ 
  let r : Req := ⟨cmd, e, body⟩
  
  let a := s.admitted r n x
  InOrder s r n x ∧ r.untimed ∧ flagsAndSet o flags body = .ok (f, l) ∧ a.allUnlocked n o l = .ok () ∧ a.noTimed o l = .ok () ∧ (kind = .arm → ∀ c ∈ l, a.armCheck c (bitAt f 31) = .ok ()) ∧ (kind = .seqResume → ∀ c ∈ l, a.run (.chan c) = 4) ∧ (kind = .bseqResume → ∀ b ∈ l, a.run (.bank b) = 4) ∧ (kind = .disarm → a.commits.timed = [])) ∧
  (∃ (s : State) (e : Envelope) (n : Nat) (x : Session) (body : List Word) (f : Word) (l : List Nat) (i : Instr) (cmd : HostCmd) (o : Obj) (flags : Nat) (kind : TimedKind), (i, cmd, o, flags, kind) ∈ ([(.arm e body, .arm, .chan, 0xC0000000, .arm), (.seqStop e body, .seqStop, .seq, 0x80000000, .seqStop), (.bseqStop e body, .bseqStop, .bseq, 0x80000000, .bseqStop), (.seqResume e body, .seqResume, .seq, 0, .seqResume), (.bseqResume e body, .bseqResume, .bseq, 0, .bseqResume), (.acqStop e body, .acqStop, .acq, 0, .acqStop), (.acqForce e body, .acqForce, .acq, 0, .acqForce), (.disarm e body, .disarm, .chan, 0x80000000, .disarm)] : List (Instr × HostCmd × Obj × Nat × TimedKind)) ∧ 
  let r : Req := ⟨cmd, e, body⟩
  
  let a := s.admitted r n x
  InOrder s r n x ∧ r.untimed ∧ flagsAndSet o flags body = .ok (f, l) ∧ a.allUnlocked n o l = .ok () ∧ a.noTimed o l = .ok () ∧ (kind = .arm → ∀ c ∈ l, a.armCheck c (bitAt f 31) = .ok ()) ∧ (kind = .seqResume → ∀ c ∈ l, a.run (.chan c) = 4) ∧ (kind = .bseqResume → ∀ b ∈ l, a.run (.bank b) = 4) ∧ (kind = .disarm → a.commits.timed = [])) ∧
  (∃ (s : State) (e : Envelope) (n : Nat) (x : Session) (body : List Word) (f : Word) (l : List Nat) (i : Instr) (cmd : HostCmd) (o : Obj) (flags : Nat) (kind : TimedKind), (i, cmd, o, flags, kind) ∈ ([(.arm e body, .arm, .chan, 0xC0000000, .arm), (.seqStop e body, .seqStop, .seq, 0x80000000, .seqStop), (.bseqStop e body, .bseqStop, .bseq, 0x80000000, .bseqStop), (.seqResume e body, .seqResume, .seq, 0, .seqResume), (.bseqResume e body, .bseqResume, .bseq, 0, .bseqResume), (.acqStop e body, .acqStop, .acq, 0, .acqStop), (.acqForce e body, .acqForce, .acq, 0, .acqForce), (.disarm e body, .disarm, .chan, 0x80000000, .disarm)] : List (Instr × HostCmd × Obj × Nat × TimedKind)) ∧ 
  let r : Req := ⟨cmd, e, body⟩
  
  let a := s.admitted r n x
  InOrder s r n x ∧ r.untimed ∧ flagsAndSet o flags body = .ok (f, l) ∧ a.allUnlocked n o l = .ok () ∧ a.noTimed o l = .ok () ∧ (kind = .arm → ∀ c ∈ l, a.armCheck c (bitAt f 31) = .ok ()) ∧ (kind = .seqResume → ∀ c ∈ l, a.run (.chan c) = 4) ∧ (kind = .bseqResume → ∀ b ∈ l, a.run (.bank b) = 4) ∧ (kind = .disarm → a.commits.timed = [])) ∧
  (∃ (s : State) (e : Envelope) (n : Nat) (x : Session) (body : List Word) (f : Word) (l : List Nat) (i : Instr) (cmd : HostCmd) (o : Obj) (flags : Nat) (kind : TimedKind), (i, cmd, o, flags, kind) ∈ ([(.arm e body, .arm, .chan, 0xC0000000, .arm), (.seqStop e body, .seqStop, .seq, 0x80000000, .seqStop), (.bseqStop e body, .bseqStop, .bseq, 0x80000000, .bseqStop), (.seqResume e body, .seqResume, .seq, 0, .seqResume), (.bseqResume e body, .bseqResume, .bseq, 0, .bseqResume), (.acqStop e body, .acqStop, .acq, 0, .acqStop), (.acqForce e body, .acqForce, .acq, 0, .acqForce), (.disarm e body, .disarm, .chan, 0x80000000, .disarm)] : List (Instr × HostCmd × Obj × Nat × TimedKind)) ∧ 
  let r : Req := ⟨cmd, e, body⟩
  
  let a := s.admitted r n x
  InOrder s r n x ∧ r.untimed ∧ flagsAndSet o flags body = .ok (f, l) ∧ a.allUnlocked n o l = .ok () ∧ a.noTimed o l = .ok () ∧ (kind = .arm → ∀ c ∈ l, a.armCheck c (bitAt f 31) = .ok ()) ∧ (kind = .seqResume → ∀ c ∈ l, a.run (.chan c) = 4) ∧ (kind = .bseqResume → ∀ b ∈ l, a.run (.bank b) = 4) ∧ (kind = .disarm → a.commits.timed = [])) ∧
  (∃ (s : State) (e : Envelope) (n : Nat) (x : Session) (body : List Word) (f : Word) (l : List Nat) (i : Instr) (cmd : HostCmd) (o : Obj) (flags : Nat) (kind : TimedKind), (i, cmd, o, flags, kind) ∈ ([(.arm e body, .arm, .chan, 0xC0000000, .arm), (.seqStop e body, .seqStop, .seq, 0x80000000, .seqStop), (.bseqStop e body, .bseqStop, .bseq, 0x80000000, .bseqStop), (.seqResume e body, .seqResume, .seq, 0, .seqResume), (.bseqResume e body, .bseqResume, .bseq, 0, .bseqResume), (.acqStop e body, .acqStop, .acq, 0, .acqStop), (.acqForce e body, .acqForce, .acq, 0, .acqForce), (.disarm e body, .disarm, .chan, 0x80000000, .disarm)] : List (Instr × HostCmd × Obj × Nat × TimedKind)) ∧ 
  let r : Req := ⟨cmd, e, body⟩
  
  let a := s.admitted r n x
  InOrder s r n x ∧ r.untimed ∧ flagsAndSet o flags body = .ok (f, l) ∧ a.allUnlocked n o l = .ok () ∧ a.noTimed o l = .ok () ∧ (kind = .arm → ∀ c ∈ l, a.armCheck c (bitAt f 31) = .ok ()) ∧ (kind = .seqResume → ∀ c ∈ l, a.run (.chan c) = 4) ∧ (kind = .bseqResume → ∀ b ∈ l, a.run (.bank b) = 4) ∧ (kind = .disarm → a.commits.timed = [])) ∧
  (∃ (s : State) (e : Envelope) (n : Nat) (x : Session) (body : List Word) (f : Word) (l : List Nat) (i : Instr) (cmd : HostCmd) (o : Obj) (flags : Nat) (kind : TimedKind), (i, cmd, o, flags, kind) ∈ ([(.arm e body, .arm, .chan, 0xC0000000, .arm), (.seqStop e body, .seqStop, .seq, 0x80000000, .seqStop), (.bseqStop e body, .bseqStop, .bseq, 0x80000000, .bseqStop), (.seqResume e body, .seqResume, .seq, 0, .seqResume), (.bseqResume e body, .bseqResume, .bseq, 0, .bseqResume), (.acqStop e body, .acqStop, .acq, 0, .acqStop), (.acqForce e body, .acqForce, .acq, 0, .acqForce), (.disarm e body, .disarm, .chan, 0x80000000, .disarm)] : List (Instr × HostCmd × Obj × Nat × TimedKind)) ∧ 
  let r : Req := ⟨cmd, e, body⟩
  
  let a := s.admitted r n x
  InOrder s r n x ∧ r.untimed ∧ flagsAndSet o flags body = .ok (f, l) ∧ a.allUnlocked n o l = .ok () ∧ a.noTimed o l = .ok () ∧ (kind = .arm → ∀ c ∈ l, a.armCheck c (bitAt f 31) = .ok ()) ∧ (kind = .seqResume → ∀ c ∈ l, a.run (.chan c) = 4) ∧ (kind = .bseqResume → ∀ b ∈ l, a.run (.bank b) = 4) ∧ (kind = .disarm → a.commits.timed = [])) :=
  ⟨⟨field dev .chan 511 0x20 2,
    env .arm [0x80000000, 1, word (511 * 65536)],
    1,
    sess,
    [0x80000000, 1, word (511 * 65536)],
    0x80000000,
    [511],
    .arm (env .arm [0x80000000, 1, word (511 * 65536)]) [0x80000000, 1, word (511 * 65536)],
    .arm,
    .chan,
    0xC0000000,
    .arm,
    by simp,
    inOrder_env (by decide +kernel),
    by decide +kernel,
    exc_eq _ (by decide +kernel),
    exc_eq _ (by decide +kernel),
    exc_eq _ (by decide +kernel),
    fun _ c hc => by obtain rfl := List.mem_singleton.mp hc; exact exc_eq _ (by decide +kernel),
    fun h => absurd h (by decide),
    fun h => absurd h (by decide),
    fun h => absurd h (by decide)⟩,
  ⟨dev,
    env .seqStop [0x80000000, 1, word (511 * 65536)],
    1,
    sess,
    [0x80000000, 1, word (511 * 65536)],
    0x80000000,
    [511],
    .seqStop (env .seqStop [0x80000000, 1, word (511 * 65536)]) [0x80000000, 1, word (511 * 65536)],
    .seqStop,
    .seq,
    0x80000000,
    .seqStop,
    by simp,
    inOrder_env (by decide +kernel),
    by decide +kernel,
    exc_eq _ (by decide +kernel),
    exc_eq _ (by decide +kernel),
    exc_eq _ (by decide +kernel),
    fun h => absurd h (by decide),
    fun h => absurd h (by decide),
    fun h => absurd h (by decide),
    fun h => absurd h (by decide)⟩,
  ⟨dev,
    env .bseqStop [0x80000000, 1, word (7 * 65536)],
    1,
    sess,
    [0x80000000, 1, word (7 * 65536)],
    0x80000000,
    [7],
    .bseqStop (env .bseqStop [0x80000000, 1, word (7 * 65536)]) [0x80000000, 1, word (7 * 65536)],
    .bseqStop,
    .bseq,
    0x80000000,
    .bseqStop,
    by simp,
    inOrder_env (by decide +kernel),
    by decide +kernel,
    exc_eq _ (by decide +kernel),
    exc_eq _ (by decide +kernel),
    exc_eq _ (by decide +kernel),
    fun h => absurd h (by decide),
    fun h => absurd h (by decide),
    fun h => absurd h (by decide),
    fun h => absurd h (by decide)⟩,
  ⟨field dev .seq 511 0x60 0x40000000,
    env .seqResume [0, 1, word (511 * 65536)],
    1,
    sess,
    [0, 1, word (511 * 65536)],
    0,
    [511],
    .seqResume (env .seqResume [0, 1, word (511 * 65536)]) [0, 1, word (511 * 65536)],
    .seqResume,
    .seq,
    0,
    .seqResume,
    by simp,
    inOrder_env (by decide +kernel),
    by decide +kernel,
    exc_eq _ (by decide +kernel),
    exc_eq _ (by decide +kernel),
    exc_eq _ (by decide +kernel),
    fun h => absurd h (by decide),
    fun _ c hc => by obtain rfl := List.mem_singleton.mp hc; decide +kernel,
    fun h => absurd h (by decide),
    fun h => absurd h (by decide)⟩,
  ⟨field dev .bseq 7 0x60 0x40000000,
    env .bseqResume [0, 1, word (7 * 65536)],
    1,
    sess,
    [0, 1, word (7 * 65536)],
    0,
    [7],
    .bseqResume (env .bseqResume [0, 1, word (7 * 65536)]) [0, 1, word (7 * 65536)],
    .bseqResume,
    .bseq,
    0,
    .bseqResume,
    by simp,
    inOrder_env (by decide +kernel),
    by decide +kernel,
    exc_eq _ (by decide +kernel),
    exc_eq _ (by decide +kernel),
    exc_eq _ (by decide +kernel),
    fun h => absurd h (by decide),
    fun h => absurd h (by decide),
    fun _ c hc => by obtain rfl := List.mem_singleton.mp hc; decide +kernel,
    fun h => absurd h (by decide)⟩,
  ⟨dev,
    env .acqStop [0, 1, word (511 * 65536)],
    1,
    sess,
    [0, 1, word (511 * 65536)],
    0,
    [511],
    .acqStop (env .acqStop [0, 1, word (511 * 65536)]) [0, 1, word (511 * 65536)],
    .acqStop,
    .acq,
    0,
    .acqStop,
    by simp,
    inOrder_env (by decide +kernel),
    by decide +kernel,
    exc_eq _ (by decide +kernel),
    exc_eq _ (by decide +kernel),
    exc_eq _ (by decide +kernel),
    fun h => absurd h (by decide),
    fun h => absurd h (by decide),
    fun h => absurd h (by decide),
    fun h => absurd h (by decide)⟩,
  ⟨dev,
    env .acqForce [0, 1, word (511 * 65536)],
    1,
    sess,
    [0, 1, word (511 * 65536)],
    0,
    [511],
    .acqForce (env .acqForce [0, 1, word (511 * 65536)]) [0, 1, word (511 * 65536)],
    .acqForce,
    .acq,
    0,
    .acqForce,
    by simp,
    inOrder_env (by decide +kernel),
    by decide +kernel,
    exc_eq _ (by decide +kernel),
    exc_eq _ (by decide +kernel),
    exc_eq _ (by decide +kernel),
    fun h => absurd h (by decide),
    fun h => absurd h (by decide),
    fun h => absurd h (by decide),
    fun h => absurd h (by decide)⟩,
  ⟨dev,
    env .disarm [0x80000000, 1, word (511 * 65536)],
    1,
    sess,
    [0x80000000, 1, word (511 * 65536)],
    0x80000000,
    [511],
    .disarm (env .disarm [0x80000000, 1, word (511 * 65536)]) [0x80000000, 1, word (511 * 65536)],
    .disarm,
    .chan,
    0x80000000,
    .disarm,
    by simp,
    inOrder_env (by decide +kernel),
    by decide +kernel,
    exc_eq _ (by decide +kernel),
    exc_eq _ (by decide +kernel),
    exc_eq _ (by decide +kernel),
    fun h => absurd h (by decide),
    fun h => absurd h (by decide),
    fun h => absurd h (by decide),
    fun _ => by decide +kernel⟩⟩

theorem witness_RunsAreAdmittedAndAccepted :
  (∃ (s t : State) (e : Envelope) (n : Nat) (x : Session) (body : List Word) (f : Word) (l : List Nat) (bank : Bool), 
  let r : Req := ⟨if bank then .bseqRun else .seqRun, e, body⟩
  
  let a := s.admitted r n x
  InOrder s r n x ∧ r.untimed ∧ flagsAndSet (if bank then .bseq else .seq) 0 body = .ok (f, l) ∧ a.allUnlocked n (if bank then .bseq else .seq) l = .ok () ∧ a.noTimed (if bank then .bseq else .seq) l = .ok () ∧ a.admitRuns e.src.port (l.map (seqRef bank)) = .ok t) ∧
  (∃ (s t : State) (e : Envelope) (n : Nat) (x : Session) (body : List Word) (f : Word) (l : List Nat) (bank : Bool), 
  let r : Req := ⟨if bank then .bseqRun else .seqRun, e, body⟩
  
  let a := s.admitted r n x
  InOrder s r n x ∧ r.untimed ∧ flagsAndSet (if bank then .bseq else .seq) 0 body = .ok (f, l) ∧ a.allUnlocked n (if bank then .bseq else .seq) l = .ok () ∧ a.noTimed (if bank then .bseq else .seq) l = .ok () ∧ a.admitRuns e.src.port (l.map (seqRef bank)) = .ok t) ∧
  (∃ (s t : State) (e : Envelope) (n : Nat) (x : Session) (body : List Word) (f : Word) (l : List Nat), 
  let r : Req := ⟨.acqArm, e, body⟩
  
  let a := s.admitted r n x
  InOrder s r n x ∧ r.untimed ∧ flagsAndSet .acq 0 body = .ok (f, l) ∧ a.noTimed .acq l = .ok () ∧ (∀ u ∈ l, a.acqRuns u = false ∧ find a.records.spool.charged u = none ∧ a.acqArmOk u = true) ∧ a.admitUnits l = .ok t ∧ t.now = a.now) :=
  ⟨⟨dev,
    okOf dev (bankRun.admitRuns .a [.bank 7]),
    env .bseqRun bankBody,
    1,
    sess,
    bankBody,
    0,
    [7],
    true,
    inOrder_env (by decide +kernel),
    by decide +kernel,
    exc_eq _ (by decide +kernel),
    exc_eq _ (by decide +kernel),
    exc_eq _ (by decide +kernel),
    ok_of dev _ (by decide +kernel)⟩,
  ⟨shortProgram,
    okOf dev (chanRun.admitRuns .a [.chan 511]),
    env .seqRun chanBody,
    1,
    sess,
    chanBody,
    0,
    [511],
    false,
    inOrder_env (by decide +kernel),
    by decide +kernel,
    exc_eq _ (by decide +kernel),
    exc_eq _ (by decide +kernel),
    exc_eq _ (by decide +kernel),
    ok_of dev _ (by decide +kernel)⟩,
  ⟨longRecord,
    okOf dev (unitRun.admitUnits [511]),
    env .acqArm chanBody,
    1,
    sess,
    chanBody,
    0,
    [511],
    inOrder_env (by decide +kernel),
    by decide +kernel,
    exc_eq _ (by decide +kernel),
    exc_eq _ (by decide +kernel),
    by decide +kernel,
    ok_of dev _ (by decide +kernel),
    by decide +kernel⟩⟩

theorem witness_AdmittedCommandsActAtTheirBoundary_1 :
  (∃ (s : State) (id : Nat) (q : TimedReq), s.boot.phase = .running ∧ q.boundary ≤ s.now ∧ q.timed = true ∧ q.id = id ∧ s.commits.timed.find? (fun p => p.id == id && p.timed) = some q ∧ (∀ p ∈ s.commits.timed, p.id = id → p = q) ∧ q.kind = .arm) ∧
  (∃ (s : State) (id : Nat) (q : TimedReq), s.boot.phase = .running ∧ q.boundary ≤ s.now ∧ q.timed = true ∧ q.id = id ∧ s.commits.timed.find? (fun p => p.id == id && p.timed) = some q ∧ (∀ p ∈ s.commits.timed, p.id = id → p = q) ∧ q.kind = .seqRun) ∧
  (∃ (s : State) (id : Nat) (q : TimedReq), s.boot.phase = .running ∧ q.boundary ≤ s.now ∧ q.timed = true ∧ q.id = id ∧ s.commits.timed.find? (fun p => p.id == id && p.timed) = some q ∧ (∀ p ∈ s.commits.timed, p.id = id → p = q) ∧ q.kind = .bseqRun) ∧
  (∃ (s : State) (id : Nat) (q : TimedReq), s.boot.phase = .running ∧ q.boundary ≤ s.now ∧ q.timed = true ∧ q.id = id ∧ s.commits.timed.find? (fun p => p.id == id && p.timed) = some q ∧ (∀ p ∈ s.commits.timed, p.id = id → p = q) ∧ q.kind = .disarm) ∧
  (∃ (s : State) (id : Nat) (q : TimedReq), s.boot.phase = .running ∧ q.boundary ≤ s.now ∧ q.timed = true ∧ q.id = id ∧ s.commits.timed.find? (fun p => p.id == id && p.timed) = some q ∧ (∀ p ∈ s.commits.timed, p.id = id → p = q) ∧ q.kind = .seqStop) ∧
  (∃ (s : State) (id : Nat) (q : TimedReq), s.boot.phase = .running ∧ q.boundary ≤ s.now ∧ q.timed = true ∧ q.id = id ∧ s.commits.timed.find? (fun p => p.id == id && p.timed) = some q ∧ (∀ p ∈ s.commits.timed, p.id = id → p = q) ∧ q.kind = .bseqStop) ∧
  (∃ (s : State) (id : Nat) (q : TimedReq), s.boot.phase = .running ∧ q.boundary ≤ s.now ∧ q.timed = true ∧ q.id = id ∧ s.commits.timed.find? (fun p => p.id == id && p.timed) = some q ∧ (∀ p ∈ s.commits.timed, p.id = id → p = q) ∧ q.kind = .seqResume) ∧
  (∃ (s : State) (id : Nat) (q : TimedReq), s.boot.phase = .running ∧ q.boundary ≤ s.now ∧ q.timed = true ∧ q.id = id ∧ s.commits.timed.find? (fun p => p.id == id && p.timed) = some q ∧ (∀ p ∈ s.commits.timed, p.id = id → p = q) ∧ q.kind = .bseqResume) :=
  ⟨⟨atBoundary .arm, 5, timedReq .arm, by and_intros <;> decide +kernel⟩,
  ⟨atBoundary .seqRun, 5, timedReq .seqRun, by and_intros <;> decide +kernel⟩,
  ⟨atBoundary .bseqRun, 5, timedReq .bseqRun, by and_intros <;> decide +kernel⟩,
  ⟨atBoundary .disarm, 5, timedReq .disarm, by and_intros <;> decide +kernel⟩,
  ⟨atBoundary .seqStop, 5, timedReq .seqStop, by and_intros <;> decide +kernel⟩,
  ⟨atBoundary .bseqStop, 5, timedReq .bseqStop, by and_intros <;> decide +kernel⟩,
  ⟨atBoundary .seqResume, 5, timedReq .seqResume, by and_intros <;> decide +kernel⟩,
  ⟨atBoundary .bseqResume, 5, timedReq .bseqResume, by and_intros <;> decide +kernel⟩⟩

theorem witness_AdmittedCommandsActAtTheirBoundary_2 :
  (∃ (s : State) (id : Nat) (q : TimedReq), s.boot.phase = .running ∧ q.boundary ≤ s.now ∧ q.timed = true ∧ q.id = id ∧ s.commits.timed.find? (fun p => p.id == id && p.timed) = some q ∧ (∀ p ∈ s.commits.timed, p.id = id → p = q) ∧ q.kind = .acqArm) ∧
  (∃ (s : State) (id : Nat) (q : TimedReq), s.boot.phase = .running ∧ q.boundary ≤ s.now ∧ q.timed = true ∧ q.id = id ∧ s.commits.timed.find? (fun p => p.id == id && p.timed) = some q ∧ (∀ p ∈ s.commits.timed, p.id = id → p = q) ∧ q.kind = .acqStop) ∧
  (∃ (s : State) (id : Nat) (q : TimedReq), s.boot.phase = .running ∧ q.boundary ≤ s.now ∧ q.timed = true ∧ q.id = id ∧ s.commits.timed.find? (fun p => p.id == id && p.timed) = some q ∧ (∀ p ∈ s.commits.timed, p.id = id → p = q) ∧ q.kind = .acqForce) ∧
  (∃ (s : State) (id : Nat) (q : TimedReq), s.boot.phase = .running ∧ q.boundary ≤ s.now ∧ q.timed = true ∧ q.id = id ∧ s.commits.timed.find? (fun p => p.id == id && p.timed) = some q ∧ (∀ p ∈ s.commits.timed, p.id = id → p = q) ∧ 
  let t : State := { s with commits := { s.commits with timed := s.commits.timed.filter fun p => p.id != id } }
  ∃ c, q.kind = .arm ∧ q.insts = [c] ∧ c < 512 ∧ ∃ d, t.armCheck c (bitAt q.flags 31) = .error d) ∧
  (∃ (s : State) (id : Nat) (q : TimedReq), s.boot.phase = .running ∧ q.boundary ≤ s.now ∧ q.timed = true ∧ q.id = id ∧ s.commits.timed.find? (fun p => p.id == id && p.timed) = some q ∧ (∀ p ∈ s.commits.timed, p.id = id → p = q) ∧ 
  let t : State := { s with commits := { s.commits with timed := s.commits.timed.filter fun p => p.id != id } }
  ∃ c, q.kind = .arm ∧ q.insts = [c] ∧ c < 512 ∧ t.armCheck c (bitAt q.flags 31) = .ok () ∧ (t.engineOf (octetOf c)).isSome = true ∧ s.regsCanonical) ∧
  (∃ (s : State) (id : Nat) (q : TimedReq), s.boot.phase = .running ∧ q.boundary ≤ s.now ∧ q.timed = true ∧ q.id = id ∧ s.commits.timed.find? (fun p => p.id == id && p.timed) = some q ∧ (∀ p ∈ s.commits.timed, p.id = id → p = q) ∧ 
  let t : State := { s with commits := { s.commits with timed := s.commits.timed.filter fun p => p.id != id } }
  ∃ bank k, q.kind = (if bank then .bseqRun else .seqRun) ∧ q.insts = [k] ∧ k < (if bank then 8 else 512) ∧ ∃ d, t.runStill (seqRef bank k) = .error d ∧ t.seqRuns (seqRef bank k) = false) ∧
  (∃ (s : State) (id : Nat) (q : TimedReq), s.boot.phase = .running ∧ q.boundary ≤ s.now ∧ q.timed = true ∧ q.id = id ∧ s.commits.timed.find? (fun p => p.id == id && p.timed) = some q ∧ (∀ p ∈ s.commits.timed, p.id = id → p = q) ∧ 
  let t : State := { s with commits := { s.commits with timed := s.commits.timed.filter fun p => p.id != id } }
  ∃ bank k, q.kind = (if bank then .bseqRun else .seqRun) ∧ q.insts = [k] ∧ k < (if bank then 8 else 512) ∧ t.runStill (seqRef bank k) = .ok () ∧ s.regsCanonical ∧ sortedKeys s.seqs = true ∧ sortedKeys s.bseqs = true) :=
  ⟨⟨atBoundary .acqArm, 5, timedReq .acqArm, by and_intros <;> decide +kernel⟩,
  ⟨atBoundary .acqStop, 5, timedReq .acqStop, by and_intros <;> decide +kernel⟩,
  ⟨atBoundary .acqForce, 5, timedReq .acqForce, by and_intros <;> decide +kernel⟩,
  ⟨timedAt dev .arm 0x80000000,
    5,
    timedReqAt .arm 0x80000000,
    by
      iterate 6 refine ⟨by decide +kernel, ?_⟩
      exact ⟨511,
        by
          iterate 3 refine ⟨by decide +kernel, ?_⟩
          exact ⟨{ err := .notReady, obj := objCode .chan, inst := 511 }, err_eq _ (by decide +kernel)⟩⟩⟩,
  ⟨timedAt (chanAt dev 2 ch) .arm 0x80000000,
    5,
    timedReqAt .arm 0x80000000,
    by
      iterate 6 refine ⟨by decide +kernel, ?_⟩
      exact ⟨511,
        by
          iterate 3 refine ⟨by decide +kernel, ?_⟩
          exact ⟨exc_eq _ (by decide +kernel), by and_intros <;> decide +kernel⟩⟩⟩,
  ⟨timedAt dev .seqRun 0,
    5,
    timedReqAt .seqRun 0,
    by
      iterate 6 refine ⟨by decide +kernel, ?_⟩
      exact ⟨false,
        511,
        by
          iterate 3 refine ⟨by decide +kernel, ?_⟩
          exact ⟨errOf ((timedAt dev .seqRun 0).runStill q511), err_of _ (by decide +kernel), by decide +kernel⟩⟩⟩,
  ⟨timedAt (haltProgram dev) .seqRun 0,
    5,
    timedReqAt .seqRun 0,
    by
      iterate 6 refine ⟨by decide +kernel, ?_⟩
      exact ⟨false,
        511,
        by
          iterate 3 refine ⟨by decide +kernel, ?_⟩
          exact ⟨exc_eq _ (by decide +kernel), by and_intros <;> decide +kernel⟩⟩⟩⟩

theorem witness_TheRecordPathActs_1 :
  (∃ (s : State) (e : Envelope) (n : Nat) (x : Session) (body : List Word) (l : List Nat), 
  let r : Req := ⟨.fifoFlush, e, body⟩
  InOrder s r n x ∧ flagsAndSet .fifo 0 body = .ok (0, l)) ∧
  (∃ (s : State) (e : Envelope) (n : Nat) (x : Session) (w : Word), 
  let r : Req := ⟨.spoolRead, e, [w]⟩
  
  let a := s.admitted r n x
  
  let sp := a.records.spool
  
  let start := if bitAt w 31 then sp.acknowledged else sp.delivered
  InOrder s r n x ∧ fld w 30 16 = 0 ∧ 64 ≤ fld w 15 0 ∧ fld w 15 0 ≤ 8912 ∧ (∀ p ∈ sp.packets, p.cursorEnd ≤ start)) ∧
  (∃ (s : State) (e : Envelope) (n : Nat) (x : Session) (w : Word) (p : SpoolPacket), 
  let r : Req := ⟨.spoolRead, e, [w]⟩
  
  let a := s.admitted r n x
  
  let sp := a.records.spool
  
  let start := if bitAt w 31 then sp.acknowledged else sp.delivered
  InOrder s r n x ∧ fld w 30 16 = 0 ∧ 4 * p.words.length ≤ fld w 15 0 ∧ 64 ≤ fld w 15 0 ∧ fld w 15 0 ≤ 8912 ∧ p.words.length + 5 ≤ a.replyRoom r ∧ a.pullOn = true ∧ sp.packets = [p] ∧ start < p.cursorEnd ∧ p.check [] = .good) ∧
  (∃ (s : State) (e : Envelope) (n : Nat) (x : Session) (c0 c1 : Word), 
  let r : Req := ⟨.spoolAck, e, [c0, c1]⟩
  
  let a := s.admitted r n x
  
  let sp := a.records.spool
  
  let c := dword [c0, c1] 0
  InOrder s r n x ∧ c ≤ sp.delivered ∧ (c = sp.acknowledged ∨ ∃ p ∈ sp.packets, p.cursorEnd = c)) ∧
  (∃ (s : State) (e : Envelope) (n : Nat) (x : Session), 
  let r : Req := ⟨.spoolDiscard, e, []⟩
  
  let a := s.admitted r n x
  InOrder s r n x ∧ a.rb .spool 0 8 31 = false ∧ a.rb .journal 0 8 31 = false) ∧
  (∃ (s : State) (u : Nat) (o : OpenPacket), s.boot.phase = .running ∧ u < 512 ∧ (s.unitPkts u).openPkt = some o ∧ o.since + s.rf .fifo (bankOf u) 0 15 0 * 100000 ≤ s.clock ∧ o.payload ≠ [] ∧ s.recordWhole u o.recno = true) ∧
  (∃ (s : State) (u : Nat) (o : OpenPacket), s.boot.phase = .running ∧ u < 512 ∧ (s.unitPkts u).openPkt = some o ∧ o.since + s.rf .fifo (bankOf u) 0 15 0 * 100000 ≤ s.clock ∧ o.payload ≠ [] ∧ s.recordWhole u o.recno = false) ∧
  (∃ (s : State) (f cyc u : Nat) (w : List Word) (rest : List WaitingPacket), s.boot.phase = .running ∧ f < 9 ∧ s.waitingPkts f = ⟨some u, w⟩ :: rest ∧ s.ringFits f w = true) :=
  ⟨⟨dev, env .fifoFlush [0, 1, 0x00080000], 1, sess, [0, 1, 0x00080000], [8], inOrder_env (by decide +kernel), exc_eq _ (by decide +kernel)⟩,
  ⟨dev, env .spoolRead [64], 1, sess, 64, inOrder_env (by decide +kernel), by and_intros <;> decide +kernel⟩,
  ⟨field (field (withSpool fun p => { p with packets := [spooled], cursor := 36 }) .spool 0 0 0x8000) .spool 0 8 0x80000000,
    env .spoolRead [8912],
    1,
    sess,
    8912,
    spooled,
    inOrder_env (by decide +kernel),
    by and_intros <;> decide +kernel⟩,
  ⟨dev, env .spoolAck [0, 0], 1, sess, 0, 0, inOrder_env (by decide +kernel), by and_intros <;> decide +kernel⟩,
  ⟨dev, env .spoolDiscard [], 1, sess, inOrder_env (by decide +kernel), by and_intros <;> decide +kernel⟩,
  ⟨{ withRecords { dev with clock := 10 ^ 6 } (fun r => { r with units := [(511, ⟨some opened, none⟩)] }) with acqs := [(511, { Acq.fresh with rcd := some { record with recno := 0 } })] },
    511,
    opened,
    by and_intros <;> decide +kernel⟩,
  ⟨withRecords { dev with clock := 10 ^ 6 } fun r => { r with units := [(511, ⟨some opened, none⟩)] },
    511,
    opened,
    by and_intros <;> decide +kernel⟩,
  ⟨withRecords dev fun r => { r with waiting := [(8, [⟨some 5, [1]⟩])] }, 8, 0, 5, [1], [], by and_intros <;> decide +kernel⟩⟩

theorem witness_TheRecordPathActs_2 :
  (∃ (s : State) (u : Nat), (s.unitPkts u).dropping = none) ∧
  (∃ (s : State) (u : Nat), ∃ d, (s.unitPkts u).dropping = some d) ∧
  (∃ (s : State) (cyc f : Nat) (p : List Word) (rest : List (List Word)), s.boot.phase = .running ∧ s.rb .spool 0 0x20 30 = false ∧ s.nextFifo = some f ∧ (s.ring f).packets = p :: rest ∧ s.spoolFits p = false) ∧
  (∃ (s : State) (cyc f : Nat) (p : List Word) (rest : List (List Word)), s.boot.phase = .running ∧ s.rb .spool 0 0x20 30 = false ∧ s.nextFifo = some f ∧ (s.ring f).packets = p :: rest ∧ s.spoolFits p = true) ∧
  (∃ (s : State) (f : Nat) (p : List Word) (rest : List (List Word)), s.boot.phase = .running ∧ s.rb .spool 0 0x20 30 = true ∧ s.nextFifo = some f ∧ (s.ring f).packets = p :: rest ∧ s.spoolFits p = true) :=
  ⟨⟨dev, 5, by decide +kernel⟩,
  ⟨{ dev with records := { dev.records with units := [(511, { UnitPackets.fresh with dropping := some ⟨false, 0, 0, 0, 0, false⟩ })] } },
    511,
    ⟨false, 0, 0, 0, 0, false⟩,
    by decide +kernel⟩,
  ⟨field ringed .spool 0 0x21 0x40000000, 0, 8, [1], [], by and_intros <;> decide +kernel⟩,
  ⟨ringed, 0, 8, [1], [], by and_intros <;> decide +kernel⟩,
  ⟨field ringed .spool 0 0x20 0x40000000, 8, [1], [], by and_intros <;> decide +kernel⟩⟩

theorem witness_PacketsAreKeptAndSent :
  (∃ (s : State) (p : SpoolPacket), p ∈ s.records.spool.packets) ∧
  (∃ p : List Word, 8 ≤ p.length) ∧
  (∃ (s : State) (e : EgressTo) (p : SpoolPacket) (rest : List SpoolPacket), s.boot.phase = .running ∧ s.pushOn = true ∧ s.host.egress = some e ∧ s.records.spool.datagram = [] ∧ p.pushTaken = false ∧ s.records.spool.datagramEnd < p.cursorEnd ∧ s.records.spool.packets = p :: rest ∧ p.check (rest.filter fun q => decide (s.records.spool.datagramEnd < q.cursorEnd) && !q.pushTaken) = .good) ∧
  (∃ (s : State) (e : EgressTo), s.boot.phase = .running ∧ s.host.egress = some e ∧ s.records.spool.datagram ≠ [] ∧ s.records.spool.datagramAt + 10000 ≤ s.clock ∧ s.paused e.dst.port = false ∧ (s.records.spool.datagram.map pktBytes).sum * 10 ^ 9 ≤ s.egressCredit) :=
  ⟨⟨withSpool fun p => { p with packets := [spooled] }, spooled, by decide +kernel⟩,
  ⟨List.replicate 8 0, by decide +kernel⟩,
  ⟨field { withSpool (fun p => { p with packets := [spooled] }) with host := { dev.host with egress := some egressTo } } .spool 0 8 0x80000000,
    egressTo,
    spooled,
    [],
    by and_intros <;> decide +kernel⟩,
  ⟨{ withSpool (fun p => { p with datagram := [List.replicate 8 0] }) with clock := 10 ^ 9, host := { dev.host with egress := some egressTo } },
    egressTo,
    by and_intros <;> decide +kernel⟩⟩

theorem witness_TheJournalIsWrittenAndRead_1 :
  (∃ (s : State) (e : Envelope) (n : Nat) (x : Session), 
  let r : Req := ⟨.journalOpen, e, []⟩
  
  let a := s.admitted r n x
  InOrder s r n x ∧ a.rf .journal 0 0 31 28 ≠ 0 ∧ a.logOn = false) ∧
  (∃ (s : State) (found : List JImage), s.boot.phase = .running ∧ s.records.journal.scanning = true) ∧
  (∃ (s : State) (e : Envelope) (n : Nat) (x : Session) (q0 q1 off w : Word), 
  let r : Req := ⟨.journalRead, e, [q0, q1, off, w]⟩
  
  let a := s.admitted r n x
  InOrder s r n x ∧ fld w 31 16 = 0 ∧ 64 ≤ fld w 15 0 ∧ fld w 15 0 ≤ 8912 ∧ a.rb .journal 0 0x20 31 = false) ∧
  (∃ (s : State) (e : Envelope) (n : Nat) (x : Session) (q0 q1 off w : Word), 
  let r : Req := ⟨.journalRead, e, [q0, q1, off, w]⟩
  
  let a := s.admitted r n x
  InOrder s r n x ∧ fld w 31 16 = 0 ∧ 64 ≤ fld w 15 0 ∧ fld w 15 0 ≤ 8912 ∧ a.rb .journal 0 0x20 31 = true ∧ (∀ j ∈ a.jValid, j.jseq ≠ dword [q0, q1] 0)) ∧
  (∃ (s : State) (e : Envelope) (n : Nat) (x : Session) (q0 q1 w : Word) (rec : JRecord) (p : List Word), 
  let r : Req := ⟨.journalRead, e, [q0, q1, 0, w]⟩
  
  let a := s.admitted r n x
  InOrder s r n x ∧ fld w 31 16 = 0 ∧ 64 ≤ fld w 15 0 ∧ fld w 15 0 ≤ 8912 ∧ a.rb .journal 0 0x20 31 = true ∧ a.jValid = [rec] ∧ rec.jseq = dword [q0, q1] 0 ∧ rec.packets = [p] ∧ 4 * p.length ≤ 64 ∧ a.wide .journal 0 0x21 2 ≤ rec.jseq ∧ rec.jseq < a.jNext) ∧
  (∃ (s : State) (p : SpoolPacket) (rest : List SpoolPacket), s.boot.phase = .running ∧ s.logOn = true ∧ s.rb .journal 0 0x20 31 = true ∧ s.rb .journal 0 0x20 30 = false ∧ s.records.journal.closing = false ∧ s.jLeft = p :: rest ∧ s.records.journal.openRec = none ∧ s.records.journal.bad = [] ∧ (∀ b ∈ s.jBlocks s.records.journal.nextUnit (s.jUnits [p.words] + 1), b ∈ s.records.journal.erased) ∧ p.check rest = .good ∧ s.records.journal.nextUnit % s.jBlockUnits + (s.jUnits [p.words] + 1) ≤ s.jTotalUnits ∧ (∀ b ∈ s.jFresh s.records.journal.nextUnit (s.jUnits [p.words] + 1), s.jBusy b = false)) ∧
  (∃ (s : State) (o : JOpen), s.boot.phase = .running ∧ s.records.journal.openRec = some o ∧ o.since + s.rf .journal 0 3 15 0 * 10 ^ 6 ≤ s.clock) ∧
  (∃ (s : State) (b : Nat), s.boot.phase = .running ∧ b ∈ s.records.journal.erasing) :=
  ⟨⟨field dev .journal 0 0 0x10000000, env .journalOpen [], 1, sess, inOrder_env (by decide +kernel), by and_intros <;> decide +kernel⟩,
  ⟨withJournal dev (fun j => { j with scanning := true }), [⟨0, [], []⟩], by and_intros <;> decide +kernel⟩,
  ⟨dev, env .journalRead [0, 0, 0, 64], 1, sess, 0, 0, 0, 64, inOrder_env (by decide +kernel), by and_intros <;> decide +kernel⟩,
  ⟨journalOn, env .journalRead [0, 0, 0, 64], 1, sess, 0, 0, 0, 64, inOrder_env (by decide +kernel), by and_intros <;> decide +kernel⟩,
  ⟨field (field (withJournal dev fun j => { j with records := [kept] }) .journal 0 0x20 0x80000000) .journal 0 0x22 1,
    env .journalRead [0, 0, 0, 64],
    1,
    sess,
    0,
    0,
    64,
    kept,
    [1],
    inOrder_env (by decide +kernel),
    by and_intros <;> decide +kernel⟩,
  ⟨withRecords (field (field journalOn .journal 0 1 0x04000000) .journal 0 2 64) (fun r => { r with spool := { r.spool with packets := [spooled] }, journal := { r.journal with erased := upto 64 } }),
    spooled,
    [],
    by and_intros <;> decide +kernel⟩,
  ⟨withJournal { dev with clock := 10 ^ 10 } (fun j => { j with openRec := some opening }), opening, by and_intros <;> decide +kernel⟩,
  ⟨withJournal dev (fun j => { j with erasing := [9] }), 9, by and_intros <;> decide +kernel⟩⟩

theorem witness_TheJournalIsWrittenAndRead_2 :
  (∃ (s : State) (r : JRecord) (cursor : Nat) (rest : List (JRecord × Nat)), s.records.journal.programming = (r, cursor) :: rest ∧ (∀ b ∈ s.jBlocks r.unit (r.units + 1), b ∈ s.records.journal.erased) ∧ r.commit = []) ∧
  (∃ (s : State) (r : JRecord) (cursor : Nat) (rest : List (JRecord × Nat)), s.records.journal.programming = (r, cursor) :: rest ∧ (∀ b ∈ s.jBlocks r.unit (r.units + 1), b ∈ s.records.journal.erased) ∧ r.commit ≠ []) ∧
  (∃ (s : State) (b : Nat), s.boot.phase = .running ∧ b ∉ s.records.journal.bad) :=
  ⟨⟨withJournal dev (fun j => { j with programming := [(kept, 32)], erased := upto 16 }), kept, 32, [], by and_intros <;> decide +kernel⟩,
  ⟨withJournal dev (fun j => { j with programming := [({ kept with commit := [1] }, 32)], erased := upto 16 }),
    { kept with commit := [1] },
    32,
    [],
    by and_intros <;> decide +kernel⟩,
  ⟨dev, 9, by and_intros <;> decide +kernel⟩⟩

theorem witness_RecordsAreTaken :
  (∃ (s : State) (u : Nat), s.boot.phase = .running ∧ u < 512 ∧ s.acqState u = 3 ∧ (s.acq u).holdLeft = 0) ∧
  (∃ (s : State) (u cyc : Nat), s.boot.phase = .running ∧ u < 512 ∧ (s.acq u).det.toStart = true) ∧
  (∃ (s : State) (u cyc ends : Nat), s.boot.phase = .running ∧ u < 512 ∧ (s.acq u).det.toEnd = some ends) ∧
  (∃ (s : State) (p cyc : Nat), s.boot.phase = .running ∧ p < 16 ∧ s.rb .pattern p 0 31 = true ∧ s.rf .pattern p 0 15 0 ≤ s.rf .pattern p 0x80 15 0 ∧ s.rb .pattern p 0x80 31 = true ∧ p ∉ s.patternFired) ∧
  (∃ (s : State) (u cyc : Nat) (r : Record), s.boot.phase = .running ∧ u < 512 ∧ (s.acq u).rcd = some r ∧ r.whole = true) ∧
  (∃ (s : State) (u cyc : Nat) (r : Record), s.regsCanonical ∧ sortedKeys s.acqs = true ∧ s.boot.phase = .running ∧ u < 512 ∧ (s.acq u).rcd = some r ∧ r.whole = true) :=
  ⟨⟨field dev .acq 511 0x20 0x30000000, 511, by and_intros <;> decide +kernel⟩,
  ⟨unit { Acq.fresh with det := { Detection.fresh with toStart := true } }, 511, 9, by and_intros <;> decide +kernel⟩,
  ⟨unit { Acq.fresh with det := { Detection.fresh with toEnd := some 3 } }, 511, 9, 3, by and_intros <;> decide +kernel⟩,
  ⟨field (field dev .pattern 15 0 0x80000001) .pattern 15 0x80 0x80000001, 15, 9, by and_intros <;> decide +kernel⟩,
  ⟨unit { Acq.fresh with rcd := some record }, 511, 9, record, by and_intros <;> decide +kernel⟩,
  ⟨unit { Acq.fresh with rcd := some record }, 511, 9, record, by and_intros <;> decide +kernel⟩⟩

theorem witness_UnitsArmAndTrigger :
  (∃ (s : State) (u : Nat), s.regsCanonical ∧ sortedKeys s.acqs = true ∧ u < 512) ∧
  (∃ (s : State) (u : Nat), s.regsCanonical ∧ sortedKeys s.acqs = true ∧ u < 512) ∧
  (∃ (s : State) (u : Nat), s.regsCanonical ∧ sortedKeys s.acqs = true ∧ u < 512 ∧ ∃ v f w, v < 512 ∧ v ≠ u ∧ f < 65536 ∧ w < 16) ∧
  (∃ (s : State) (u : Nat) (t : Trigger), (s.acqState u = 0 ∨ s.acqState u = 4)) ∧
  (∃ (s : State) (u : Nat) (t : Trigger), (s.acqState u = 2 ∨ s.acqState u = 3) ∧ t.cause ≠ .event) ∧
  (∃ (s : State) (u : Nat) (t : Trigger), (s.acqState u = 1 ∨ s.acqState u = 5) ∧ (s.acq u).taken = none) :=
  ⟨⟨dev, 511, by and_intros <;> decide +kernel⟩,
  ⟨dev, 511, by and_intros <;> decide +kernel⟩,
  ⟨dev,
    511,
    by
      iterate 3 refine ⟨by decide +kernel, ?_⟩
      exact ⟨510, 0, 0, by and_intros <;> decide +kernel⟩⟩,
  ⟨dev, 511, ⟨.event, 5, 5, false, false, false⟩, by decide +kernel⟩,
  ⟨field dev .acq 511 0x20 0x20000000, 511, ⟨.level, 5, 5, false, false, false⟩, by and_intros <;> decide +kernel⟩,
  ⟨field dev .acq 511 0x20 0x10000000, 511, ⟨.event, 5, 5, false, false, false⟩, by and_intros <;> decide +kernel⟩⟩

theorem witness_TripsAndSupervisionAct_1 :
  (∃ (s : State) (c : Nat) (i : Instr) (l : Limit) (v : Word) (k : RangeChange), s.boot.phase = .running ∧ c < 512 ∧ s.active c = true ∧ (s.chan c).supv.feDue = none ∧ (s.chan c).supv.plDue = none ∧ (i = .protectionTrip c ∧ s.protDue c = some (l, v) ∨ i = .crossTime c ∧ s.rf .chan c 8 31 16 ≠ 0 ∧ s.inCompliance c = true ∧ s.rf .chan c 8 31 16 * 100 ≤ (s.chan c).compFrames ∧ l = .crossTime ∧ v = (if s.forcesCurrent c then (s.chan c).lastV else (s.chan c).lastI) ∨ i = .thermSrcTrip c ∧ s.outerRuns c = true ∧ s.mode c = 5 ∧ 2 * s.maxAge c ≤ s.thermalAge c ∧ l = .thermSrc ∧ v = 0 ∨ i = .rangeTimeout c ∧ (s.chan c).change = some k ∧ k.since + 2 * s.overlap c k.current k.target * 100 + 20000 ≤ s.clock ∧ l = .range ∧ v = 0)) ∧
  (∃ (s : State) (c : Nat) (i : Instr) (l : Limit) (v : Word) (k : RangeChange), s.boot.phase = .running ∧ c < 512 ∧ s.active c = true ∧ (s.chan c).supv.feDue = none ∧ (s.chan c).supv.plDue = none ∧ (i = .protectionTrip c ∧ s.protDue c = some (l, v) ∨ i = .crossTime c ∧ s.rf .chan c 8 31 16 ≠ 0 ∧ s.inCompliance c = true ∧ s.rf .chan c 8 31 16 * 100 ≤ (s.chan c).compFrames ∧ l = .crossTime ∧ v = (if s.forcesCurrent c then (s.chan c).lastV else (s.chan c).lastI) ∨ i = .thermSrcTrip c ∧ s.outerRuns c = true ∧ s.mode c = 5 ∧ 2 * s.maxAge c ≤ s.thermalAge c ∧ l = .thermSrc ∧ v = 0 ∨ i = .rangeTimeout c ∧ (s.chan c).change = some k ∧ k.since + 2 * s.overlap c k.current k.target * 100 + 20000 ≤ s.clock ∧ l = .range ∧ v = 0)) ∧
  (∃ (s : State) (c : Nat) (i : Instr) (l : Limit) (v : Word) (k : RangeChange), s.boot.phase = .running ∧ c < 512 ∧ s.active c = true ∧ (s.chan c).supv.feDue = none ∧ (s.chan c).supv.plDue = none ∧ (i = .protectionTrip c ∧ s.protDue c = some (l, v) ∨ i = .crossTime c ∧ s.rf .chan c 8 31 16 ≠ 0 ∧ s.inCompliance c = true ∧ s.rf .chan c 8 31 16 * 100 ≤ (s.chan c).compFrames ∧ l = .crossTime ∧ v = (if s.forcesCurrent c then (s.chan c).lastV else (s.chan c).lastI) ∨ i = .thermSrcTrip c ∧ s.outerRuns c = true ∧ s.mode c = 5 ∧ 2 * s.maxAge c ≤ s.thermalAge c ∧ l = .thermSrc ∧ v = 0 ∨ i = .rangeTimeout c ∧ (s.chan c).change = some k ∧ k.since + 2 * s.overlap c k.current k.target * 100 + 20000 ≤ s.clock ∧ l = .range ∧ v = 0)) ∧
  (∃ (s : State) (c : Nat) (i : Instr) (l : Limit) (v : Word) (k : RangeChange), s.boot.phase = .running ∧ c < 512 ∧ s.active c = true ∧ (s.chan c).supv.feDue = none ∧ (s.chan c).supv.plDue = none ∧ (i = .protectionTrip c ∧ s.protDue c = some (l, v) ∨ i = .crossTime c ∧ s.rf .chan c 8 31 16 ≠ 0 ∧ s.inCompliance c = true ∧ s.rf .chan c 8 31 16 * 100 ≤ (s.chan c).compFrames ∧ l = .crossTime ∧ v = (if s.forcesCurrent c then (s.chan c).lastV else (s.chan c).lastI) ∨ i = .thermSrcTrip c ∧ s.outerRuns c = true ∧ s.mode c = 5 ∧ 2 * s.maxAge c ≤ s.thermalAge c ∧ l = .thermSrc ∧ v = 0 ∨ i = .rangeTimeout c ∧ (s.chan c).change = some k ∧ k.since + 2 * s.overlap c k.current k.target * 100 + 20000 ≤ s.clock ∧ l = .range ∧ v = 0)) ∧
  (∃ (s : State) (c cyc : Nat), s.boot.phase = .running ∧ c < 512 ∧ s.active c = true ∧ (s.chan c).eventTrip = some cyc ∧ cyc ≤ s.chanCycle c ∧ s.protDue c = none ∧ (s.chan c).supv.feDue = none ∧ (s.chan c).supv.plDue = none ∧ sortedKeys s.chans = true) ∧
  (∃ (s : State) (c : Nat), s.regsCanonical ∧ sortedKeys s.chans = true) ∧
  (∃ (s : State) (c : Nat) (fe : Word), s.boot.phase = .running ∧ c < 512 ∧ (s.chan c).supv.feDue = some fe ∧ (s.chan c).supv.plDue = none ∧ sortedKeys s.chans = true) ∧
  (∃ (s : State) (c : Nat) (fe : Word), s.boot.phase = .running ∧ c < 512 ∧ (s.chan c).supv.feDue = some fe ∧ (s.chan c).supv.plDue = none ∧ sortedKeys s.chans = true ∧ 
  let t := s.followActs c
  t.rf .profile c 0x10 15 14 = 1 ∧ t.protDue c = none ∧ t.thermDue c = false) :=
  ⟨⟨chanAt dev 4 { ch with overRuns := [10 ^ 6, 0, 0, 0, 0] }, 511, .protectionTrip 511, .vHi, 0, change, by and_intros <;> decide +kernel⟩,
  ⟨chanAt (field (field dev .chan 511 8 0x00010000) .chan 511 0x21 0x1000) 4 { ch with compFrames := 100 },
    511,
    .crossTime 511,
    .crossTime,
    0,
    change,
    by and_intros <;> decide +kernel⟩,
  ⟨late (outerAt 0x05000000), 511, .thermSrcTrip 511, .thermSrc, 0, change, by and_intros <;> decide +kernel⟩,
  ⟨late (chanAt dev 4 { ch with change := some change }), 511, .rangeTimeout 511, .range, 0, change, by and_intros <;> decide +kernel⟩,
  ⟨chanAt { dev with clock := 9 } 4 { ch with eventTrip := some 3 }, 511, 3, by and_intros <;> decide +kernel⟩,
  ⟨dev, 511, by and_intros <;> decide +kernel⟩,
  ⟨chanAt dev 4 (supv { ch.supv with feDue := some 5 }), 511, 5, by and_intros <;> decide +kernel⟩,
  ⟨field (chanAt dev 4 (supv { ch.supv with feDue := some 5 })) .profile 511 0x10 0x4000, 511, 5, by and_intros <;> decide +kernel⟩⟩

theorem witness_TripsAndSupervisionAct_2 :
  (∃ (s : State) (c : Nat) (fe : Word), s.boot.phase = .running ∧ c < 512 ∧ (s.chan c).supv.feDue = some fe ∧ (s.chan c).supv.plDue = none ∧ sortedKeys s.chans = true ∧ 
  let t := s.followActs c
  t.rf .profile c 0x10 15 14 ≠ 1) ∧
  (∃ (s : State) (c ph : Nat) (rho : Word), s.boot.phase = .running ∧ c < 512 ∧ (s.chan c).supv.plDue = some (ph, rho) ∧ (s.chan c).supv.feDue = none) ∧
  (∃ (s : State) (c ph : Nat) (rho : Word), s.boot.phase = .running ∧ c < 512 ∧ (s.chan c).supv.plDue = some (ph, rho) ∧ (s.chan c).supv.feDue = none ∧ 
  let t := s.plausActs c
  t.plausAction c ph = 0) ∧
  (∃ (s : State) (c ph : Nat) (rho : Word), s.boot.phase = .running ∧ c < 512 ∧ (s.chan c).supv.plDue = some (ph, rho) ∧ (s.chan c).supv.feDue = none ∧ 
  let t := s.plausActs c
  t.plausAction c ph = 1) ∧
  (∃ (s : State) (c ph : Nat) (rho : Word), s.boot.phase = .running ∧ c < 512 ∧ (s.chan c).supv.plDue = some (ph, rho) ∧ (s.chan c).supv.feDue = none ∧ 
  let t := s.plausActs c
  2 ≤ t.plausAction c ph ∧ t.protDue c = none ∧ t.thermDue c = false) ∧
  (∃ (s : State) (c ph : Nat) (rho : Word), s.boot.phase = .running ∧ c < 512 ∧ (s.chan c).supv.plDue = some (ph, rho) ∧ (s.chan c).supv.feDue = none ∧ 
  let t := s.plausActs c
  2 ≤ t.plausAction c ph ∧ t.protDue c = none ∧ t.thermDue c = false) :=
  ⟨⟨field (chanAt dev 4 (supv { ch.supv with feDue := some 5 })) .profile 511 0x10 0x8000, 511, 5, by and_intros <;> decide +kernel⟩,
  ⟨plausible, 511, 2, 5, by and_intros <;> decide +kernel⟩,
  ⟨field plausible .profile 511 0x1A 0, 511, 2, 5, by and_intros <;> decide +kernel⟩,
  ⟨field plausible .profile 511 0x1A 0x4000, 511, 2, 5, by and_intros <;> decide +kernel⟩,
  ⟨field plausible .profile 511 0x1A 0x8000, 511, 2, 5, by and_intros <;> decide +kernel⟩,
  ⟨field plausible .profile 511 0x1A 0xC000, 511, 2, 5, by and_intros <;> decide +kernel⟩⟩

theorem witness_ChannelEventsAct_1 :
  (∃ (s : State) (c : Nat), s.boot.phase = .running ∧ c < 512 ∧ s.active c = true ∧ s.predMax c ≤ (s.chan c).predRun ∧ s.rb .loop c 0x40 10 = false) ∧
  (∃ (s : State) (c : Nat), s.boot.phase = .running ∧ c < 512 ∧ s.inCompliance c = true ∧ 16 ≤ (s.chan c).exitRun) ∧
  (∃ (s : State) (c : Nat), s.boot.phase = .running ∧ c < 512 ∧ s.chState c ≠ 6 ∧ s.rb .loop c 0x40 10 = false ∧ (s.phase c = 1 ∧ (s.chan c).supv.phaseSince + s.rf .profile c 0x14 31 16 * 10000 ≤ s.clock ∧ ((s.chan c).supv.arrivedOnce = true ∨ s.mode c = 7) ∨ s.phase c = 3 ∧ (s.chan c).supv.phaseSince + s.rf .profile c 0x14 15 0 * 10000 ≤ s.clock)) ∧
  (∃ (s : State) (c : Nat), s.boot.phase = .running ∧ c < 512 ∧ s.chState c ≠ 6 ∧ s.rb .loop c 0x40 10 = false ∧ (s.phase c = 1 ∧ (s.chan c).supv.phaseSince + s.rf .profile c 0x14 31 16 * 10000 ≤ s.clock ∧ ((s.chan c).supv.arrivedOnce = true ∨ s.mode c = 7) ∨ s.phase c = 3 ∧ (s.chan c).supv.phaseSince + s.rf .profile c 0x14 15 0 * 10000 ≤ s.clock)) ∧
  (∃ (s : State) (c : Nat), s.boot.phase = .running ∧ c < 512 ∧ s.outerRuns c = true ∧ (s.chan c).outer.due = true ∧ s.mode c = 5 ∧ s.maxAge c < s.thermalAge c) ∧
  (∃ (s : State) (c r : Nat) (current : Bool), s.boot.phase = .running ∧ c < 512 ∧ s.autoDecides c current = true ∧ s.upRangeTo c current = some r) ∧
  (∃ (s : State) (c r : Nat) (current : Bool), s.boot.phase = .running ∧ c < 512 ∧ s.autoDecides c current = true ∧ s.downRangeTo c current = some r) ∧
  (∃ (s : State) (c r : Nat) (current : Bool), s.boot.phase = .running ∧ c < 512 ∧ s.autoDecides c current = true ∧ sortedKeys s.chans = true) :=
  ⟨⟨chanAt dev 4 { ch with predRun := 100 }, 511, by and_intros <;> decide +kernel⟩,
  ⟨chanAt (field dev .chan 511 0x21 0x1000) 4 { ch with exitRun := 16 }, 511, by and_intros <;> decide +kernel⟩,
  ⟨late (chanAt (field dev .profile 511 0x20 0x40) 4 (supv { ch.supv with arrivedOnce := true })), 511, by and_intros <;> decide +kernel⟩,
  ⟨late (field dev .profile 511 0x20 0xC0), 511, by and_intros <;> decide +kernel⟩,
  ⟨late (outerAt 0x05000000), 511, by and_intros <;> decide +kernel⟩,
  ⟨autoRanged, 511, 15, false, by and_intros <;> decide +kernel⟩,
  ⟨late (described autoRanged), 511, 0, false, by and_intros <;> decide +kernel⟩,
  ⟨autoRanged, 511, 15, false, by and_intros <;> decide +kernel⟩⟩

set_option maxRecDepth 40000 in
theorem witness_ChannelEventsAct_2 :
  (∃ (s : State) (c : Nat) (w : PairWait), s.boot.phase = .running ∧ c < 512 ∧ (s.chan c).pairWaits = [w] ∧ w.due ≤ s.now ∧ sortedKeys s.chans = true) ∧
  (∃ (s : State) (b : Nat), s.boot.phase = .running ∧ b < 8 ∧ s.now / 100 % 32 = 0) ∧
  (∃ (s : State) (c : Nat) (ranges : List (Bool × Nat)), 
  let id := s.calSetOf c
  (s.calSet id).badBlock ranges = none) ∧
  (∃ (s : State) (c : Nat) (ranges : List (Bool × Nat)), 
  let id := s.calSetOf c
  ∃ k, (s.calSet id).badBlock ranges = some k) :=
  ⟨⟨chanAt dev 4 { ch with pairWaits := [⟨0, [], false⟩] }, 511, ⟨0, [], false⟩, by and_intros <;> decide +kernel⟩,
  ⟨dev, 7, by and_intros <;> decide +kernel⟩,
  ⟨dev, 511, [(true, 3)], by decide +kernel⟩,
  ⟨{ dev with calSets := [(7, { calImage with worn := [0], checks := [0] })] }.setReg .chan 511 0xA 7, 511, [], 0, by decide +kernel⟩⟩

theorem witness_OuterLoopFollowsItsLaw :
  (∃ (s : State) (c : Nat), s.boot.phase = .running ∧ c < 512 ∧ s.regsCanonical ∧ sortedKeys s.chans = true ∧ s.outerRuns c = true ∧ (s.chan c).outer.due = true ∧ s.feedbackFresh c = true ∧ (s.chan c).outer.good ≠ 0) ∧
  (∃ (s : State) (c : Nat), s.boot.phase = .running ∧ c < 512 ∧ s.regsCanonical ∧ sortedKeys s.chans = true ∧ s.outerRuns c = true ∧ (s.chan c).outer.due = true ∧ s.feedbackFresh c = true ∧ (s.chan c).outer.good ≠ 0) ∧
  (∃ (s : State) (c : Nat), s.boot.phase = .running ∧ c < 512 ∧ s.regsCanonical ∧ sortedKeys s.chans = true ∧ s.outerRuns c = true ∧ (s.chan c).outer.due = true ∧ s.feedbackFresh c = true ∧ (s.chan c).outer.good = 0) ∧
  (∃ (s : State) (c : Nat), s.boot.phase = .running ∧ c < 512 ∧ s.regsCanonical ∧ sortedKeys s.chans = true ∧ s.outerRuns c = true ∧ (s.chan c).outer.due = true ∧ s.feedbackFresh c = true ∧ ∃ (h : Outer) (k : Nat), h.step = k ∧ 0 < k ∧ k < h.span) :=
  ⟨⟨outerAt 0x03000000, 511, by and_intros <;> decide +kernel⟩,
  ⟨outerAt 0x04000000, 511, by and_intros <;> decide +kernel⟩,
  ⟨chanAt (outerAt 0x03000000) 4 { ch with outer := { ch.outer with due := true } }, 511, by and_intros <;> decide +kernel⟩,
  ⟨outerAt 0x03000000,
    511,
    by
      iterate 7 refine ⟨by decide +kernel, ?_⟩
      exact ⟨{ ch.outer with step := 1, span := 2 }, 1, by and_intros <;> decide +kernel⟩⟩⟩

theorem witness_RepetitiveBinsLearn :
  (∃ (s : State) (c j : Nat) (sum : Word), s.boot.phase = .running ∧ c < 512 ∧ s.regsCanonical ∧ sortedKeys s.chans = true ∧ j < s.nBin c ∧ s.nBin c ≤ 2048 ∧ (s.chan c).repet.done = some (j, sum, true) ∧ s.rb .repet c 1 31 = true) :=
  ⟨chanAt (field dev .repet 511 1 0x80000000) 4 { ch with repet := { ch.repet with done := some (0, 5, true) } },
    511,
    0,
    5,
    by and_intros <;> decide +kernel⟩

theorem witness_LoopUpdatesAnswerTheirSamples :
  (∃ (s : State) (c cyc d : Nat) (up : Received) (m : Bool × Sample × Sample), s.boot.phase = .running ∧ c < 512 ∧ up.header < 4 ∧ s.trained c = true ∧ s.active c = true ∧ (s.chan c).fqFrames = 0 ∧ readFastBlock ((s.chan c).fq == 3) up.header (payloadIn up) = some m) ∧
  (∃ (s : State) (c cyc : Nat) (up : Received) (delay : Option Nat) (r : StateRead), s.boot.phase = .running ∧ c < 512 ∧ up.header < 4 ∧ s.trained c = true ∧ s.chState c = 6) ∧
  (∃ (s : State) (c cyc : Nat) (up : Received) (delay : Option Nat) (r : StateRead), s.boot.phase = .running ∧ c < 512 ∧ up.header < 4 ∧ s.linkState c ∉ [2, 3, 4, 6]) ∧
  (∃ (s : State) (c cyc : Nat) (up : Received) (delay : Option Nat) (r : StateRead), s.boot.phase = .running ∧ c < 512 ∧ up.header < 4 ∧ s.linkState c = 2) ∧
  (∃ (s : State) (c cyc : Nat) (up : Received) (delay : Option Nat) (r : StateRead), s.boot.phase = .running ∧ c < 512 ∧ up.header < 4 ∧ (s.linkState c = 3 ∨ s.linkState c = 6) ∧ sortedKeys s.chans = true) ∧
  (∃ (s : State) (c cyc : Nat) (up : Received) (delay : Option Nat) (r : StateRead), s.boot.phase = .running ∧ c < 512 ∧ up.header < 4 ∧ (s.linkState c = 3 ∨ s.linkState c = 6) ∧ sortedKeys s.chans = true) ∧
  (∃ (s : State) (c slot n : Nat), s.boot.phase = .running ∧ c < 512 ∧ slot < 16 ∧ s.active c = true ∧ s.engineOf (octetOf c) = some n) :=
  ⟨⟨linked (chanAt dev 4 ch), 511, 9, 1, fastIn, (true, 0, 0), by and_intros <;> decide +kernel⟩,
  ⟨linked (chanAt dev 6 ch), 511, 9, fastIn, none, .good, by and_intros <;> decide +kernel⟩,
  ⟨dev, 511, 9, fastIn, none, .good, by and_intros <;> decide +kernel⟩,
  ⟨linkAt dev 2 lk, 511, 9, fastIn, none, .good, by and_intros <;> decide +kernel⟩,
  ⟨linkAt dev 3 lk, 511, 9, fastIn, none, .good, by and_intros <;> decide +kernel⟩,
  ⟨linkAt dev 6 lk, 511, 9, fastIn, none, .good, by and_intros <;> decide +kernel⟩,
  ⟨chanAt dev 4 ch, 511, 15, 63, by and_intros <;> decide +kernel⟩⟩

theorem witness_HeldChannelsAreGuarded :
  (∃ (s : State) (c cyc slot : Nat) (up : Received) (m : Bool × Sample × Sample), s.boot.phase = .running ∧ c < 512 ∧ slot < 16 ∧ up.header < 4 ∧ s.trained c = true ∧ s.chState c = 6 ∧ (s.chan c).fqFrames = 0 ∧ readFastBlock ((s.chan c).fq == 3) up.header (payloadIn up) = some m) ∧
  (∃ (s : State) (c : Nat) (overRuns : Nat), s.boot.phase = .running ∧ c < 512 ∧ s.chState c = 6 ∧ (s.chan c).supv.feDue = none ∧ (s.chan c).supv.plDue = none ∧ overRuns = (s.chan c).overRuns.getD 0 0 ∧ 0 < overRuns ∧ s.rf .chan c 7 31 16 ≤ overRuns) :=
  ⟨⟨linked (chanAt dev 6 ch), 511, 9, 15, fastIn, (true, 0, 0), by and_intros <;> decide +kernel⟩,
  ⟨chanAt dev 6 { ch with overRuns := [10 ^ 6, 0, 0, 0, 0] }, 511, 10 ^ 6, by and_intros <;> decide +kernel⟩⟩

theorem witness_ArmingRunsItsCourse :
  (∃ (s : State) (c : Nat), s.boot.phase = .running ∧ c < 512 ∧ s.regsCanonical ∧ sortedKeys s.chans = true ∧ s.chState c = 3 ∧ (s.chan c).ramp = .relay ∧ s.relayReady c = true ∧ s.rangesOutstanding c = false) ∧
  (∃ (s : State) (c : Nat), s.boot.phase = .running ∧ c < 512 ∧ s.chState c = 3 ∧ (s.chan c).ramp = .relay ∧ s.relayReady c = false ∧ (s.chan c).relayBy ≤ s.clock) ∧
  (∃ (s : State) (c since : Nat), s.boot.phase = .running ∧ c < 512 ∧ s.chState c = 5 ∧ (s.chan c).undoing = .opening since ∧ ((s.chan c).relay = 0 ∨ since + s.descField c 4 47 32 * 1000 ≤ s.clock)) ∧
  (∃ (s : State) (e : Envelope) (n : Nat) (x : Session) (body : List Word) (f : Word) (c : Nat), 
  let r : Req := ⟨.chanClear, e, body⟩
  
  let a := s.admitted r n x
  InOrder s r n x ∧ flagsAndSet .chan 0 body = .ok (f, [c]) ∧ a.allUnlocked n .chan [c] = .ok () ∧ a.noTimed .chan [c] = .ok () ∧ a.chState c = 7) :=
  ⟨⟨chanAt dev 3 { ch with ramp := .relay, relay := 2 }, 511, by and_intros <;> decide +kernel⟩,
  ⟨chanAt dev 3 { ch with ramp := .relay }, 511, by and_intros <;> decide +kernel⟩,
  ⟨chanAt dev 5 { ch with undoing := .opening 0 }, 511, 0, by and_intros <;> decide +kernel⟩,
  ⟨chanAt dev 7 ch,
    env .chanClear chanBody,
    1,
    sess,
    chanBody,
    0,
    511,
    inOrder_env (by decide +kernel),
    exc_eq _ (by decide +kernel),
    exc_eq _ (by decide +kernel),
    exc_eq _ (by decide +kernel),
    by decide +kernel⟩⟩

theorem witness_EnginesAreReplaced :
  (∃ (s : State) (n o : Nat) (pass : Bool), s.boot.phase = .running ∧ n < 72 ∧ s.serves n = some o) ∧
  (∃ (s : State) (n o : Nat) (pass : Bool), s.boot.phase = .running ∧ n < 72 ∧ s.serves n = some o) ∧
  (∃ (s : State) (o held : Nat), s.boot.phase = .running ∧ o < 64 ∧ s.engineOf o = none ∧ s.firmwareGone o = false ∧ s.takesSpare o = true ∧ s.rf .engine (64 + o / 8) 0 3 0 = 1 ∧ s.octetHeldSince o = some (s.clock - held) ∧ held ≤ s.clock ∧ held ≤ 50000) ∧
  (∃ (s : State) (o t : Nat), s.boot.phase = .running ∧ o < 64 ∧ s.octetHeldSince o = some t ∧ s.engineOf o = none ∧ t + 50000 ≤ s.clock) ∧
  (∃ (s : State) (e : Envelope) (n : Nat) (x : Session) (g : Word), 
  let r : Req := ⟨.engineRetire, e, [g]⟩
  
  let a := s.admitted r n x
  InOrder s r n x ∧ g.toNat < 64 ∧ a.rf .engine g.toNat 0 3 0 = 0 ∧ a.rf .engine (64 + g.toNat / 8) 0 3 0 = 1) ∧
  (∃ (s : State) (o n : Nat), (s.faults.retired.find? fun n => decide (n < 64) && n / 8 == o / 8) = some n) :=
  ⟨⟨dev, 63, 63, true, by and_intros <;> decide +kernel⟩,
  ⟨field dev .engine 71 0 0x3F02, 71, 63, false, by and_intros <;> decide +kernel⟩,
  ⟨late (field (field (chanAt dev 6 { ch with heldSince := 10 ^ 10 - 9 }) .engine 63 0 1) .engine 71 0 1),
    63,
    9,
    by and_intros <;> decide +kernel⟩,
  ⟨late (field (chanAt dev 6 ch) .engine 63 0 1), 63, 0, by and_intros <;> decide +kernel⟩,
  ⟨field dev .engine 71 0 1, env .engineRetire [63], 1, sess, 63, inOrder_env (by decide +kernel), by and_intros <;> decide +kernel⟩,
  ⟨{ dev with faults := { dev.faults with retired := [63] } }, 62, 63, by decide +kernel⟩⟩

theorem witness_HeadMessagesAreExchanged :
  (∃ (s : State) (e : Envelope) (n : Nat) (x y : Session) (c k : Nat) (addr : Word), 
  let r : Req := ⟨.headRead, e, [word (c * 65536 + k), addr]⟩
  
  let a := s.admitted r n x
  
  let l := a.link c
  
  let t := a.setLink c { l with nextTag := (l.nextTag + 1) % 256, msgs := l.msgs ++ [⟨l.nextTag, false, addr.toNat, [], k, 1, a.clock, some (n, r), true⟩] }
  InOrder s r n x ∧ c < 512 ∧ 1 ≤ k ∧ k ≤ 6 ∧ a.trained c = true ∧ t.session n = some y) ∧
  (∃ (s : State) (e : Envelope) (n : Nat) (x y : Session) (c : Nat) (addr hi lo : Word), 
  let r : Req := ⟨.headWrite, e, [word (c * 65536 + 1), addr, lo, hi]⟩
  
  let a := s.admitted r n x
  
  let l := a.link c
  
  let t := a.setLink c { l with nextTag := (l.nextTag + 1) % 256, msgs := l.msgs ++ [⟨l.nextTag, true, addr.toNat, [BitVec.ofNat 64 (dword [lo, hi] 0)], 1, 1, a.clock, some (n, r), true⟩] }
  InOrder s r n x ∧ c < 512 ∧ a.trained c = true ∧ 2 ^ 31 ≤ addr.toNat ∧ a.demandUnlocked n .chan c = .ok () ∧ t.session n = some y) ∧
  (∃ (s : State) (c tag n : Nat) (words : List Block) (m : HeadMsg) (r : Req) (x : Session), s.boot.phase = .running ∧ c < 512 ∧ (s.link c).msgs.find? (fun p => p.tag == tag) = some m ∧ m.host = some (n, r) ∧ s.session n = some x ∧ x.executing.contains r.env.seq.toNat = true ∧ 
  let got : HeadReply := ⟨m.isWrite, tag, 0, words⟩
  got ∉ (s.link c).inbox) ∧
  (∃ (s : State) (c tag n : Nat) (words : List Block) (m : HeadMsg) (r : Req) (x : Session), s.boot.phase = .running ∧ c < 512 ∧ (s.link c).msgs.find? (fun p => p.tag == tag) = some m ∧ m.host = some (n, r) ∧ s.session n = some x ∧ x.executing.contains r.env.seq.toNat = true ∧ 
  let got : HeadReply := ⟨m.isWrite, tag, 0, words⟩
  got ∈ (s.link c).inbox) ∧
  (∃ (s : State) (c tag n : Nat) (m : HeadMsg) (r : Req) (x : Session), s.boot.phase = .running ∧ c < 512 ∧ (s.link c).msgs.find? (fun p => p.tag == tag) = some m ∧ m.host = some (n, r) ∧ s.session n = some x ∧ x.executing.contains r.env.seq.toNat = true ∧ m.waits = true) ∧
  (∃ (s : State) (c tag n : Nat) (m : HeadMsg) (r : Req) (x : Session), s.boot.phase = .running ∧ c < 512 ∧ (s.link c).msgs.find? (fun p => p.tag == tag) = some m ∧ m.host = some (n, r) ∧ s.session n = some x ∧ x.executing.contains r.env.seq.toNat = true ∧ m.waits = false ∧ m.sentAt + 4000 ≤ s.clock) :=
  ⟨⟨linked dev,
    env .headRead [word (511 * 65536 + 6), 5],
    1,
    sess,
    { sess with next := 2, bucket := 63 * 10 ^ 9 },
    511,
    6,
    5,
    inOrder_env (by decide +kernel),
    by and_intros <;> decide +kernel⟩,
  ⟨linked dev,
    env .headWrite [word (511 * 65536 + 1), 0x80000000, 2, 1],
    1,
    sess,
    { sess with next := 2, bucket := 63 * 10 ^ 9 },
    511,
    0x80000000,
    1,
    2,
    inOrder_env (by decide +kernel),
    by
      iterate 3 refine ⟨by decide +kernel, ?_⟩
      exact ⟨exc_eq _ (by decide +kernel), by decide +kernel⟩⟩,
  ⟨asked,
    511,
    9,
    1,
    [7],
    msg,
    ⟨.headRead, env .headRead [0x01FF0001, 5], [0x01FF0001, 5]⟩,
    { sess with next := 2, executing := [1] },
    by and_intros <;> decide +kernel⟩,
  ⟨{ dev with host := { dev.host with sessions := [(1, { sess with next := 2, executing := [1] })] } }.setLink 511 { Link.fresh with msgs := [msg], inbox := [⟨false, 9, 0, [7]⟩] },
    511,
    9,
    1,
    [7],
    msg,
    ⟨.headRead, env .headRead [0x01FF0001, 5], [0x01FF0001, 5]⟩,
    { sess with next := 2, executing := [1] },
    by and_intros <;> decide +kernel⟩,
  ⟨{ dev with host := { dev.host with sessions := [(1, { sess with next := 2, executing := [1] })] } }.setLink 511 { Link.fresh with msgs := [{ msg with waits := true }], inbox := [] },
    511,
    9,
    1,
    { msg with waits := true },
    ⟨.headRead, env .headRead [0x01FF0001, 5], [0x01FF0001, 5]⟩,
    { sess with next := 2, executing := [1] },
    by and_intros <;> decide +kernel⟩,
  ⟨late asked,
    511,
    9,
    1,
    msg,
    ⟨.headRead, env .headRead [0x01FF0001, 5], [0x01FF0001, 5]⟩,
    { sess with next := 2, executing := [1] },
    by and_intros <;> decide +kernel⟩⟩

theorem witness_SequencerInstructionsAct_1 :
  (∃ (s : State) (bank : Bool) (n : Nat), s.boot.phase = .running ∧ n < (if bank then 8 else 512) ∧ 
  let q := seqRef bank n
  
  let x := s.seqx q
  
  let i := s.prog q (s.pc q)
  s.run q = 1 ∧ x.exec = true ∧ x.stopNext = false ∧ s.bndNow q = true ∧ i.op = 0 ∧ x.underrun = none) ∧
  (∃ (s : State) (bank : Bool) (n : Nat), s.boot.phase = .running ∧ n < (if bank then 8 else 512) ∧ 
  let q := seqRef bank n
  
  let x := s.seqx q
  
  let i := s.prog q (s.pc q)
  s.run q = 1 ∧ x.exec = true ∧ x.stopNext = false ∧ s.bndNow q = true ∧ i.op = 0 ∧ x.underrun = none) ∧
  (∃ (s : State) (bank : Bool) (n : Nat), s.boot.phase = .running ∧ n < (if bank then 8 else 512) ∧ 
  let q := seqRef bank n
  
  let x := s.seqx q
  
  let i := s.prog q (s.pc q)
  s.run q = 1 ∧ x.exec = true ∧ x.stopNext = false ∧ s.bndNow q = true ∧ i.op = 1 ∧ s.orphaned q = false ∧ 
  let t := ((s.setLatches q 0).setRf q.obj q.num 0x60 12 7 i.seg).setPosition q 0
  
  let t := t.setSeqx q { t.seqx q with exec := false, playing := true, atEnd := false, streamBase := t.streamNext q }
  bank = true) ∧
  (∃ (s : State) (bank : Bool) (n : Nat), s.boot.phase = .running ∧ n < (if bank then 8 else 512) ∧ 
  let q := seqRef bank n
  
  let x := s.seqx q
  
  let i := s.prog q (s.pc q)
  s.run q = 1 ∧ x.exec = true ∧ x.stopNext = false ∧ s.bndNow q = true ∧ i.op = 1 ∧ s.orphaned q = false ∧ 
  let t := ((s.setLatches q 0).setRf q.obj q.num 0x60 12 7 i.seg).setPosition q 0
  
  let t := t.setSeqx q { t.seqx q with exec := false, playing := true, atEnd := false, streamBase := t.streamNext q }
  
  let t := t.request q (t.neededKeys q (s.pc q) 0)
  ∃ k, bank = false ∧ t.nextItem q (t.segm q i.seg) 0 = some k) ∧
  (∃ (s : State) (bank : Bool) (n : Nat), s.boot.phase = .running ∧ n < (if bank then 8 else 512) ∧ 
  let q := seqRef bank n
  
  let x := s.seqx q
  
  let i := s.prog q (s.pc q)
  s.run q = 1 ∧ x.exec = true ∧ x.stopNext = false ∧ s.bndNow q = true ∧ i.op = 2) ∧
  (∃ (s : State) (bank : Bool) (n : Nat), s.boot.phase = .running ∧ n < (if bank then 8 else 512) ∧ 
  let q := seqRef bank n
  
  let x := s.seqx q
  
  let i := s.prog q (s.pc q)
  s.run q = 1 ∧ x.exec = true ∧ x.stopNext = false ∧ s.bndNow q = true ∧ i.op = 3) ∧
  (∃ (s : State) (bank : Bool) (n : Nat), s.boot.phase = .running ∧ n < (if bank then 8 else 512) ∧ 
  let q := seqRef bank n
  
  let x := s.seqx q
  
  let i := s.prog q (s.pc q)
  s.run q = 1 ∧ x.exec = true ∧ x.stopNext = false ∧ s.bndNow q = true ∧ i.op = 4 ∧ x.counters.getD (i.cond % 4) (some 0) = none) ∧
  (∃ (s : State) (bank : Bool) (n : Nat), s.boot.phase = .running ∧ n < (if bank then 8 else 512) ∧ 
  let q := seqRef bank n
  
  let x := s.seqx q
  
  let i := s.prog q (s.pc q)
  s.run q = 1 ∧ x.exec = true ∧ x.stopNext = false ∧ s.bndNow q = true ∧ i.op = 4 ∧ ∃ k, x.counters.getD (i.cond % 4) (some 0) = some (k + 1)) :=
  ⟨⟨executing q511 0, false, 511, by and_intros <;> decide +kernel⟩,
  ⟨executing q7 0, true, 7, by and_intros <;> decide +kernel⟩,
  ⟨executing q7 0x04000000, true, 7, by and_intros <;> decide +kernel⟩,
  ⟨{ executing q511 0x04000000 with sweeps := (swept 6).sweeps },
    false,
    511,
    by
      iterate 8 refine ⟨by decide +kernel, ?_⟩
      exact ⟨0, by and_intros <;> decide +kernel⟩⟩,
  ⟨executing q511 0x08000000, false, 511, by and_intros <;> decide +kernel⟩,
  ⟨executing q511 0x0C000000, false, 511, by and_intros <;> decide +kernel⟩,
  ⟨seqAt dev q511 1 0x10000000 { sq with exec := true, counters := [none, none, none, none] }, false, 511, by and_intros <;> decide +kernel⟩,
  ⟨seqAt dev q511 1 0x10000000 { sq with exec := true, counters := [some 4, none, none, none] },
    false,
    511,
    by
      iterate 7 refine ⟨by decide +kernel, ?_⟩
      exact ⟨3, by decide +kernel⟩⟩⟩

theorem witness_SequencerInstructionsAct_2 :
  (∃ (s : State) (bank : Bool) (n : Nat), s.boot.phase = .running ∧ n < (if bank then 8 else 512) ∧ 
  let q := seqRef bank n
  
  let x := s.seqx q
  
  let i := s.prog q (s.pc q)
  s.run q = 1 ∧ x.exec = true ∧ x.stopNext = false ∧ s.bndNow q = true ∧ i.op = 5) ∧
  (∃ (s : State) (bank : Bool) (n : Nat), s.boot.phase = .running ∧ n < (if bank then 8 else 512) ∧ 
  let q := seqRef bank n
  
  let x := s.seqx q
  
  let i := s.prog q (s.pc q)
  s.run q = 1 ∧ x.exec = true ∧ x.stopNext = false ∧ s.bndNow q = true ∧ i.op = 6 ∧ bank = false) ∧
  (∃ (s : State) (bank : Bool) (n : Nat), s.boot.phase = .running ∧ n < (if bank then 8 else 512) ∧ 
  let q := seqRef bank n
  
  let x := s.seqx q
  
  let i := s.prog q (s.pc q)
  s.run q = 1 ∧ x.exec = true ∧ x.stopNext = false ∧ s.bndNow q = true ∧ i.op = 7) ∧
  (∃ (s : State) (bank : Bool) (n : Nat), s.boot.phase = .running ∧ n < (if bank then 8 else 512) ∧ 
  let q := seqRef bank n
  
  let x := s.seqx q
  
  let i := s.prog q (s.pc q)
  s.run q = 1 ∧ x.exec = true ∧ x.stopNext = false ∧ s.bndNow q = true ∧ i.op = 8 ∧ bank = true) :=
  ⟨⟨executing q511 0x14000000, false, 511, by and_intros <;> decide +kernel⟩,
  ⟨executing q511 0x18000000, false, 511, by and_intros <;> decide +kernel⟩,
  ⟨executing q7 0x1C000000, true, 7, by and_intros <;> decide +kernel⟩,
  ⟨executing q7 0x20000000, true, 7, by and_intros <;> decide +kernel⟩⟩

theorem witness_SequencerBoundariesAct :
  (∃ (before : State) (bank : Bool) (n : Nat), before.boot.phase = .running ∧ n < (if bank then 8 else 512) ∧ 
  let q := seqRef bank n
  
  let s := before.eventsAt q
  (s.seqx q).stopNext = false ∧ 
  let x := s.seqx q
  
  let i := s.prog q (s.pc q)
  s.run q = 2 ∧ s.bndNow q = true ∧ x.waitFrom ≤ s.bnd q ∧ s.condHolds q i (s.latches q) = true ∧ (i.arg = 0 ∨ s.bnd q ≤ x.waitFrom + i.arg * 100)) ∧
  (∃ (before : State) (bank : Bool) (n : Nat), before.boot.phase = .running ∧ n < (if bank then 8 else 512) ∧ 
  let q := seqRef bank n
  
  let s := before.eventsAt q
  (s.seqx q).stopNext = false ∧ 
  let x := s.seqx q
  
  let i := s.prog q (s.pc q)
  s.run q = 2 ∧ s.bndNow q = true ∧ s.condHolds q i (s.latches q) = false ∧ i.arg ≠ 0 ∧ x.waitFrom + i.arg * 100 ≤ s.bnd q) ∧
  (∃ (before : State) (bank : Bool) (n : Nat), before.boot.phase = .running ∧ n < (if bank then 8 else 512) ∧ 
  let q := seqRef bank n
  
  let s := before.eventsAt q
  (s.seqx q).stopNext = false ∧ 
  let x := s.seqx q
  s.run q = 1 ∧ x.playing = true ∧ x.atEnd = true ∧ s.bndNow q = true ∧ x.stopAtEnd = true) ∧
  (∃ (before : State) (bank : Bool) (n : Nat), before.boot.phase = .running ∧ n < (if bank then 8 else 512) ∧ 
  let q := seqRef bank n
  
  let s := before.eventsAt q
  (s.seqx q).stopNext = false ∧ 
  let x := s.seqx q
  
  let go (t : State) (pc : Nat) : State := (t.setPc q pc).setSeqx q { t.seqx q with exec := true }
  s.run q = 1 ∧ x.playing = true ∧ x.atEnd = true ∧ s.bndNow q = true ∧ x.stopAtEnd = false ∧ 
  let t := (s.setSeqx q { x with playing := false, atEnd := false, done := s.latches q }).fireSeq q 4
  
  let u := t.setPc q (t.pc q)
  
  let j := t.prog q (t.pc q)
  
  let v := if u.condHolds q j (t.latches q) then go (if j.cond = 0xA then u.setSwflag q false else u) j.target else go u (u.pc q + 1)
  v.orphaned q = false) :=
  ⟨⟨deciding 2 1000 0x14010000, false, 511, by and_intros <;> decide +kernel⟩,
  ⟨deciding 2 0 0x14000000, false, 511, by and_intros <;> decide +kernel⟩,
  ⟨seqAt dev q511 1 0x04000000 { sq with playing := true, atEnd := true, stopAtEnd := true }, false, 511, by and_intros <;> decide +kernel⟩,
  ⟨seqAt dev q511 1 0x04000000 { sq with playing := true, atEnd := true }, false, 511, by and_intros <;> decide +kernel⟩⟩

theorem witness_SweepsExpandAndFetchesArrive_1 :
  (∃ (before : State) (bank : Bool) (n : Nat) (u : Underrun), before.boot.phase = .running ∧ n < (if bank then 8 else 512) ∧ 
  let q := seqRef bank n
  
  let s := before.eventsAt q
  
  let x := s.seqx q
  
  let t := (s.setSeqx q { x with done := s.latches q }).setRun q 1
  
  let v := State.walk q 256 (t.takeDecision q u.pc (s.latches q))
  x.underrun = some u ∧ x.stopNext = false ∧ s.run q = 3 ∧ s.resumeBoundary q u = true ∧ (v.prog q (v.pc q)).op = 1 ∧ v.headCached q (v.pc q) = true) ∧
  (∃ (s : State) (c key line : Nat), s.boot.phase = .running ∧ c < 512 ∧ key < 2 ^ 20 ∧ 
  let q := SeqRef.chan c
  
  let x := s.seqx q
  x.wanted.contains key = true ∧ x.carried key = true ∧ x.has key = false ∧ s.freeLine q = some line ∧ (granuleOf s.points key).all intact = true) ∧
  (∃ (s : State) (c key line : Nat), s.boot.phase = .running ∧ c < 512 ∧ key < 2 ^ 20 ∧ 
  let q := SeqRef.chan c
  
  let x := s.seqx q
  x.wanted.contains key = true ∧ x.carried key = true ∧ ∃ inverted, (∀ k ∈ inverted, k < 2304) ∧ (granuleOf (decay s.points key inverted) key).all intact = false ∧ 
  let u := (State.setSeqx { s with points := decay s.points key inverted } q { x with units := x.units.filter fun y => y / 4 != key }).dramCheck (pointRegion key)
  (u.sweepOfGranule key).isSome = true ∧ u.regen.contains (key, q) = false) ∧
  (∃ (s : State) (b key line : Nat), s.boot.phase = .running ∧ b < 8 ∧ key < 2 ^ 20 ∧ sortedKeys s.bseqs = true ∧ 
  let q := SeqRef.bank b
  
  let x := s.seqx q
  
  let data := granuleOf (s.vecMem b).vectorA key
  x.wanted.contains key = true ∧ x.has key = false ∧ s.freeLine q = some line ∧ data.all intact = true) ∧
  (∃ (s : State) (g d : Nat) (x : Expanded) (q : SeqRef), s.boot.phase = .running ∧ s.regen = [(g, q)] ∧ s.sweepOfGranule g = some (d, x) ∧ x.kind ≠ 1) ∧
  (∃ (s : State) (r : Rebuild), s.boot.phase = .running ∧ 
  let t := s.rebuildReads r
  r.region ∉ s.faults.rebuilding) ∧
  (∃ (s : State) (r : Rebuild), s.boot.phase = .running ∧ 
  let t := s.rebuildReads r
  r.region ∈ s.faults.rebuilding ∧ 1536 ≤ r.region) ∧
  (∃ (s : State) (r : Rebuild), s.boot.phase = .running ∧ 
  let t := s.rebuildReads r
  r.region ∈ s.faults.rebuilding ∧ r.region < 288) :=
  ⟨⟨(seqAt dev q7 3 0x04000000 { sq with underrun := some under, cache := [(0, ⟨0, List.replicate 16 0⟩)] }).setRegAt .bseq 7 0x101 0 0x04000000,
    true,
    7,
    under,
    by and_intros <;> decide +kernel⟩,
  ⟨seqAt dev q511 1 0 { sq with wanted := [9], units := [36, 37, 38, 39] },
    511,
    9,
    (dev.freeLine q511).get (by decide +kernel),
    by and_intros <;> decide +kernel⟩,
  ⟨seqAt (swept 1) q511 1 0 { sq with wanted := [0], units := [0, 1, 2, 3] },
    511,
    0,
    0,
    by
      iterate 5 refine ⟨by decide +kernel, ?_⟩
      exact ⟨[5], by and_intros <;> decide +kernel⟩⟩,
  ⟨seqAt dev q7 1 0 { sq with wanted := [9] }, 7, 9, (dev.freeLine q7).get (by decide +kernel), by and_intros <;> decide +kernel⟩,
  ⟨{ swept 2 with regen := [(0, q511)] }, 0, 0, expanded 2, q511, by and_intros <;> decide +kernel⟩,
  ⟨dev, ⟨1536, [], [], []⟩, by and_intros <;> decide +kernel⟩,
  ⟨{ dev with faults := { dev.faults with rebuilding := [1536] } }, ⟨1536, [], [], []⟩, by and_intros <;> decide +kernel⟩,
  ⟨{ dev with faults := { dev.faults with rebuilding := [287] } }, ⟨287, [], [], []⟩, by and_intros <;> decide +kernel⟩⟩

theorem witness_SweepsExpandAndFetchesArrive_2 :
  (∃ (s : State) (r : Rebuild), s.boot.phase = .running ∧ 
  let t := s.rebuildReads r
  r.region ∈ s.faults.rebuilding ∧ 288 ≤ r.region ∧ r.region < 768) ∧
  (∃ (s : State) (r : Rebuild), s.boot.phase = .running ∧ 
  let t := s.rebuildReads r
  r.region ∈ s.faults.rebuilding ∧ 768 ≤ r.region ∧ r.region < 1280) ∧
  (∃ (s : State) (r : Rebuild), s.boot.phase = .running ∧ 
  let t := s.rebuildReads r
  r.region ∈ s.faults.rebuilding ∧ 1280 ≤ r.region ∧ r.region < 1536) ∧
  (∃ (s : State) (region g d : Nat) (x : Expanded), ((s.points.map fun e => e.1 / 16).eraseDups).filter (fun k => pointRegion k == region) = [g] ∧ s.sweepOfGranule g = some (d, x) ∧ x.kind ≠ 6) ∧
  (∃ (s : State) (d : Nat) (e : Expanded), s.boot.phase = .running ∧ d < 8192 ∧ s.sweepState d = 1 ∧ (s.sweep d).from? = some e ∧ e.kind ≠ 6 ∧ (e.kind = 1 → ∀ k, k < ceilDiv e.n 16 → (s.sweep d).listGood k = true)) ∧
  (∃ (s : State) (d : Nat) (e : Expanded), s.boot.phase = .running ∧ d < 8192 ∧ s.sweepState d = 1 ∧ (s.sweep d).from? = some e ∧ e.kind ≠ 6 ∧ (e.kind = 1 → ∀ k, k < ceilDiv e.n 16 → (s.sweep d).listGood k = true)) ∧
  (∃ (s : State) (e : Envelope) (n : Nat) (x : Session) (d k : Nat) (w0 w1 w2 w3 : Word), 
  let body : List Word := [word (d * 65536 + 1), word k, w0, w1, w2, w3]
  
  let r : Req := ⟨.listWrite, e, body⟩
  
  let a := s.admitted r n x
  
  let y := a.sweep d
  InOrder s r n x ∧ d < objCount .sweep ∧ k < 2 ^ 24 ∧ fld w3 8 0 = 0 ∧ a.blockRuns .sweep d = false ∧ a.sweepKind d = 1 ∧ a.listGranules + (if (find y.sources (k / 16)).isNone then 1 else 0) ≤ 1048576) :=
  ⟨⟨{ dev with faults := { dev.faults with rebuilding := [767] } }, ⟨767, [], [], []⟩, by and_intros <;> decide +kernel⟩,
  ⟨{ dev with faults := { dev.faults with rebuilding := [1279] } }, ⟨1279, [], [], []⟩, by and_intros <;> decide +kernel⟩,
  ⟨{ dev with faults := { dev.faults with rebuilding := [1535] } }, ⟨1535, [], [], []⟩, by and_intros <;> decide +kernel⟩,
  ⟨{ swept 2 with points := [(3, 0)] }, 0, 0, 0, expanded 2, by and_intros <;> decide +kernel⟩,
  ⟨field (swept 1) .sweep 0 0x20 0x10000000, 0, expanded 1, by and_intros <;> decide +kernel⟩,
  ⟨field (swept 2) .sweep 0 0x20 0x10000000, 0, expanded 2, by and_intros <;> decide +kernel⟩,
  ⟨field dev .sweep 0 0 0x10000000,
    env .listWrite [1, 0, 0, 0, 0, 0],
    1,
    sess,
    0,
    0,
    0,
    0,
    0,
    0,
    inOrder_env (by decide +kernel),
    by and_intros <;> decide +kernel⟩⟩

theorem witness_VectorsAreWrittenIssuedAndCompared_1 :
  (∃ (s : State) (b : Nat), s.boot.phase = .running ∧ b < 8 ∧ 
  let q := SeqRef.bank b
  
  let x := s.seqx q
  x.exec = false ∧ x.stopNext = false ∧ s.bndNow q = true ∧ s.run q = 1 ∧ x.playing = true ∧ x.atEnd = false ∧ 
  let g := s.segm q (s.segNum q)
  
  let k := if x.left = 0 then 0 else s.position q + 1
  
  let t := if k % 8 = 0 then s.request q (s.neededKeys q (s.pc q) k) else s
  t.itemCached q g k = true ∧ 
  let t := (t.setSeqx q { t.seqx q with left := t.segDwell q g k }).setPosition q k
  t.run q = 1) ∧
  (∃ (s : State) (b : Nat), s.boot.phase = .running ∧ b < 8 ∧ 
  let x := s.seqx (.bank b)
  x.exec = false ∧ x.stopNext = false ∧ s.bndNow (.bank b) = true ∧ s.run (.bank b) = 2 ∧ (∀ j, j < 64 → s.mode (64 * b + j) = 8 → s.chState (64 * b + j) ≠ 5)) ∧
  (∃ (s : State) (b v : Nat), 
  let x := s.seqx (.bank b)
  ∃ j, j < 64 ∧ s.mode (64 * b + j) = 8 ∧ s.active (64 * b + j) = true) ∧
  (∃ (s : State) (b t j state strobe : Nat) (r : PinReport) (above below : Bool) (i : Issued), s.boot.phase = .running ∧ b < 8 ∧ j < 64 ∧ readCompare r.result r.place = some (above, below) ∧ readClamp r.clamp = false ∧ 
  let q := SeqRef.bank b
  
  let due := (t + 600) * 256 + strobe * 100
  (s.seqx q).issued.find? (fun i => i.time == t && i.waiting.any fun w => w.1 == j) = some i ∧ i.waiting = [(j, state, strobe)] ∧ due < (s.now + 100) * 256 ∧ due ≤ (s.seqx q).next * 256 ∧ s.chState (64 * b + j) = 4 ∧ s.run q = 1 ∧ i.failMask = 0 ∧ pinPasses state above below = some true) ∧
  (∃ (s : State) (b t j state strobe : Nat) (r : PinReport) (above below : Bool) (i : Issued), s.boot.phase = .running ∧ b < 8 ∧ j < 64 ∧ readCompare r.result r.place = some (above, below) ∧ readClamp r.clamp = false ∧ 
  let q := SeqRef.bank b
  
  let due := (t + 600) * 256 + strobe * 100
  (s.seqx q).issued.find? (fun i => i.time == t && i.waiting.any fun w => w.1 == j) = some i ∧ i.waiting = [(j, state, strobe)] ∧ due < (s.now + 100) * 256 ∧ due ≤ (s.seqx q).next * 256 ∧ s.chState (64 * b + j) = 4 ∧ s.run q = 1 ∧ pinPasses state above below = some false) ∧
  (∃ (s : State) (e : Envelope) (n : Nat) (x : Session) (b k : Nat) (data : List Word), 
  let body : List Word := word (b * 65536 + 1) :: word k :: data
  
  let r : Req := ⟨.vecWrite, e, body⟩
  
  let a := s.admitted r n x
  InOrder s r n x ∧ b < 8 ∧ k < 524288 ∧ data.length = 8 ∧ a.demandUnlocked n .bseq b = .ok () ∧ (∀ w ∈ data, ∀ j, j < 8 → fld w (4 * j + 3) (4 * j) ≤ 0xC) ∧ a.vectorsPlayed b k (k + 1) = false) ∧
  (∃ (s : State) (e : Envelope) (n : Nat) (x : Session) (b k : Nat) (data : List Word), 
  let body : List Word := word (b * 65536 + 1) :: word k :: data
  
  let r : Req := ⟨.vecWrite, e, body⟩
  
  let a := s.admitted r n x
  InOrder s r n x ∧ b < 8 ∧ k < 524288 ∧ data.length = 8 ∧ a.demandUnlocked n .bseq b = .ok () ∧ (∀ w ∈ data, ∀ j, j < 8 → fld w (4 * j + 3) (4 * j) ≤ 0xC) ∧ a.vectorsPlayed b k (k + 1) = false ∧ ∃ l : List (Nat × BitVec 144), sortedKeys l = true) ∧
  (∃ (s : State) (e : Envelope) (n : Nat) (x : Session) (b k : Nat) (data : List Word), 
  let body : List Word := word (b * 65536 + 1) :: word k :: data
  
  let r : Req := ⟨.laneWrite, e, body⟩
  
  let a := s.admitted r n x
  InOrder s r n x ∧ b < 8 ∧ k < 16384 ∧ data.length = 4 ∧ a.demandUnlocked n .bseq b = .ok () ∧ a.vectorsPlayed b (32 * k) (32 * (k + 1)) = false) :=
  ⟨⟨seqAt dev q7 1 0x04000000 { sq with playing := true, cache := [(0, ⟨0, List.replicate 16 0⟩)] }, 7, by and_intros <;> decide +kernel⟩,
  ⟨seqAt dev q7 2 0x14000000 sq, 7, by and_intros <;> decide +kernel⟩,
  ⟨chanAt (field dev .chan 511 0 0x08000000) 4 ch, 7, 0, 63, by and_intros <;> decide +kernel⟩,
  ⟨seqAt { chanAt dev 4 ch with now := 1000 } q7 1 0x04000000 { sq with issued := [vec63], next := 1000 },
    7,
    0,
    63,
    5,
    0,
    ⟨some (compareIn 0x300000000000), 0, none⟩,
    true,
    false,
    vec63,
    by and_intros <;> decide +kernel⟩,
  ⟨seqAt { chanAt dev 4 ch with now := 1000 } q7 1 0x04000000 { sq with issued := [vec63], next := 1000 },
    7,
    0,
    63,
    5,
    0,
    ⟨some (compareIn 0x200000000000), 0, none⟩,
    false,
    false,
    vec63,
    by and_intros <;> decide +kernel⟩,
  ⟨dev,
    env .vecWrite (word (7 * 65536 + 1) :: word 0 :: List.replicate 8 0),
    1,
    sess,
    7,
    0,
    List.replicate 8 0,
    inOrder_env (by decide +kernel),
    by
      iterate 3 refine ⟨by decide +kernel, ?_⟩
      exact ⟨exc_eq _ (by decide +kernel), fun w hw j hj => by obtain rfl := (List.mem_replicate.mp hw).2; simp [fld, bitsOf], by decide +kernel⟩⟩,
  ⟨dev,
    env .vecWrite (word (7 * 65536 + 1) :: word 0 :: List.replicate 8 0),
    1,
    sess,
    7,
    0,
    List.replicate 8 0,
    inOrder_env (by decide +kernel),
    by
      iterate 3 refine ⟨by decide +kernel, ?_⟩
      exact ⟨exc_eq _ (by decide +kernel),
        fun w hw j hj => by obtain rfl := (List.mem_replicate.mp hw).2; simp [fld, bitsOf],
        by decide +kernel,
        [],
        by decide +kernel⟩⟩,
  ⟨dev,
    env .laneWrite (word (7 * 65536 + 1) :: word 0 :: List.replicate 4 0),
    1,
    sess,
    7,
    0,
    List.replicate 4 0,
    inOrder_env (by decide +kernel),
    by
      iterate 3 refine ⟨by decide +kernel, ?_⟩
      exact ⟨exc_eq _ (by decide +kernel), by decide +kernel⟩⟩⟩

theorem witness_VectorsAreWrittenIssuedAndCompared_2 :
  (∃ (s : State) (e : Envelope) (n : Nat) (x : Session) (b : Nat) (c : BitVec 144) (rest : List (BitVec 144)), 
  let r : Req := ⟨.captRead, e, [word (b * 65536 + 1)]⟩
  
  let a := s.admitted r n x
  
  let m := a.vecMem b
  InOrder s r n x ∧ b < 8 ∧ m.capture = c :: rest) :=
  ⟨{ dev with vecMems := [(7, ⟨[], [], [], [], [5]⟩)] },
    env .captRead [word (7 * 65536 + 1)],
    1,
    sess,
    7,
    5,
    [],
    inOrder_env (by decide +kernel),
    by and_intros <;> decide +kernel⟩

theorem witness_StreamDatagramsAreAcknowledged :
  (∃ (s : State) (e : Envelope) (code : BitVec 16) (body : List Word) (n g : Nat) (x : Session), 
  let a := s.frameIn e.src.port e.src.mac
  s.boot.phase = .running ∧ s.faults.restart = none ∧ e.wellFormed = true ∧ a.fitsMtu e = true ∧ e.magic = 0x52D0 ∧ e.version = 1 ∧ e.kind = 6 ∧ e.length.toNat = e.udpLength ∧ e.udpLength = 40 + 4 * body.length ∧ e.tail = [] ∧ e.session.toNat = n ∧ a.session n = some x ∧ ofBytes ((hmacSha256 x.key (streamBytes e code body)).take 16) = e.tag.toNat ∧ a.isFrozen (sessionMaster n) = false ∧ code.toNat < 512 ∧ e.ctl.toNat = g ∧ 1 ≤ g ∧ g ≤ 34 ∧ e.atField.toNat % 16 = 0 ∧ body.length = 64 * g ∧ 
  let c := code.toNat
  
  let b := a.setSession n { x with src := { x.src with port := e.src.port }, streamSeq := x.streamSeq + 1 }
  
  let t := { b with free := b.free + 1 }
  t.streamSweep c = none) ∧
  (∃ (s : State) (e : Envelope) (code : BitVec 16) (body : List Word) (n g : Nat) (x : Session), 
  let a := s.frameIn e.src.port e.src.mac
  s.boot.phase = .running ∧ s.faults.restart = none ∧ e.wellFormed = true ∧ a.fitsMtu e = true ∧ e.magic = 0x52D0 ∧ e.version = 1 ∧ e.kind = 6 ∧ e.length.toNat = e.udpLength ∧ e.udpLength = 40 + 4 * body.length ∧ e.tail = [] ∧ e.session.toNat = n ∧ a.session n = some x ∧ ofBytes ((hmacSha256 x.key (streamBytes e code body)).take 16) = e.tag.toNat ∧ a.isFrozen (sessionMaster n) = false ∧ code.toNat < 512 ∧ e.ctl.toNat = g ∧ 1 ≤ g ∧ g ≤ 34 ∧ e.atField.toNat % 16 = 0 ∧ body.length = 64 * g ∧ 
  let c := code.toNat
  
  let b := a.setSession n { x with src := { x.src with port := e.src.port }, streamSeq := x.streamSeq + 1 }
  
  let t := { b with free := b.free + 1 }
  ∃ d, t.streamSweep c = some d) :=
  ⟨⟨dev,
    streamEnv,
    511,
    List.replicate 64 0,
    1,
    1,
    sess,
    by
      iterate 12 refine ⟨by decide +kernel, ?_⟩
      exact ⟨streamTag, by and_intros <;> decide +kernel⟩⟩,
  ⟨field { executing q511 0x04000000 with sweeps := (swept 6).sweeps } .seq 511 0 0x100,
    streamEnv,
    511,
    List.replicate 64 0,
    1,
    1,
    sess,
    by
      iterate 12 refine ⟨by decide +kernel, ?_⟩
      exact ⟨streamTag,
        by
          iterate 7 refine ⟨by decide +kernel, ?_⟩
          exact ⟨0, by decide +kernel⟩⟩⟩⟩

theorem witness_LinksTrainStepByStep_1 :
  (∃ (s : State) (c : Nat), s.boot.phase = .running ∧ c < 512 ∧ 
  let l := s.link c
  s.linkState c = 5 ∧ s.linkReady c = true ∧ l.retry = false) ∧
  (∃ (s : State) (c : Nat), s.boot.phase = .running ∧ c < 512 ∧ 
  let l := s.link c
  s.linkState c = 5 ∧ s.linkReady c = true ∧ l.retry = true ∧ l.since + 10000000 ≤ s.clock) ∧
  (∃ (s : State) (c : Nat), s.boot.phase = .running ∧ c < 512 ∧ 
  let l := s.link c
  s.linkState c = 2 ∧ s.boundMissed c = false ∧ ∃ (h : Heard) (b : TrainingBlock), 
  let t := s.hear c (h.headers ++ [h.block.header])
  l.step = 0 ∧ readTraining h.block = some b ∧ b.kind = 0xE1 ∧ (t.link c).locked = false) ∧
  (∃ (s : State) (c : Nat), s.boot.phase = .running ∧ c < 512 ∧ 
  let l := s.link c
  s.linkState c = 2 ∧ s.boundMissed c = false ∧ ∃ (h : Heard) (b : TrainingBlock), 
  let t := s.hear c (h.headers ++ [h.block.header])
  l.step = 0 ∧ readTraining h.block = some b ∧ b.kind = 0xE1 ∧ (t.link c).locked = true ∧ b.chan = c) ∧
  (∃ (s : State) (c : Nat), s.boot.phase = .running ∧ c < 512 ∧ 
  let l := s.link c
  s.linkState c = 2 ∧ s.boundMissed c = false ∧ ∃ (h : Heard) (b : TrainingBlock), 
  let t := s.hear c (h.headers ++ [h.block.header])
  l.step = 0 ∧ readTraining h.block = some b ∧ b.kind = 0xE1 ∧ (t.link c).locked = true ∧ b.chan ≠ c) ∧
  (∃ (s : State) (c : Nat), s.boot.phase = .running ∧ c < 512 ∧ 
  let l := s.link c
  s.linkState c = 2 ∧ s.boundMissed c = false ∧ ∃ (r : Received) (b : TrainingBlock), readTraining r = some b ∧ b.chan = c ∧ l.step = 1 ∧ b.kind = 0xE2) ∧
  (∃ (s : State) (c : Nat), s.boot.phase = .running ∧ c < 512 ∧ 
  let l := s.link c
  s.linkState c = 2 ∧ s.boundMissed c = false ∧ ∃ (r : Received) (b : TrainingBlock), readTraining r = some b ∧ b.chan = c ∧ l.step = 3 ∧ b.kind = 0xE3 ∧ b.adv = l.adv % 65536) ∧
  (∃ (s : State) (c : Nat), s.boot.phase = .running ∧ c < 512 ∧ 
  let l := s.link c
  s.linkState c = 2 ∧ s.boundMissed c = false ∧ ∃ n, l.step = 2 ∧ n * 5 ≤ 640 * 264) :=
  ⟨⟨linkAt wired 5 { lk with retry := false }, 511, by and_intros <;> decide +kernel⟩,
  ⟨linkAt wired 5 { lk with retry := true }, 511, by and_intros <;> decide +kernel⟩,
  ⟨linkAt dev 2 lk,
    511,
    by
      iterate 4 refine ⟨by decide +kernel, ?_⟩
      exact ⟨⟨[], trainingIn 0xE1 0⟩, training 0xE1 0, by and_intros <;> decide +kernel⟩⟩,
  ⟨linkAt dev 2 lk,
    511,
    by
      iterate 4 refine ⟨by decide +kernel, ?_⟩
      exact ⟨trainingHeard, training 0xE1 0, by and_intros <;> decide +kernel⟩⟩,
  ⟨linkAt dev 2 lk,
    511,
    by
      iterate 4 refine ⟨by decide +kernel, ?_⟩
      exact ⟨{ trainingHeard with block := controlIn { training 0xE1 0 with chan := 510 }.payload },
        { training 0xE1 0 with chan := 510 },
        by and_intros <;> decide +kernel⟩⟩,
  ⟨linkAt dev 2 { lk with step := 1 },
    511,
    by
      iterate 4 refine ⟨by decide +kernel, ?_⟩
      exact ⟨trainingIn 0xE2 0, training 0xE2 0, by and_intros <;> decide +kernel⟩⟩,
  ⟨linkAt dev 2 { lk with step := 3, adv := 7 },
    511,
    by
      iterate 4 refine ⟨by decide +kernel, ?_⟩
      exact ⟨trainingIn 0xE3 7, training 0xE3 7, by and_intros <;> decide +kernel⟩⟩,
  ⟨linkAt dev 2 { lk with step := 2 },
    511,
    by
      iterate 4 refine ⟨by decide +kernel, ?_⟩
      exact ⟨640 * 264 / 5, by and_intros <;> decide +kernel⟩⟩⟩

set_option maxRecDepth 40000 in
theorem witness_LinksTrainStepByStep_2 :
  (∃ (s : State) (c : Nat), s.boot.phase = .running ∧ c < 512 ∧ 
  let l := s.link c
  s.linkState c = 2 ∧ s.boundMissed c = false ∧ l.step = 4) ∧
  (∃ (s : State) (c : Nat), s.boot.phase = .running ∧ c < 512) ∧
  (∃ (s : State) (c : Nat), s.boot.phase = .running ∧ c < 512 ∧ ∃ b : TrainingBlock, b.kind < 256 ∧ b.slot < 16 ∧ b.frame < 256 ∧ b.adv < 65536 ∧ b.applyAt < 256 ∧ b.chan < 65536 ∧ 0xE1 ≤ b.kind ∧ b.kind ≤ 0xE3) ∧
  (∃ (s : State) (c : Nat), s.boot.phase = .running ∧ c < 512 ∧ 
  let l := s.link c
  s.linkState c = 3 ∧ l.descDone = true ∧ s.boundMissed c = false ∧ descOk l.descRead = true ∧ (∀ old, s.desc c = some old → old = l.descRead)) ∧
  (∃ (s : State) (c : Nat), s.boot.phase = .running ∧ c < 512 ∧ 
  let l := s.link c
  s.linkState c = 3 ∧ l.descDone = true ∧ s.boundMissed c = false ∧ descOk l.descRead = true ∧ ∃ old, s.desc c = some old ∧ old ≠ l.descRead) ∧
  (∃ (s : State) (c : Nat), s.boot.phase = .running ∧ c < 512 ∧ (s.linkState c = 2 ∨ s.linkState c = 3) ∧ s.boundMissed c = true) ∧
  (∃ (s : State) (c : Nat), s.boot.phase = .running ∧ c < 512 ∧ (s.linkState c = 2 ∨ s.linkState c = 3) ∧ s.boundMissed c = true) ∧
  (∃ (s : State) (c : Nat), s.boot.phase = .running ∧ c < 512 ∧ 
  let l := s.link c
  s.linkState c = 2 ∧ l.step = 2 ∧ ∃ n, 640 * 264 < n * 5) :=
  ⟨⟨linkAt dev 2 { lk with step := 4 }, 511, by and_intros <;> decide +kernel⟩,
  ⟨dev, 511, by and_intros <;> decide +kernel⟩,
  ⟨dev, 511, by decide +kernel, by decide +kernel, training 0xE3 65535, by and_intros <;> decide +kernel⟩,
  ⟨linkAt dev 3 { lk with descRead := descGood },
    511,
    by
      iterate 5 refine ⟨by decide +kernel, ?_⟩
      exact ⟨descGood_ok, fun old h => nomatch (show none = some old from h)⟩⟩,
  ⟨{ linkAt dev 3 { lk with descRead := descGood } with descs := [(511, [])] },
    511,
    by
      iterate 5 refine ⟨by decide +kernel, ?_⟩
      exact ⟨descGood_ok, [], by and_intros <;> decide +kernel⟩⟩,
  ⟨linkAt (late dev) 2 lk, 511, by and_intros <;> decide +kernel⟩,
  ⟨linkAt (late dev) 3 { lk with first := true }, 511, by and_intros <;> decide +kernel⟩,
  ⟨linkAt dev 2 { lk with step := 2 },
    511,
    by
      iterate 4 refine ⟨by decide +kernel, ?_⟩
      exact ⟨33793, by decide +kernel⟩⟩⟩

theorem witness_LinksTrainStepByStep_3 :
  (∃ (s : State) (c : Nat), s.boot.phase = .running ∧ c < 512 ∧ 
  let l := s.link c
  s.linkState c = 2 ∧ l.step = 4) ∧
  (∃ (s : State) (c : Nat), s.boot.phase = .running ∧ c < 512 ∧ 
  let l := s.link c
  s.linkState c = 3 ∧ l.descDone = true ∧ s.boundMissed c = false ∧ descOk l.descRead = false) ∧
  (∃ (s : State) (c : Nat), s.boot.phase = .running ∧ c < 512 ∧ 
  let l := s.link c
  l.locked = false ∧ (s.linkState c = 2 ∧ l.step ≠ 0 ∨ s.linkState c = 3 ∨ s.linkState c = 6)) ∧
  (∃ (s : State) (c : Nat), s.boot.phase = .running ∧ c < 512 ∧ 
  let l := s.link c
  l.locked = false ∧ (s.linkState c = 2 ∧ l.step ≠ 0 ∨ s.linkState c = 3 ∨ s.linkState c = 6)) ∧
  (∃ (s : State) (c : Nat), s.boot.phase = .running ∧ c < 512 ∧ 
  let l := s.link c
  l.locked = false ∧ (s.linkState c = 2 ∧ l.step ≠ 0 ∨ s.linkState c = 3 ∨ s.linkState c = 6)) :=
  ⟨⟨linkAt dev 2 { lk with step := 4 }, 511, by and_intros <;> decide +kernel⟩,
  ⟨linkAt dev 3 { lk with descRead := [0] }, 511, by and_intros <;> decide +kernel⟩,
  ⟨linkAt dev 2 { lk with step := 1 }, 511, by and_intros <;> decide +kernel⟩,
  ⟨linkAt dev 3 lk, 511, by and_intros <;> decide +kernel⟩,
  ⟨linkAt dev 6 lk, 511, by and_intros <;> decide +kernel⟩⟩

theorem witness_LinksFailAndReport_1 :
  (∃ (l : Link) (header : Nat), l.locked = false) ∧
  (∃ (l : Link) (header : Nat), l.locked = true) ∧
  (∃ (s : State) (c : Nat), s.boot.phase = .running ∧ c < 512 ∧ s.trained c = true ∧ (s.link c).locked = false) ∧
  (∃ (s : State) (c : Nat), s.boot.phase = .running ∧ c < 512 ∧ s.trained c = true ∧ (s.link c).locked = true) ∧
  (∃ (s : State) (c : Nat), s.boot.phase = .running ∧ c < 512 ∧ s.trained c = true ∧ ∃ r : Received, (readTraining r).isSome = true) ∧
  (∃ (s : State) (c : Nat), s.boot.phase = .running ∧ c < 512 ∧ s.trained c = true ∧ ∃ r : Received, (readTraining r).isSome = true) ∧
  (∃ (s : State) (c : Nat), s.boot.phase = .running ∧ c < 512 ∧ s.trained c = true ∧ s.linkErrorsDue c = true) ∧
  (∃ (s : State) (c : Nat) (received : List (Nat × Block)) (before : BitVec 58) (b : Block) (rest : List Block), s.boot.phase = .running ∧ c < 512 ∧ s.trained c = true ∧ descrambleAll before (received.map Prod.snd) = b :: rest ∧ statusOk (b :: rest) = true) :=
  ⟨⟨lk, 1, by decide +kernel⟩,
  ⟨{ lk with locked := true, heard := List.replicate 64 false }, 0, by decide +kernel⟩,
  ⟨linked dev, 511, by and_intros <;> decide +kernel⟩,
  ⟨(linked dev).setLink 511 { lk with locked := true }, 511, by and_intros <;> decide +kernel⟩,
  ⟨linked dev,
    511,
    by
      iterate 3 refine ⟨by decide +kernel, ?_⟩
      exact ⟨trainingIn 0xE1 0, by decide +kernel⟩⟩,
  ⟨(linked dev).setLink 511 { lk with locked := true },
    511,
    by
      iterate 3 refine ⟨by decide +kernel, ?_⟩
      exact ⟨trainingIn 0xE3 5, by decide +kernel⟩⟩,
  ⟨linked (field dev .chan 511 0x51 0), 511, by and_intros <;> decide +kernel⟩,
  ⟨linked (chanAt dev 4 { ch with alert := true }), 511, statusLine, 0, 0, statusGood.drop 1, by and_intros <;> decide +kernel⟩⟩

theorem witness_LinksFailAndReport_2 :
  (∃ (s : State) (c : Nat) (received : List (Nat × Block)) (before : BitVec 58), s.boot.phase = .running ∧ c < 512 ∧ s.trained c = true ∧ statusOk (descrambleAll before (received.map Prod.snd)) = false) ∧
  (∃ (s : State) (c : Nat) (b : Block), sortedKeys s.chans = true) ∧
  (∃ (before : BitVec 58) (p : Block), ∃ i, i < 64) ∧
  (∃ (s : State) (b low : Nat), s.boot.phase = .running ∧ b < 8 ∧ s.clock < (s.lines b).lowUntil) ∧
  (∃ (s : State) (b low : Nat), s.boot.phase = .running ∧ b < 8 ∧ (s.lines b).lowUntil ≤ s.clock ∧ sortedKeys s.bankLines = true ∧ 0 < low) ∧
  (∃ (s : State) (b low : Nat), s.boot.phase = .running ∧ b < 8 ∧ (s.lines b).lowUntil ≤ s.clock ∧ (∀ c ∈ bankChannels b, s.trained c = true → (s.chan c).alert = false) ∧ s.rf .bank b 0x40 29 28 = 0) ∧
  (∃ (s : State) (b low : Nat), s.boot.phase = .running ∧ b < 8 ∧ (s.lines b).lowUntil ≤ s.clock ∧ (∀ c ∈ bankChannels b, s.trained c = true → (s.chan c).alert = false) ∧ s.rf .bank b 0x40 29 28 = 0) ∧
  (∃ (s : State) (b low : Nat), s.boot.phase = .running ∧ b < 8 ∧ (s.lines b).lowUntil ≤ s.clock ∧ ∃ c, ((bankChannels b).filter fun k => s.trained k && (s.chan k).alert) = [c] ∧ s.rf .bank b 0x40 29 28 = 0) :=
  ⟨⟨linked dev, 511, [], 0, by and_intros <;> decide +kernel⟩,
  ⟨dev, 511, 0, by decide +kernel⟩,
  ⟨0, 5, 63, by decide +kernel⟩,
  ⟨{ dev with bankLines := [(7, ⟨true, 0, 0, 9⟩)] }, 7, 5, by and_intros <;> decide +kernel⟩,
  ⟨late { dev with bankLines := [(7, ⟨true, 0, 0, 9⟩)] }, 7, 5, by and_intros <;> decide +kernel⟩,
  ⟨dev, 7, 0, by and_intros <;> decide +kernel⟩,
  ⟨linked dev, 7, 5, by and_intros <;> decide +kernel⟩,
  ⟨linked (chanAt dev 4 { ch with alert := true }),
    7,
    5,
    by
      iterate 3 refine ⟨by decide +kernel, ?_⟩
      exact ⟨511, by and_intros <;> decide +kernel⟩⟩⟩

theorem witness_LinksFailAndReport_3 :
  (∃ (s : State) (b : Nat), s.boot.phase = .running ∧ b < 8 ∧ s.rb .bank b 0x40 31 = false ∧ (s.lines b).high = false ∧ (s.lines b).changed + 10000 ≤ s.clock) :=
  ⟨late (field dev .bank 7 0x40 0), 7, by and_intros <;> decide +kernel⟩

theorem witness_FreezesAndFaultsAct :
  (∃ (s : State) (r : Nat), s.boot.phase = .running ∧ r < 65536) ∧
  (∃ (s : State) (task : Nat), s.boot.phase = .running ∧ task < 4096 ∧ s.isFrozen (0x2000 + task) = false) ∧
  (∃ (s : State) (e : Envelope) (n m : Nat) (x : Session) (body : List Word), 
  let r : Req := ⟨.thaw, e, body⟩
  
  let a := s.admitted r n x
  InOrder s r n x ∧ a.frozenMaster r = .ok m ∧ sequencerOf m = none) ∧
  (∃ (s : State) (e : Envelope) (n m : Nat) (x : Session) (body : List Word), 
  let r : Req := ⟨.masterReset, e, body⟩
  
  let a := s.admitted r n x
  InOrder s r n x ∧ a.frozenMaster r = .ok m ∧ sequencerOf m = none) ∧
  (∃ (s : State), s.boot.phase = .running ∧ s.faults.restart.isSome = true) ∧
  (∃ (s : State), s.boot.phase = .running ∧ (s.countFault .fwWdog 0).1 = false) ∧
  (∃ (s : State) (m v : Nat), s.isFrozen m = false) ∧
  (∃ (s : State) (m v : Nat), s.isFrozen m = false ∧ sortedKeys s.faults.frozen = true) :=
  ⟨⟨dev, 5, by and_intros <;> decide +kernel⟩,
  ⟨dev, 5, by and_intros <;> decide +kernel⟩,
  ⟨frozenMaster,
    env .thaw [0xB000],
    1,
    0xB000,
    sess,
    [0xB000],
    inOrder_env (by decide +kernel),
    exc_eq _ (by decide +kernel),
    by decide +kernel⟩,
  ⟨frozenMaster,
    env .masterReset [0xB000],
    1,
    0xB000,
    sess,
    [0xB000],
    inOrder_env (by decide +kernel),
    exc_eq _ (by decide +kernel),
    by decide +kernel⟩,
  ⟨{ dev with faults := { dev.faults with restart := some 0 } }, by and_intros <;> decide +kernel⟩,
  ⟨dev, by and_intros <;> decide +kernel⟩,
  ⟨dev, 5, 1, by decide +kernel⟩,
  ⟨dev, 5, 1, by and_intros <;> decide +kernel⟩⟩

theorem witness_SilenceAndHeatAreNoticed_1 :
  (∃ (s : State) (t : Nat), s.boot.phase = .running ∧ s.faults.hostIdle = some t ∧ s.rf .dev 0 0x142 31 16 ≠ 0 ∧ s.faults.hostActed = false ∧ t + s.rf .dev 0 0x142 31 16 * 10 ^ 9 < s.clock + 100) ∧
  (∃ (s : State) (n : Nat) (x : Session), s.boot.phase = .running ∧ 1 ≤ n ∧ n ≤ 16 ∧ s.session n = some x ∧ x.lastValid + x.timeout * 10 ^ 9 < s.clock + 100) ∧
  (∃ (s : State) (n : Nat) (x : Session), s.boot.phase = .running ∧ 1 ≤ n ∧ n ≤ 16 ∧ s.session n = some x ∧ s.clock + 100 ≤ x.lastValid + x.timeout * 10 ^ 9) ∧
  (∃ (s : State) (n : Nat) (x : Session), s.boot.phase = .running ∧ 1 ≤ n ∧ n ≤ 16 ∧ s.session n = some x) ∧
  (∃ (s : State) (k : Nat), s.boot.phase = .running ∧ s.rf .dev 0 0x184 31 16 ≠ 0 ∧ s.now = k * (s.rf .dev 0 0x184 31 16 * 10 ^ 8)) ∧
  (∃ (s : State) (tj : Nat), s.boot.phase = .running ∧ tj < 65536 ∧ tj ≤ 23561) ∧
  (∃ (s : State) (tj : Nat), s.boot.phase = .running ∧ tj < 65536 ∧ 23561 < tj ∧ tj < 23882) ∧
  (∃ (s : State) (tj : Nat), s.boot.phase = .running ∧ tj < 65536 ∧ 23882 ≤ tj) :=
  ⟨⟨field { late dev with faults := { dev.faults with hostIdle := some 0 } } .dev 0 0x142 0x00010000, 0, by and_intros <;> decide +kernel⟩,
  ⟨late dev, 1, sess, by and_intros <;> decide +kernel⟩,
  ⟨dev, 1, sess, by and_intros <;> decide +kernel⟩,
  ⟨dev, 1, sess, by and_intros <;> decide +kernel⟩,
  ⟨field dev .dev 0 0x184 0x00010000, 0, by and_intros <;> decide +kernel⟩,
  ⟨{ dev with faults := { dev.faults with hot := true } }, 23561, by and_intros <;> decide +kernel⟩,
  ⟨dev, 23562, by and_intros <;> decide +kernel⟩,
  ⟨dev, 23882, by and_intros <;> decide +kernel⟩⟩

theorem witness_SilenceAndHeatAreNoticed_2 :
  (∃ (s : State) (tj : Nat), s.boot.phase = .running ∧ tj < 65536 ∧ 23882 ≤ tj) ∧
  (∃ (s : State) (tj : Nat), s.boot.phase = .running ∧ tj < 65536 ∧ 23882 ≤ tj) :=
  ⟨⟨dev, 24842, by and_intros <;> decide +kernel⟩,
  ⟨{ dev with faults := { dev.faults with hot := true } }, 24842, by and_intros <;> decide +kernel⟩⟩

theorem witness_TimeCommandsAct_1 :
  (∃ (s : State) (e : Envelope) (n : Nat) (x : Session) (lo hi : Word), 
  let r : Req := ⟨.timeLoad, e, [lo, hi]⟩
  
  let a := s.admitted r n x
  InOrder s r n x ∧ dword [lo, hi] 0 % 100 = 0 ∧ a.timeSource = 0 ∧ a.quiet = true) ∧
  (∃ (s : State) (e : Envelope) (n : Nat) (x : Session) (w : Word), 
  let r : Req := ⟨.syncCalibrate, e, [w]⟩
  
  let a := s.admitted r n x
  
  let b := { a with free := a.free + 1 }
  
  let first := b.nextBoundary + 100 * Config.choice a.free
  InOrder s r n x ∧ w ≠ 0 ∧ w.toNat < 32 ∧ a.syncRole = 1 ∧ a.events.syncTarget = [] ∧ a.time.calRun = none) ∧
  (∃ (s : State), s.boot.phase = .running ∧ s.meridianNs ≠ 0 ∧ s.now % s.meridianNs = 0 ∧ 
  let u := s.fire (mkId 2 0) s.frameCycle
  u.syncRole ≠ 1) ∧
  (∃ (s : State), s.boot.phase = .running ∧ s.meridianNs ≠ 0 ∧ s.now % s.meridianNs = 0 ∧ 
  let u := s.fire (mkId 2 0) s.frameCycle
  u.syncRole = 1 ∧ u.calWindowNow.isSome = true) ∧
  (∃ (s : State), s.boot.phase = .running ∧ s.meridianNs ≠ 0 ∧ s.now % s.meridianNs = 0 ∧ 
  let u := s.fire (mkId 2 0) s.frameCycle
  u.syncRole = 1 ∧ u.calWindowNow = none) ∧
  (∃ (s : State) (k t : Nat), s.boot.phase = .running ∧ k < 8 ∧ find s.events.syncTarget k = some t ∧ t ≤ s.now) ∧
  (∃ (s : State) (t : Nat), s.boot.phase = .running ∧ s.time.lastEdge = some t ∧ s.rb .sync 0 0x20 31 = true ∧ t + 800 ≤ s.clock) ∧
  (∃ (s : State) (t : Nat), s.boot.phase = .running ∧ s.time.lostAt = some t ∧ t + 1000000000 ≤ s.clock) :=
  ⟨⟨dev, env .timeLoad [0, 0], 1, sess, 0, 0, inOrder_env (by decide +kernel), by and_intros <;> decide +kernel⟩,
  ⟨roleAt 1, env .syncCalibrate [31], 1, sess, 31, inOrder_env (by decide +kernel), by and_intros <;> decide +kernel⟩,
  ⟨field dev .sync 0 1 1, by and_intros <;> decide +kernel⟩,
  ⟨{ field (roleAt 1) .sync 0 1 1 with time := { dev.time with calRun := some (1, 0, 0) } }, by and_intros <;> decide +kernel⟩,
  ⟨field (roleAt 1) .sync 0 1 1, by and_intros <;> decide +kernel⟩,
  ⟨{ dev with events := { dev.events with syncTarget := [(7, 0)] } }, 7, 0, by and_intros <;> decide +kernel⟩,
  ⟨field { late dev with time := { dev.time with lastEdge := some 0 } } .sync 0 0x20 0x80000000, 0, by and_intros <;> decide +kernel⟩,
  ⟨{ late dev with time := { dev.time with lostAt := some 0 } }, 0, by and_intros <;> decide +kernel⟩⟩

theorem witness_TimeCommandsAct_2 :
  (∃ (s : State), s.boot.phase = .running ∧ s.time.calRun = none ∧ s.time.lostAt = none ∧ s.time.holdover = false) ∧
  (∃ (s : State), s.boot.phase = .running ∧ s.time.calRun = none ∧ s.time.lostAt = none ∧ s.time.holdover = true) ∧
  (∃ (s : State) (err : Int), s.quiet = false ∧ err ≠ 0 ∧ err.natAbs ≤ 128000) ∧
  (∃ (s : State) (err : Int), s.quiet = false ∧ err ≠ 0 ∧ err.natAbs ≤ 128000 ∧ s.time.timeOpen = true) ∧
  (∃ (s : State) (err : Int), s.quiet = false ∧ 128000 < err.natAbs ∧ s.regsCanonical) :=
  ⟨⟨dev, by and_intros <;> decide +kernel⟩,
  ⟨{ dev with time := { dev.time with holdover := true } }, by and_intros <;> decide +kernel⟩,
  ⟨chanAt dev 4 ch, 128000, by and_intros <;> decide +kernel⟩,
  ⟨{ chanAt dev 4 ch with time := { dev.time with timeOpen := true } }, -128000, by and_intros <;> decide +kernel⟩,
  ⟨chanAt dev 4 ch, 128001, by and_intros <;> decide +kernel⟩⟩

theorem witness_SyncWordsAct :
  (∃ (s : State) (w : BitVec 48) (cyc : Nat), s.boot.phase = .running ∧ s.syncRole = 2 ∧ readSyncWord w = none) ∧
  (∃ (s : State) (mask frame cyc : Nat), s.boot.phase = .running ∧ s.syncRole = 2 ∧ mask < 256 ∧ frame < 2 ^ 28 ∧ 
  let ahead := (frame + 2 ^ 28 - s.now / 100 % 2 ^ 28) % 2 ^ 28
  
  let target := s.now / 100 * 100 + ahead * 100
  ahead < 2 ^ 27 ∧ s.fineTime cyc + 12800 ≤ target * 128) ∧
  (∃ (s : State) (mask frame cyc : Nat), s.boot.phase = .running ∧ s.syncRole = 2 ∧ mask < 256 ∧ frame < 2 ^ 28 ∧ 
  let ahead := (frame + 2 ^ 28 - s.now / 100 % 2 ^ 28) % 2 ^ 28
  
  let target := s.now / 100 * 100 + ahead * 100
  (2 ^ 27 ≤ ahead ∨ target * 128 < s.fineTime cyc + 12800)) ∧
  (∃ (s : State) (mask frame cyc : Nat), s.boot.phase = .running ∧ s.syncRole = 2 ∧ mask < 256 ∧ frame < 2 ^ 28 ∧ 
  let ahead := (frame + 2 ^ 28 - s.now / 100 % 2 ^ 28) % 2 ^ 28
  
  let target := s.now / 100 * 100 + ahead * 100
  (2 ^ 27 ≤ ahead ∨ target * 128 < s.fineTime cyc + 12800)) ∧
  (∃ (type payload : Nat), type < 16 ∧ payload < 2 ^ 36) ∧
  (∃ (s : State) (stamp : Nat) (y : SyncSymbol), s.boot.phase = .running ∧ s.syncRole = 0 ∧ 
  let t := (s.setWords .sync 0 0x27 (wordsOf 2 (stamp / 128) ++ [word (stamp % 128 * 2 ^ 25)])).setRb .sync 0 0x20 31 true
  t.syncRole = 0) ∧
  (∃ (s : State) (stamp j f : Nat) (y : SyncSymbol), s.boot.phase = .running ∧ s.syncRole = 2 ∧ s.calWindowNow = some (j, f) ∧ s.segPos = j ∧ s.now * 128 ≤ stamp ∧ s.regsCanonical) ∧
  (∃ (s : State) (sum answers w first done : Nat), s.boot.phase = .running ∧ s.time.calRun = some (w, first, done) ∧ first + (done + 1) * 819200 ≤ s.now) :=
  ⟨⟨roleAt 2, 1, 9, by and_intros <;> decide +kernel⟩,
  ⟨roleAt 2, 7, 5, 0, by and_intros <;> decide +kernel⟩,
  ⟨roleAt 2, 1, 0, 0, by and_intros <;> decide +kernel⟩,
  ⟨roleAt 2, 255, 2 ^ 28 - 1, 0, by and_intros <;> decide +kernel⟩,
  ⟨15, 2 ^ 36 - 1, by and_intros <;> decide +kernel⟩,
  ⟨dev, 5, .start, by and_intros <;> decide +kernel⟩,
  ⟨{ field dev .sync 0 0 0x81000000 with time := { dev.time with calRun := some (1, 0, 0) } },
    5,
    1,
    0,
    .start,
    by and_intros <;> decide +kernel⟩,
  ⟨{ roleAt 2 with now := 819200, time := { dev.time with calRun := some (1, 0, 0) } }, 5, 1, 1, 0, 0, by and_intros <;> decide +kernel⟩⟩

theorem witness_PtpActs_1 :
  (∃ (s : State) (p : Port) (f : PtpFrame) (m : PtpMsg) (rx residence : Int), s.boot.phase = .running ∧ f.wellFormed = true ∧ m.wellFormed = true ∧ 
  let u := s.frameIn p f.src
  u.tooLong f.length = true) ∧
  (∃ (s : State) (p : Port) (f : PtpFrame) (m : PtpMsg) (rx residence : Int), s.boot.phase = .running ∧ f.wellFormed = true ∧ m.wellFormed = true ∧ 
  let u := s.frameIn p f.src
  u.tooLong f.length = false) ∧
  (∃ (s : State) (p : Port) (f : PtpFrame) (m : PtpMsg) (rx residence : Int), s.boot.phase = .running ∧ f.wellFormed = true ∧ m.wellFormed = true ∧ 
  let u := s.frameIn p f.src
  u.tooLong f.length = false) ∧
  (∃ (s : State) (p : Port) (f : PtpFrame) (m : PtpMsg) (residence : Int), f.dst = s.ownMac) ∧
  (∃ (s : State) (p : Port) (f : PtpFrame) (m : PtpMsg) (residence : Int), f.dst ≠ s.ownMac ∧ 
  let mine (h : PtpHeld) : Bool := h.source == m.source && h.domain == m.domain && h.seq == m.seq
  s.rb .time 0 0 11 = false) ∧
  (∃ (s : State) (p : Port) (f : PtpFrame) (m : PtpMsg) (residence : Int), f.dst ≠ s.ownMac ∧ 
  let mine (h : PtpHeld) : Bool := h.source == m.source && h.domain == m.domain && h.seq == m.seq
  s.rb .time 0 0 11 = true ∧ (m.kind = .delayReq ∨ m.kind = .sync ∧ m.twoStep = false)) ∧
  (∃ (s : State) (p : Port) (f : PtpFrame) (m : PtpMsg) (residence : Int), f.dst ≠ s.ownMac ∧ 
  let mine (h : PtpHeld) : Bool := h.source == m.source && h.domain == m.domain && h.seq == m.seq
  s.rb .time 0 0 11 = true ∧ (m.kind = .delayReq ∨ m.kind = .sync ∧ m.twoStep = false)) ∧
  (∃ (s : State) (p : Port) (f : PtpFrame) (m : PtpMsg) (residence : Int), f.dst ≠ s.ownMac ∧ 
  let mine (h : PtpHeld) : Bool := h.source == m.source && h.domain == m.domain && h.seq == m.seq
  s.rb .time 0 0 11 = true ∧ m.kind = .sync ∧ m.twoStep = true) :=
  ⟨⟨dev, .b, { ptpFrame 0 with length := 65535 }, ptpMsg .sync, 0, 3, by and_intros <;> decide +kernel⟩,
  ⟨dev, .b, ptpFrame 0, ptpMsg .sync, 0, 3, by and_intros <;> decide +kernel⟩,
  ⟨field dev .time 0 0 0x800, .a, ptpFrame 0xFFFFFFFFFFFF, ptpMsg .delayReq, 0, 3, by and_intros <;> decide +kernel⟩,
  ⟨dev, .a, ptpFrame dev.ownMac, ptpMsg .sync, 3, by decide +kernel⟩,
  ⟨field dev .time 0 0 0, .a, ptpFrame 0, ptpMsg .sync, 3, by and_intros <;> decide +kernel⟩,
  ⟨field dev .time 0 0 0x800, .a, ptpFrame 0, ptpMsg .delayReq, 3, by and_intros <;> decide +kernel⟩,
  ⟨field dev .time 0 0 0x800, .b, ptpFrame 0, ptpMsg .sync, 3, by and_intros <;> decide +kernel⟩,
  ⟨field dev .time 0 0 0x800, .a, ptpFrame 0, { ptpMsg .sync with twoStep := true }, 3, by and_intros <;> decide +kernel⟩⟩

theorem witness_PtpActs_2 :
  (∃ (s : State) (p : Port) (f : PtpFrame) (m : PtpMsg) (residence : Int), f.dst ≠ s.ownMac ∧ 
  let mine (h : PtpHeld) : Bool := h.source == m.source && h.domain == m.domain && h.seq == m.seq
  s.rb .time 0 0 11 = true ∧ ∃ h, m.kind = .followUp ∧ s.ptp.held.find? mine = some h) ∧
  (∃ (s : State) (p : Port) (f : PtpFrame) (m : PtpMsg) (residence : Int), f.dst ≠ s.ownMac ∧ 
  let mine (h : PtpHeld) : Bool := h.source == m.source && h.domain == m.domain && h.seq == m.seq
  s.rb .time 0 0 11 = true ∧ m.kind = .followUp ∧ s.ptp.held.find? mine = none) ∧
  (∃ (s : State) (p : Port) (f : PtpFrame) (m : PtpMsg) (residence : Int), f.dst ≠ s.ownMac ∧ 
  let mine (h : PtpHeld) : Bool := h.source == m.source && h.domain == m.domain && h.seq == m.seq
  s.rb .time 0 0 11 = true ∧ (m.kind = .announce ∨ m.kind = .delayResp)) ∧
  (∃ (s : State) (p : Port) (f : PtpFrame) (m : PtpMsg) (residence : Int), f.dst ≠ s.ownMac ∧ 
  let mine (h : PtpHeld) : Bool := h.source == m.source && h.domain == m.domain && h.seq == m.seq
  s.rb .time 0 0 11 = true ∧ (m.kind = .announce ∨ m.kind = .delayResp)) ∧
  (∃ (s : State) (tx : Int), s.boot.phase = .running ∧ s.ptpRole = 2 ∧ s.ptp.master = none) ∧
  (∃ (s : State) (tx : Int), s.boot.phase = .running ∧ s.ptpSlave = true) ∧
  (∃ (s : State) (f : PtpFrame) (m : PtpMsg) (rx : Int), s.ptpRole = 2 ∧ s.ptp.master = none ∧ m.kind = .delayReq ∧ f.carriage ≠ .ether) ∧
  (∃ (s : State) (f : PtpFrame) (m : PtpMsg) (rx : Int), s.fromMaster m = true ∧ m.kind = .sync ∧ m.twoStep = true) :=
  ⟨⟨field { dev with ptp := { dev.ptp with held := [⟨5, 0, 7, 5⟩] } } .time 0 0 0x800,
    .a,
    ptpFrame 0,
    ptpMsg .followUp,
    3,
    by decide +kernel,
    by decide +kernel,
    ⟨5, 0, 7, 5⟩,
    by and_intros <;> decide +kernel⟩,
  ⟨field { dev with ptp := { dev.ptp with held := [⟨6, 0, 7, 5⟩] } } .time 0 0 0x800,
    .a,
    ptpFrame 0,
    ptpMsg .followUp,
    3,
    by and_intros <;> decide +kernel⟩,
  ⟨field dev .time 0 0 0x800, .a, ptpFrame 0, ptpMsg .announce, 3, by and_intros <;> decide +kernel⟩,
  ⟨field dev .time 0 0 0x800, .a, ptpFrame 0, ptpMsg .delayResp, 3, by and_intros <;> decide +kernel⟩,
  ⟨slave, 5, by and_intros <;> decide +kernel⟩,
  ⟨field dev .time 0 0 0x10000000, 0, by and_intros <;> decide +kernel⟩,
  ⟨field dev .time 0 0 0x20000000, ptpFrame 0, ptpMsg .delayReq, 9, by and_intros <;> decide +kernel⟩,
  ⟨field { dev with ptp := { dev.ptp with master := some ⟨128, 248, 5, .udp4⟩, t1 := some (7, 0), t2 := some (7, 9), meanDelay := some 4 } } .time 0 0 0x50000000,
    ptpFrame 0,
    { ptpMsg .sync with twoStep := true },
    9,
    by and_intros <;> decide +kernel⟩⟩

theorem witness_PtpActs_3 :
  (∃ (s : State) (f : PtpFrame) (m : PtpMsg) (rx : Int), s.fromMaster m = true ∧ m.kind = .followUp) ∧
  (∃ (s : State) (f : PtpFrame) (m : PtpMsg) (rx : Int), s.fromMaster m = true ∧ ∃ n t1 t2 d, s.ptp.t1 = some (n, t1) ∧ s.ptp.t2 = some (n, t2) ∧ s.ptp.meanDelay = some d ∧ s.timeSource = 1) :=
  ⟨⟨field { dev with ptp := { dev.ptp with master := some ⟨128, 248, 5, .udp4⟩, t1 := some (7, 0), t2 := some (7, 9), meanDelay := some 4 } } .time 0 0 0x50000000,
    ptpFrame 0,
    ptpMsg .followUp,
    9,
    by and_intros <;> decide +kernel⟩,
  ⟨field { dev with ptp := { dev.ptp with master := some ⟨128, 248, 5, .udp4⟩, t1 := some (7, 0), t2 := some (7, 9), meanDelay := some 4 } } .time 0 0 0x50000000,
    ptpFrame 0,
    ptpMsg .followUp,
    9,
    by decide +kernel,
    7,
    0,
    9,
    4,
    by and_intros <;> decide +kernel⟩⟩

theorem witness_PortsAndRingAct_1 :
  (∃ (s : State) (p : Port) (k : Nat) (m : OutMsg), s.boot.phase ≠ .reset ∧ s.ringBlocked = true) ∧
  (∃ (s : State) (p : Port) (k : Nat) (m : OutMsg), s.boot.phase ≠ .reset ∧ s.ringBlocked = false ∧ 4 * 2 ^ 20 < s.queueBytes (otherPort p) + transitBytes m) ∧
  (∃ (s : State) (p : Port) (k : Nat) (m : OutMsg), s.boot.phase ≠ .reset ∧ s.ringBlocked = false ∧ s.queueBytes (otherPort p) + transitBytes m ≤ 4 * 2 ^ 20) ∧
  (∃ (s : State) (p : Port) (q : Nat), s.boot.phase ≠ .reset ∧ 1 ≤ q ∧ q < 65536) ∧
  (∃ (s : State) (p : Port) (t : Nat), find s.net.pauseEnds (portNum p) = some t) ∧
  (∃ (s : State) (p : Port) (lock localFault remoteFault : Bool), s.rb .port (portNum p) 0x20 28 = false ∧ (lock = false ∨ localFault = true ∨ remoteFault = true)) ∧
  (∃ (s : State) (p : Port) (lock localFault remoteFault : Bool), s.rb .port (portNum p) 0x20 28 = false ∧ (lock = false ∨ localFault = true ∨ remoteFault = true)) ∧
  (∃ (s : State) (p : Port) (lock localFault remoteFault : Bool), s.rb .port (portNum p) 0x20 28 = false ∧ (lock = false ∨ localFault = true ∨ remoteFault = true)) :=
  ⟨⟨field dev .dev 0 0x143 0xC0000000, .a, 4, .forward .b 1 2 0x0800 64 none [], by and_intros <;> decide +kernel⟩,
  ⟨dev, .a, 4, .forward .b 1 2 0x0800 (5 * 2 ^ 20) none [], by and_intros <;> decide +kernel⟩,
  ⟨dev, .a, 4, .forward .b 1 2 0x0800 64 none [], by and_intros <;> decide +kernel⟩,
  ⟨dev, .b, 65535, by and_intros <;> decide +kernel⟩,
  ⟨{ dev with net := { dev.net with pauseEnds := [(1, 5)] } }, .b, 5, by decide +kernel⟩,
  ⟨dev, .b, false, false, false, by and_intros <;> decide +kernel⟩,
  ⟨dev, .b, true, true, false, by and_intros <;> decide +kernel⟩,
  ⟨dev, .a, true, false, true, by and_intros <;> decide +kernel⟩⟩

theorem witness_PortsAndRingAct_2 :
  (∃ (s : State) (p : Port), s.rb .port (portNum p) 0x20 28 = true) ∧
  (∃ (s : State) (f : EnumFrame), f.wellFormed = true ∧ f.proto = 0xD5 ∧ 
  let t := s.frameIn f.port f.src
  t.tooLong f.bytes.length = false ∧ s.boot.phase ≠ .reset ∧ f.type = 0x20) ∧
  (∃ (s : State) (f : EnumFrame), f.wellFormed = true ∧ f.proto = 0xD5 ∧ 
  let t := s.frameIn f.port f.src
  t.tooLong f.bytes.length = false ∧ s.boot.phase ≠ .reset ∧ f.type = 0x21) :=
  ⟨⟨field dev .port 1 0x20 0x10000000, .b, by decide +kernel⟩,
  ⟨dev, enumFrame 0x20 [], by and_intros <;> decide +kernel⟩,
  ⟨dev, enumFrame 0x21 [], by and_intros <;> decide +kernel⟩⟩

theorem witness_FramesAndAddressesAct_1 :
  (∃ (s : State) (p : Port) (f : EthFrame), s.boot.phase ≠ .reset ∧ f.wellFormed = true ∧ f.fcsOk = false) ∧
  (∃ (s : State) (p : Port) (f : EthFrame), s.boot.phase ≠ .reset ∧ f.wellFormed = true ∧ f.fcsOk = true ∧ 
  let t := s.frameIn p f.src
  t.rf .dev 0 0x183 15 0 < f.length) ∧
  (∃ (s : State) (p : Port) (f : EthFrame), s.boot.phase ≠ .reset ∧ f.wellFormed = true ∧ f.fcsOk = true ∧ 
  let t := s.frameIn p f.src
  t.rf .dev 0 0x183 15 0 < f.length ∧ ∃ target, target < 2 ^ 32) ∧
  (∃ (s : State) (p : Port) (f : EthFrame), s.boot.phase ≠ .reset ∧ f.wellFormed = true ∧ f.fcsOk = true ∧ 
  let t := s.frameIn p f.src
  t.rf .dev 0 0x183 15 0 < f.length ∧ ∃ target, target < 2 ^ 128) ∧
  (∃ (s : State) (p : Port) (f : EthFrame), s.boot.phase ≠ .reset ∧ f.wellFormed = true ∧ f.fcsOk = true ∧ 
  let t := s.frameIn p f.src
  f.length ≤ t.rf .dev 0 0x183 15 0) ∧
  (∃ (t : State) (p : Port) (f : EthFrame), f.dst = t.ownMac) ∧
  (∃ (t : State) (p : Port) (f : EthFrame), f.dst ≠ t.ownMac) ∧
  (∃ (s : State) (mac : Nat), mac < 2 ^ 48) :=
  ⟨⟨dev, .a, ethFrame 5 false, by and_intros <;> decide +kernel⟩,
  ⟨dev, .a, { ethFrame 0xFFFFFFFFFFFF true with length := 65535 }, by and_intros <;> decide +kernel⟩,
  ⟨dev,
    .a,
    { ethFrame 0xFFFFFFFFFFFF true with length := 65535 },
    by
      iterate 4 refine ⟨by decide +kernel, ?_⟩
      exact ⟨0, by decide +kernel⟩⟩,
  ⟨dev,
    .a,
    { ethFrame 0xFFFFFFFFFFFF true with length := 65535 },
    by
      iterate 4 refine ⟨by decide +kernel, ?_⟩
      exact ⟨0, by decide +kernel⟩⟩,
  ⟨dev, .a, ethFrame 0xFFFFFFFFFFFF true, by and_intros <;> decide +kernel⟩,
  ⟨dev, .a, ethFrame dev.ownMac true, by decide +kernel⟩,
  ⟨dev, .a, ethFrame 0xFFFFFFFFFFFF true, by decide +kernel⟩,
  ⟨dev, 2 ^ 48 - 1, by decide +kernel⟩⟩

theorem witness_FramesAndAddressesAct_2 :
  (∃ (s : State) (p : Port) (f : EthFrame) (target : Nat), f.wellFormed = true ∧ target < 2 ^ 32 ∧ 
  let t := (s.frameIn p f.src).forwardOut p f
  (s.frameIn p f.src).tooLong f.length = false ∧ s.boot.phase = .running ∧ t.reaches f.dst = true ∧ t.ip4 ≠ 0 ∧ target = t.ip4) ∧
  (∃ (s : State) (p : Port) (f : EthFrame) (target : Nat), f.wellFormed = true ∧ target < 2 ^ 128 ∧ 
  let t := (s.frameIn p f.src).forwardOut p f
  (s.frameIn p f.src).tooLong f.length = false ∧ s.boot.phase = .running ∧ t.reaches f.dst = true ∧ target = linkLocal t.ownMac) ∧
  (∃ (s : State) (src : Source) (v6 : Bool) (id seq : Nat) (data : List Byte), src.wellFormed = true ∧ id < 65536 ∧ seq < 65536 ∧ data.length ≤ 1472 ∧ 
  let t := s.frameIn src.port src.mac
  t.tooLong (data.length + if v6 then 48 else 28) = false ∧ t.boot.phase = .running ∧ (t.net.echoes.filter fun k => decide (t.clock < k + 10 ^ 9)).length < 100) ∧
  (∃ (s : State) (f : EnumFrame), (s.boot.phase = .running ∨ s.boot.phase = .bootRom) ∧ f.wellFormed = true ∧ f.proto = 0xD5 ∧ f.type = 1 ∧ f.port = .a ∧ 
  let hops := (f.hops + 1) % 256
  
  let t := s.frameIn .a f.src
  
  let u := if t.anySession then t else { t with net := { t.net with position := hops } }
  
  let v := (if u.assigned then u else u.setWide .dev 0 0x180 2 u.ownMac)
  t.tooLong f.bytes.length = false) ∧
  (∃ (s : State) (f : EnumFrame), (s.boot.phase = .running ∨ s.boot.phase = .bootRom) ∧ f.wellFormed = true ∧ f.proto = 0xD5 ∧ f.type = 1 ∧ f.port = .a ∧ 
  let hops := (f.hops + 1) % 256
  
  let t := s.frameIn .a f.src
  
  let u := if t.anySession then t else { t with net := { t.net with position := hops } }
  
  let v := (if u.assigned then u else u.setWide .dev 0 0x180 2 u.ownMac)
  t.tooLong f.bytes.length = false) ∧
  (∃ (s : State) (f : EnumFrame) (status : Nat), (s.boot.phase = .running ∨ s.boot.phase = .bootRom) ∧ f.wellFormed = true ∧ f.proto = 0xD5 ∧ f.type = 3 ∧ 
  let t := s.frameIn f.port f.src
  t.tooLong f.bytes.length = false ∧ f.dst = t.ownMac ∧ f.payload.length = 57 ∧ t.assignStatus f.payload = status ∧ status ≠ 0) ∧
  (∃ (s : State) (f : EnumFrame) (status : Nat), (s.boot.phase = .running ∨ s.boot.phase = .bootRom) ∧ f.wellFormed = true ∧ f.proto = 0xD5 ∧ f.type = 3 ∧ 
  let t := s.frameIn f.port f.src
  t.tooLong f.bytes.length = false ∧ f.dst = t.ownMac ∧ f.payload.length = 57 ∧ t.assignStatus f.payload = status ∧ status = 0 ∧ ∃ pre ip4 len4 ip6 len6 key, assignParts f.payload = (pre, ip4, len4, ip6, len6, key)) :=
  ⟨⟨addressed, .a, ethFrame 0xFFFFFFFFFFFF true, 0x0A000001, by and_intros <;> decide +kernel⟩,
  ⟨dev, .a, ethFrame 0xFFFFFFFFFFFF true, linkLocal dev.ownMac, by and_intros <;> decide +kernel⟩,
  ⟨addressed, sess.src, false, 1, 2, [7], by and_intros <;> decide +kernel⟩,
  ⟨dev, enumFrame 1 [], by and_intros <;> decide +kernel⟩,
  ⟨booting bt, enumFrame 1 [], by and_intros <;> decide +kernel⟩,
  ⟨dev, enumFrame 3 (List.replicate 57 0), 2, by and_intros <;> decide +kernel⟩,
  ⟨booting bt,
    enumFrame 3 ([2] ++ List.replicate 56 0),
    0,
    by
      iterate 9 refine ⟨by decide +kernel, ?_⟩
      exact ⟨0x020000, 0, 0, 0, 0, List.replicate 16 0, by decide +kernel⟩⟩⟩

theorem witness_ImagesAreLoaded_1 :
  (∃ (s : State) (f : EnumFrame), s.boot.phase = .bootRom ∧ f.wellFormed = true ∧ 
  let t := s.frameIn f.port f.src
  
  let id := loadIdOf f.payload
  
  let arg := ofBytes ((f.payload.drop 4).take 4)
  f.proto = 0xD5 ∧ f.dst = t.ownMac ∧ t.tooLong f.bytes.length = false ∧ f.type = 0x10 ∧ f.payload.length = 8 ∧ id ≠ 0 ∧ 512 ≤ arg ∧ arg ≤ 33554432) ∧
  (∃ (s : State) (f : EnumFrame), s.boot.phase = .bootRom ∧ f.wellFormed = true ∧ 
  let t := s.frameIn f.port f.src
  
  let id := loadIdOf f.payload
  
  let arg := ofBytes ((f.payload.drop 4).take 4)
  f.proto = 0xD5 ∧ f.dst = t.ownMac ∧ t.tooLong f.bytes.length = false ∧ t.boot.loadId = some id ∧ t.boot.checking = none ∧ t.boot.accepted = false ∧ f.type = 0x11 ∧ arg % 1024 = 0 ∧ arg < t.boot.imageLen ∧ (f.payload.drop 8).length = min 1024 (t.boot.imageLen - arg)) ∧
  (∃ (s : State) (f : EnumFrame), s.boot.phase = .bootRom ∧ f.wellFormed = true ∧ 
  let t := s.frameIn f.port f.src
  
  let id := loadIdOf f.payload
  f.proto = 0xD5 ∧ f.dst = t.ownMac ∧ t.tooLong f.bytes.length = false ∧ t.boot.loadId = some id ∧ t.boot.checking = none ∧ t.boot.accepted = false ∧ f.type = 0x12 ∧ t.boot.firstMissing < t.boot.imageLen) ∧
  (∃ (s : State) (f : EnumFrame), s.boot.phase = .bootRom ∧ f.wellFormed = true ∧ 
  let t := s.frameIn f.port f.src
  
  let id := loadIdOf f.payload
  f.proto = 0xD5 ∧ f.dst = t.ownMac ∧ t.tooLong f.bytes.length = false ∧ t.boot.loadId = some id ∧ t.boot.checking = none ∧ t.boot.accepted = false ∧ f.type = 0x12 ∧ t.boot.imageLen ≤ t.boot.firstMissing) ∧
  (∃ (s : State) (f : EnumFrame), s.boot.phase = .bootRom ∧ f.wellFormed = true ∧ 
  let t := s.frameIn f.port f.src
  
  let id := loadIdOf f.payload
  f.proto = 0xD5 ∧ f.dst = t.ownMac ∧ t.tooLong f.bytes.length = false ∧ t.boot.loadId = some id ∧ t.boot.checking = none ∧ t.boot.accepted = false ∧ f.type = 0x13) ∧
  (∃ (s : State) (f : EnumFrame), s.boot.phase = .bootRom ∧ f.wellFormed = true ∧ 
  let t := s.frameIn f.port f.src
  
  let id := loadIdOf f.payload
  f.proto = 0xD5 ∧ f.dst = t.ownMac ∧ t.tooLong f.bytes.length = false ∧ t.boot.loadId = some id ∧ t.boot.checking = none ∧ t.boot.accepted = false ∧ f.type = 0x15) ∧
  (∃ (s : State) (f : EnumFrame), s.boot.phase = .bootRom ∧ f.wellFormed = true ∧ 
  let t := s.frameIn f.port f.src
  
  let id := loadIdOf f.payload
  f.proto = 0xD5 ∧ f.dst = t.ownMac ∧ t.tooLong f.bytes.length = false ∧ t.boot.loadId ≠ some id ∧ f.type = 0x13) ∧
  (∃ (s : State) (f : EnumFrame), s.boot.phase = .bootRom ∧ f.wellFormed = true ∧ 
  let t := s.frameIn f.port f.src
  
  let id := loadIdOf f.payload
  f.proto = 0xD5 ∧ f.dst = t.ownMac ∧ t.tooLong f.bytes.length = false ∧ t.boot.loadId ≠ some id ∧ f.type = 0x15) :=
  ⟨⟨booting bt, enumFrame 0x10 [0, 1, 0, 0, 0, 0, 2, 0], by and_intros <;> decide +kernel⟩,
  ⟨loading 4, enumFrame 0x11 [0, 1, 0, 0, 0, 0, 0, 0, 1, 2, 3, 4], by and_intros <;> decide +kernel⟩,
  ⟨loading 4, loadFrame 0x12, by and_intros <;> decide +kernel⟩,
  ⟨loading 0, loadFrame 0x12, by and_intros <;> decide +kernel⟩,
  ⟨loading 4, loadFrame 0x13, by and_intros <;> decide +kernel⟩,
  ⟨loading 4, loadFrame 0x15, by and_intros <;> decide +kernel⟩,
  ⟨booting bt, loadFrame 0x13, by and_intros <;> decide +kernel⟩,
  ⟨booting bt, loadFrame 0x15, by and_intros <;> decide +kernel⟩⟩

theorem witness_ImagesAreLoaded_2 :
  (∃ (s : State) (f : EnumFrame), s.boot.phase = .bootRom ∧ f.wellFormed = true ∧ 
  let t := s.frameIn f.port f.src
  f.proto = 0xD5 ∧ f.dst = t.ownMac ∧ t.tooLong f.bytes.length = false ∧ ∃ from', s.boot.checking = some from' ∧ s.boot.accepted = false ∧ checkImage s.boot.bytes ≠ 0) :=
  ⟨checked false,
    loadFrame 0x15,
    by
      iterate 5 refine ⟨by decide +kernel, ?_⟩
      exact ⟨⟨.b, 5, none⟩, by and_intros <;> decide +kernel⟩⟩

theorem witness_BootAndPowerAct :
  (∃ (s : State) (from' : Peer), s.boot.phase = .bootRom ∧ s.boot.accepted = true ∧ s.boot.checking = some from') ∧
  (∃ (s : State) (from' : Peer), s.boot.phase = .bootRom ∧ s.boot.accepted = true ∧ s.boot.checking = some from' ∧ ∃ o n f w, o ≠ Obj.dev ∧ o ≠ .bank ∧ o ≠ .port ∧ (o = .chan → f ≠ 0x52) ∧ (o = .engine → f ≠ 0) ∧ n < 65536 ∧ f < 65536 ∧ w < 16) ∧
  (∃ (s : State), s.boot.phase = .reset) ∧
  (∃ (s : State) (low : Nat), 1000 ≤ low) ∧
  (∃ (s : State) (low : Nat), 1000 ≤ low ∧ s.regsCanonical ∧ ∃ n, n < 65536) ∧
  (∃ (s : State) (low : Nat), 1000 ≤ low ∧ ∃ o n f w, o ≠ Obj.journal ∧ (o = .engine → f ≠ 0) ∧ n < 65536 ∧ f < 65536 ∧ w < 16) ∧
  (∃ (s : State), s.boot.phase = .running) :=
  ⟨⟨checked true, ⟨.b, 5, none⟩, by and_intros <;> decide +kernel⟩,
  ⟨checked true,
    ⟨.b, 5, none⟩,
    by
      iterate 3 refine ⟨by decide +kernel, ?_⟩
      exact ⟨.chan, 511, 0, 0, by and_intros <;> decide +kernel⟩⟩,
  ⟨{ dev with boot := { dev.boot with phase := .reset } }, by decide +kernel⟩,
  ⟨dev, 1000, by decide +kernel⟩,
  ⟨dev, 1000, by decide +kernel, by decide +kernel, 63, by decide +kernel⟩,
  ⟨dev, 1000, by decide +kernel, .chan, 511, 0, 0, by and_intros <;> decide +kernel⟩,
  ⟨dev, by decide +kernel⟩⟩

theorem witness_ResamplerKeepsItsPhase :
  (∃ (s : State) (c : Nat), s.boot.phase = .running ∧ c < 512 ∧ (s.seqx (.chan c)).phaseAt ≤ s.now) ∧
  (∃ (s : State) (c : Nat), s.boot.phase = .running ∧ c < 512 ∧ (s.seqx (.chan c)).phaseAt ≤ s.now ∧ 
  let x := s.seqx (.chan c)
  2 ^ 60 ≤ s.phaseNow c ∧ (s.run (.chan c) = 1 ∨ s.run (.chan c) = 2 ∨ s.run (.chan c) = 3) ∧ x.exec = false ∧ x.atEnd = false) ∧
  (∃ (s : State) (c : Nat), s.boot.phase = .running ∧ c < 512 ∧ (s.seqx (.chan c)).phaseAt ≤ s.now ∧ s.phaseNow c < 2 ^ 60) :=
  ⟨⟨dev, 511, by and_intros <;> decide +kernel⟩,
  ⟨seqAt dev q511 1 0 { sq with phase := 2 ^ 60 }, 511, by and_intros <;> decide +kernel⟩,
  ⟨dev, 511, by and_intros <;> decide +kernel⟩⟩

theorem witness_RoutesDivideTheirFirings :
  (∃ (s : State) (i cyc r : Nat), s.regsCanonical ∧ r < 1024 ∧ (s.enabledRoutes.filter fun q => s.routeSrc q == i) = [r] ∧ s.rearming i cyc = false ∧ s.gatePasses r cyc = true ∧ (∀ q ∈ s.enabledRoutes, s.gateMode q = 3 → s.rf .route q 2 31 16 ≠ i) ∧ 
  let count := s.rf .route r 0x20 15 0 + 1
  
  let n := s.rf .route r 4 15 0
  n < 65536 ∧ count < 65536 ∧ n ≤ count) ∧
  (∃ (s : State) (i cyc r : Nat), s.regsCanonical ∧ r < 1024 ∧ (s.enabledRoutes.filter fun q => s.routeSrc q == i) = [r] ∧ s.rearming i cyc = false ∧ s.gatePasses r cyc = true ∧ (∀ q ∈ s.enabledRoutes, s.gateMode q = 3 → s.rf .route q 2 31 16 ≠ i) ∧ 
  let count := s.rf .route r 0x20 15 0 + 1
  
  let n := s.rf .route r 4 15 0
  n < 65536 ∧ count < 65536 ∧ count < n) :=
  ⟨⟨field routed .route 1023 0x20 1, mkId 1 15, 9, 1023, by and_intros <;> decide +kernel⟩,
  ⟨routed, mkId 1 15, 9, 1023, by and_intros <;> decide +kernel⟩⟩

theorem witness_ReclaimTakesOrphanedLocks :
  (∃ (s : State) (e : Envelope) (n : Nat) (x : Session) (o : Obj) (k : Nat) (w ms : Word), 
  let r : Req := ⟨.lockReclaim, e, [w, ms]⟩
  
  let a := s.admitted r n x
  InOrder s r n x ∧ o ∈ [Obj.chan, .seq, .bseq] ∧ objOfCode (fld w 31 24) = some o ∧ fld w 23 16 = 0 ∧ fld w 15 0 = k ∧ k < objCount o ∧ 1 ≤ ms.toNat ∧ ms.toNat ≤ 60000 ∧ ∃ i l, a.lockOn o k = some (i, l) ∧ l.leased a.clock = false) ∧
  (∃ (s : State) (e : Envelope) (n : Nat) (x : Session) (o : Obj) (k : Nat) (w ms : Word), 
  let r : Req := ⟨.lockReclaim, e, [w, ms]⟩
  
  let a := s.admitted r n x
  InOrder s r n x ∧ o ∈ [Obj.chan, .seq, .bseq] ∧ objOfCode (fld w 31 24) = some o ∧ fld w 23 16 = 0 ∧ fld w 15 0 = k ∧ k < objCount o ∧ 1 ≤ ms.toNat ∧ ms.toNat ≤ 60000 ∧ (∀ i l, a.lockOn o k = some (i, l) → l.leased a.clock = true)) :=
  ⟨⟨locked none,
    env .lockReclaim [0x100001FF, 60000],
    1,
    sess,
    .chan,
    511,
    0x100001FF,
    60000,
    inOrder_env (by decide +kernel),
    by
      iterate 7 refine ⟨by decide +kernel, ?_⟩
      exact ⟨0, ⟨.chan, 511, 0x1001, none⟩, by and_intros <;> decide +kernel⟩⟩,
  ⟨locked (some 5),
    env .lockReclaim [0x100001FF, 60000],
    1,
    sess,
    .chan,
    511,
    0x100001FF,
    60000,
    inOrder_env (by decide +kernel),
    by
      iterate 7 refine ⟨by decide +kernel, ?_⟩
      exact fun i l h => by have h : some (0, (⟨.chan, 511, 0x1001, some 5⟩ : Lock)) = some (i, l) := h; simp only [Option.some.injEq, Prod.mk.injEq] at h; obtain ⟨_, rfl⟩ := h; decide +kernel⟩⟩

theorem witness_ItemsEncodeAndParse :
  (∃ (items : List Item), 1 ≤ items.length ∧ items.length ≤ 256 ∧ (∀ i ∈ items, i.obj < 256 ∧ i.reserved < 128 ∧ i.inst < 65536 ∧ i.field < 65536 ∧ i.count = i.data.length ∧ i.count < 65536)) ∧
  (∃ (n : Nat) (l : List Word) (items : List Item), parseItems true n l = some items) :=
  ⟨⟨[keyItem], by decide +kernel, by decide +kernel, fun i hi => by obtain rfl := List.mem_singleton.mp hi; decide⟩,
  ⟨1, encodeItems [keyItem], [keyItem], by decide +kernel⟩⟩

theorem witness_EveryStepKeepsTheWordFileCanonical :
  (∃ (s t : State), s.regsCanonical ∧ step s = .next t) :=
  ⟨State.reset, State.reset, by decide +kernel, by first | decide +kernel | rfl⟩

theorem witness_QueriesChangeOnlyTheirSession :
  (∃ (s t : State) (e : Envelope) (o : Nat) (body : List Word) (i : Instr), i ∈ [Instr.objRead e o body, .sessionPing e body, .devCaps e body, .devCalInfo e body, .routeSinkRead e body, .arbRead e body] ∧ (∀ y ∈ s.host.sessions, y.2.held = []) ∧ exec i s = .next t) :=
  ⟨dev, after (exec ping dev), env .sessionPing [], 0, [], ping, by simp [ping], by decide +kernel, by exact next_of _ (by decide +kernel)⟩

theorem witness_ChannelEventsTouchOnlyTheirChannel :
  (∃ (s t : State) (c : Nat) (i : Instr), i ∈ [Instr.predictionHold c, .outerUpdate c, .thermSrcLost c, .repetBinEnd c, .supvPhaseEnd c, .upRange c true, .upRange c false, .downRange c true, .downRange c false, .pairsTakeEffect c, .rampStart c] ∧ exec i s = .next t) ∧
  (∃ (s t : State) (c : Nat) (i : Instr), i ∈ [Instr.predictionHold c, .outerUpdate c, .thermSrcLost c, .repetBinEnd c, .supvPhaseEnd c, .upRange c true, .upRange c false, .downRange c true, .downRange c false, .pairsTakeEffect c, .rampStart c] ∧ exec i s = .next t ∧ ∃ d, d ≠ c) ∧
  (∃ (s t : State) (c : Nat) (i : Instr), i ∈ [Instr.predictionHold c, .outerUpdate c, .thermSrcLost c, .repetBinEnd c, .supvPhaseEnd c, .upRange c true, .upRange c false, .downRange c true, .downRange c false, .pairsTakeEffect c, .rampStart c] ∧ exec i s = .next t ∧ (i = .thermSrcLost c → s.rb .spool 0 0 24 = false)) ∧
  (∃ (s t : State) (c : Nat) (i : Instr), i ∈ [Instr.predictionHold c, .outerUpdate c, .thermSrcLost c, .repetBinEnd c, .supvPhaseEnd c, .upRange c true, .upRange c false, .downRange c true, .downRange c false, .pairsTakeEffect c, .rampStart c] ∧ exec i s = .next t ∧ (i = .thermSrcLost c → s.rb .spool 0 0 24 = false) ∧ ∃ o n f w, (o ∈ [Obj.chan, .profile, .outer, .repet, .loop] → n ≠ c) ∧ o ≠ .port ∧ o ≠ .dev ∧ n < 65536 ∧ f < 65536 ∧ w < 16) :=
  ⟨⟨chanAt dev 4 { ch with predRun := 100 },
    after (exec (.predictionHold 511) (chanAt dev 4 { ch with predRun := 100 })),
    511,
    .predictionHold 511,
    by simp,
    by exact next_of _ (by decide +kernel)⟩,
  ⟨chanAt dev 4 { ch with predRun := 100 },
    after (exec (.predictionHold 511) (chanAt dev 4 { ch with predRun := 100 })),
    511,
    .predictionHold 511,
    by simp,
    by exact next_of _ (by decide +kernel),
    510,
    by decide +kernel⟩,
  ⟨chanAt dev 4 { ch with predRun := 100 },
    after (exec (.predictionHold 511) (chanAt dev 4 { ch with predRun := 100 })),
    511,
    .predictionHold 511,
    by simp,
    by exact next_of _ (by decide +kernel),
    (fun h => by cases h)⟩,
  ⟨chanAt dev 4 { ch with predRun := 100 },
    after (exec (.predictionHold 511) (chanAt dev 4 { ch with predRun := 100 })),
    511,
    .predictionHold 511,
    by simp,
    by exact next_of _ (by decide +kernel),
    (fun h => by cases h),
    .chan,
    510,
    0,
    0,
    by and_intros <;> decide +kernel⟩⟩

/-! ## Every check of WellFormed refuses a term that fails it -/

theorem test_refused_sender : (Instr.sessionPing { bare [] with udpLength := 65536 } []).wellFormed = false ∧
    (Instr.sessionPing { bare [] with tail := [0, 0, 0, 0] } []).wellFormed = false ∧
    (Instr.sessionPing { bare [] with src := { sess.src with mac := 2 ^ 48 } } []).wellFormed = false ∧
    (Instr.sessionPing { bare [] with src := { sess.src with udp := 65536 } } []).wellFormed = false ∧
    (Instr.sessionPing { bare [] with src := { sess.src with vlan := some 4096 } } []).wellFormed = false := by decide

theorem test_refused_host_operand : (Instr.objRead (bare []) 256 []).wellFormed = false ∧
    (Instr.expand (bare []) 65536).wellFormed = false ∧ (Instr.aoutLevel (bare []) 65536 0).wellFormed = false ∧
    (Instr.curfew (bare []) 511 65536 0).wellFormed = false ∧ (Instr.spoolSize (bare []) 128 0).wellFormed = false := by decide

theorem test_refused_sequencer : (Instr.halt false 512).wellFormed = false ∧ (Instr.halt true 8).wellFormed = false ∧
    (Instr.tset 8).wellFormed = false ∧ (Instr.rate 512).wellFormed = false ∧
    (Instr.pinResultCredit 7 0 64 ⟨none, 0, none⟩).wellFormed = false ∧
    (Instr.granuleFetch false 511 0 [2304] []).wellFormed = false ∧ (Instr.granuleFetch true 7 0 [] [2304]).wellFormed = false ∧
    (Instr.granuleFetch false 511 0 [] [0]).wellFormed = false ∧ (Instr.regenerationDone 0 [2080]).wellFormed = false ∧
    (Instr.expansionDone 8192 ⟨false, []⟩).wellFormed = false ∧ (Instr.expansionDone 0 ⟨false, [(0, [2080])]⟩).wellFormed = false := by
  decide

theorem test_refused_channel : (Instr.crossTime 512).wellFormed = false ∧ (Instr.correctionEval 8 []).wellFormed = false ∧
    (Instr.correctionEval 7 [(65536, [])]).wellFormed = false ∧ (Instr.correctionEval 7 [(0, [2 ^ 19])]).wellFormed = false ∧
    (Instr.loopUpdate 511 (some ⟨4, 0, 0⟩) 0 none .good .ok).wellFormed = false ∧
    (Instr.loopUpdate 511 none 0 none .good (.toLink 16)).wellFormed = false ∧
    (Instr.lateResult 511 16).wellFormed = false ∧ (Instr.heldFrame 511 none 0 16).wellFormed = false := by decide

theorem test_refused_device : (Instr.engineFrame 72 true).wellFormed = false ∧ (Instr.failover 64 true).wellFormed = false ∧
    (Instr.sramScrub ⟨[65536], [], [], []⟩).wellFormed = false ∧ (Instr.sramScrub ⟨[], [13], [], []⟩).wellFormed = false ∧
    (Instr.sramScrub ⟨[], [], [15], []⟩).wellFormed = false ∧ (Instr.sramScrub ⟨[], [], [], [(true, 8, 0)]⟩).wellFormed = false ∧
    (Instr.firmwareRegionViolation 4096).wellFormed = false ∧
    (Instr.quadReturn 9 0).wellFormed = false ∧ (Instr.leaseExpiry 1024).wellFormed = false ∧
    (Instr.hkUrgentActivation 32 0).wellFormed = false ∧ (Instr.sessionTimeout 0).wellFormed = false ∧
    (Instr.sessionTimeout 17).wellFormed = false ∧ (Instr.dieTempMeasure 65536).wellFormed = false := by decide

theorem test_refused_event : (Instr.trigPulseEnd 16 0).wellFormed = false ∧ (Instr.syncEventFire 8).wellFormed = false ∧
    (Instr.patternFire 16 0).wellFormed = false ∧ (Instr.flushTime 512).wellFormed = false ∧
    (Instr.packetToRing 9 0 .ok).wellFormed = false ∧ (Instr.egressDatagram [[8192]]).wellFormed = false ∧
    (Instr.journalTake [8192]).wellFormed = false ∧ (Instr.journalScanDone [⟨0, [], List.replicate 4097 0⟩]).wellFormed = false := by decide +kernel

theorem test_refused_network : (Instr.addressAgeOut (2 ^ 48)).wellFormed = false ∧
    (Instr.frameForward .a { ethFrame 0 true with etherType := 65536 }).wellFormed = false ∧
    (Instr.ringRestore { enumFrame 0x21 [] with bytes := [0xD5] }).wellFormed = false ∧
    (Instr.ptpMessage .a (ptpFrame 0) { ptpMsg .sync with seq := 65536 } 0 0).wellFormed = false ∧
    (Instr.ptpMessage .a (ptpFrame 0) { ptpMsg .sync with priority := 256 } 0 0).wellFormed = false ∧
    (Instr.arpRequest .a (ethFrame 0 true) (2 ^ 32)).wellFormed = false ∧
    (Instr.echoRequest sess.src false 65536 0 []).wellFormed = false ∧
    (Instr.pauseFrame .a 65536).wellFormed = false := by decide

theorem test_refused_faults : exec (.crossTime 512) dev = .fault .illFormed := rfl

/-! ## Worked examples and check values -/

/-- The check value of CRC-32 over the digits 1 to 9. -/
theorem test_crc32 : crc32 [0x31, 0x32, 0x33, 0x34, 0x35, 0x36, 0x37, 0x38, 0x39] = 0xCBF43926 := by decide +kernel

/-- RFC 4231, test case 2, first eight bytes. -/
theorem test_hmac : (hmacSha256 [0x4A, 0x65, 0x66, 0x65] ("what do ya want for nothing?".toList.map fun c => BitVec.ofNat 8 c.toNat)).take 8 =
    [0x5B, 0xDC, 0xC1, 0x46, 0xBF, 0x60, 0x75, 0x4E] := by decide +kernel

/-- The crossing of 5.0 V between 4.70 V and 5.90 V lies 25 ns after the first sample (example after R380). -/
theorem test_crossing : crossTime 0x40A00000 0x40966666 0x40BCCCCD 0 12800 = 3200 := by decide +kernel

/-- Channel 300: octet 37, bank 4, spare 68; sequencer identifiers (examples of "Scope" and "Device organisation"). -/
theorem test_numbering : octetOf 300 = 37 ∧ bankOf 300 = 4 ∧ SeqRef.master (.chan 300) = 0x312C ∧
    SeqRef.master (.bank 5) = 0x4005 ∧ mkId 6 722 = 0x62D2 := by decide +kernel

/-- REPET CFG 0x9C21880A gives 1,250 bins (example of "Repetitive control"). -/
theorem test_bins : (field dev .repet 511 0 0x9C21880A).nBin 511 = 1250 := by decide +kernel

/-- 64 groups of 16 words of LOOP: 4 µs + 4 ns for each word + 0.5 µs for each group, here 1,024 words in all (R48, worked example of
"Host mailbox"). -/
theorem test_commit_lead : commitLead (List.replicate 64 ⟨⟨.loop, 0, 0⟩, 1, List.replicate 16 ⟨0, 0, 0⟩⟩) = 40096 ∧
    State.leadEnds { dev with commits := { dev.commits with pathBusy := 5000120000 } } 0 40096 = 5000160096 ∧
    nextMultiple 100 5000160096 = 5000160100 := by decide +kernel

/-! ## Results of single commands -/

def sentOf (o : Host.Outcome State Fault Refusal) : Option Session := (after o).session 1

theorem test_ping_advances : (sentOf (exec ping dev)).map Session.next = some 2 := by decide +kernel

theorem test_close_closes : sentOf (exec (.sessionClose (env .sessionClose []) []) dev) = none := by decide +kernel

theorem test_timeout_closes : sentOf (exec (.sessionTimeout 1) (late dev)) = none := by decide +kernel

theorem test_lock_orphaned : (after (exec (.leaseExpiry 0) (locked (some 0)))).faults.locks.map (fun e => e.2.leaseEnds) = [none] := by
  decide +kernel

theorem test_halt_idles : (after (exec (.halt false 511) (executing q511 0))).run q511 = 6 := by decide +kernel

theorem test_jump_goes : (after (exec (.jump false 511) (executing q511 0x08010900))).pc q511 = 9 := by decide +kernel

theorem test_trip_trips :
    (after (exec (.protectionTrip 511) (chanAt dev 4 { ch with overRuns := [10 ^ 6, 0, 0, 0, 0] }))).chState 511 = 7 := by decide +kernel

theorem test_release_frees :
    (after (exec (.lockRelease (env .lockRelease [0x100001FF]) [0x100001FF]) (locked (some 5)))).faults.locks = [] := by decide +kernel

theorem test_holdoff_returns : (after (exec (.acqHoldoffEnd 511) (field dev .acq 511 0x20 0x30000000))).acqState 511 = 1 := by
  decide +kernel

theorem test_pause_pauses : (after (exec (.pauseFrame .b 65535) dev)).paused .b = true := by decide +kernel

theorem test_divider_counts : (after (exec (.trigInputEdge 15 true 8 640) (field routed .trigpin 15 0 0x20000000))).rf .route 1023 0x20 15 0 ≤ 1 := by
  decide +kernel

theorem test_idle_step : step State.reset = .next State.reset := rfl

end Sys2Proof.Tests
end

section
/-!
PROOFS. 01_organisation: requests in order, DISCARD and OBJ_STAGE.
-/

namespace Sys2Proof.Organisation

open Sys2Proof Sys2Proof.Machine

/-! ## Requests and their answers -/

/-- A command that can be given has its effect. -/
theorem whenFormed_wellFormed {i : Instr} {s : State} {f : State → State} (h : i.wellFormed = true) : whenFormed i s f = .next (f s) := by
  simp [whenFormed, h]

/-- A request that can be given is received. -/
theorem exec_request {i : Instr} {s : State} {r : Req} (hi : exec i s = whenFormed i s fun s => s.receive handle r)
    (hwf : i.wellFormed = true) : exec i s = .next (s.receive handle r) := by
  rw [hi, whenFormed_wellFormed hwf]

/-- A command whose request is in order, and whose work is done, is answered. -/
theorem exec_answered {i : Instr} {s : State} {r : Req} {n : Nat} {x : Session} {d : Done}
    (hi : exec i s = whenFormed i s fun s => s.receive handle r) (hwf : i.wellFormed = true) (h : InOrder s r n x)
    (hd : handle r (s.admitted r n x) = .ok d) (hl : d.later = false) (hfit : d.body.length ≤ 246) :
    exec i s = .next (s.answered r n x d) := by
  have hroom := h.room
  rw [exec_request hi hwf, receive_answered h hd hl (by omega)]

theorem checkAll_ok {α : Type} {l : List α} {f : α → Except Denial Unit} (h : ∀ a ∈ l, f a = .ok ()) : checkAll l f = .ok () := by
  induction l with
  | nil => rfl
  | cons a l ih =>
    rw [checkAll, h a (List.mem_cons_self ..)]
    exact ih fun b hb => h b (List.mem_cons_of_mem _ hb)

theorem checkItems_ok {α : Type} {l : List α} {f : α → Except Denial Unit} (h : ∀ a ∈ l, f a = .ok ()) : checkItems l f = .ok () := by
  refine checkAll_ok fun p hp => ?_
  rw [h p.1 (List.fst_mem_of_mem_zipIdx hp), ofItem]

/-! ## Discard -/

theorem groupsStaged_ok {s : State} {n : Nat} {groups : List GroupRef}
    (h : ∀ g ∈ groups, ∃ b, s.buffer g = some b ∧ b.owner = n) : s.groupsStaged n groups = .ok () := by
  refine checkItems_ok fun g hg => ?_
  obtain ⟨b, hb, rfl⟩ := h g hg
  simp [hb, demand]

/-- DISCARD of groups that the session has staged works, and empties their buffers (R37). -/
theorem discardGroups_ok {a : State} {r : Req} {groups : List GroupRef} (hg : groupsOf r.body = .ok groups)
    (h : ∀ g ∈ groups, ∃ b, a.buffer g = some b ∧ b.owner = r.env.session.toNat) :
    discardGroups a r = .ok { state := { a with commits := { a.commits with
      staging := a.commits.staging.filter fun b => !groups.contains b.ref } } } := by
  simp only [discardGroups, hg, groupsStaged_ok h, bind, Except.bind, pure, Except.pure]

/-- Settles O13: the groups parse and are staged by the session, so DISCARD does its work and is answered. -/
theorem discardEmptiesTheBuffers : Obligations.DiscardEmptiesTheBuffers := by
  intro s e n x body groups r a h hg hb
  exact exec_answered rfl h.formed h (discardGroups_ok hg (h.number ▸ hb)) rfl (by simp)

/-! ## Staging buffers -/

/-- A word put into a list is the only one of its place there (R34). -/
theorem eq_of_mem_putWord {l : List FieldWord} {v y : FieldWord} (h : y ∈ putWord l v) (hf : y.field = v.field) (hi : y.idx = v.idx) :
    y = v := by
  unfold putWord at h
  split at h
  · obtain ⟨z, -, hz⟩ := List.mem_map.1 h
    split at hz
    · exact hz.symm
    · next hne => subst hz; simp [hf, hi] at hne
  · next hnone =>
    rcases List.mem_append.1 h with hy | hy
    · exact absurd (List.any_eq_true.2 ⟨y, hy, by simp [hf, hi]⟩) hnone
    · exact List.mem_singleton.1 hy

theorem mem_putWord (l : List FieldWord) (v : FieldWord) : v ∈ putWord l v := by
  unfold putWord
  split
  · next hany =>
    obtain ⟨z, hz, he⟩ := List.any_eq_true.1 hany
    exact List.mem_map.2 ⟨z, hz, if_pos he⟩
  · exact List.mem_append_right _ (List.mem_singleton_self v)

/-- A staging buffer into which words of group g are put, if it is that group's. -/
def fill (g : GroupRef) (ws : List FieldWord) (b : Staging) : Staging :=
  if b.ref == g then { b with words := ws.foldl putWord b.words } else b

/-- Putting words into the buffers of a group renames none. -/
theorem find_fill (l : List Staging) (g k : GroupRef) (ws : List FieldWord) :
    (l.map (fill g ws)).find? (fun b => b.ref == k) = (l.find? fun b => b.ref == k).map (fill g ws) := by
  have href (b : Staging) : (fill g ws b).ref = b.ref := by unfold fill; split <;> rfl
  rw [List.find?_map]
  congr 2
  funext b
  rw [Function.comp_apply, href]

/-- Words staged for a group that has a buffer fill it (R34). -/
theorem buffer_stageWords {s : State} {g k : GroupRef} {b : Staging} (n : Nat) (ws : List FieldWord) (h : s.buffer g = some b) :
    (s.stageWords n g ws).buffer k = (s.buffer k).map (fill g ws) := by
  simp only [State.stageWords, h]
  exact find_fill ..

theorem buffer_ref {s : State} {g : GroupRef} {b : Staging} (h : s.buffer g = some b) : b.ref = g := by
  simpa using List.find?_some h

/-- The first words staged for a group make its buffer, which the session owns (R35). -/
theorem buffer_stageWords_new {s : State} {g : GroupRef} (n : Nat) (ws : List FieldWord) (h : s.buffer g = none) :
    (s.stageWords n g ws).buffer g = some ⟨g, n, ws.foldl putWord []⟩ := by
  simp only [State.stageWords, h]
  rw [State.buffer] at h ⊢
  simp [h]

/-- Further words staged for a group join its buffer, which keeps its owner (R34, R35). -/
theorem buffer_stageWords_more {s : State} {g : GroupRef} {b : Staging} (n : Nat) (ws : List FieldWord) (h : s.buffer g = some b) :
    (s.stageWords n g ws).buffer g = some { b with words := ws.foldl putWord b.words } := by
  rw [buffer_stageWords n ws h, h, Option.map_some, fill, if_pos (beq_iff_eq.2 (buffer_ref h))]

theorem buffer_stageWords_other {s : State} {g k : GroupRef} (n : Nat) (ws : List FieldWord) (hk : k ≠ g) :
    (s.stageWords n g ws).buffer k = s.buffer k := by
  cases h : s.buffer g with
  | none =>
    simp only [State.stageWords, h]
    simp [State.buffer, hk.symm]
  | some b =>
    rw [buffer_stageWords n ws h]
    cases hb : s.buffer k with
    | none => rfl
    | some c => simp [fill, buffer_ref hb, hk]

/-- Items that parse and pass the checks of a staging request are staged one after the other (R34). -/
theorem stageFields_ok {a : State} {r : Req} {o : Obj} {items : List Item} {parts : List (GroupRef × List FieldWord)}
    (hi : itemsOf true r.body = .ok items) (hp : a.formStages r (objCode o) 0 items = .ok parts) :
    stageFields (objCode o) a r =
      .ok { state := parts.foldl (fun t p => t.stageWords r.env.session.toNat p.1 p.2) a } := by
  simp [stageFields, objOfCode_objCode, require, demand, hi, hp, bind, Except.bind, pure, Except.pure, State.each]

/-- Settles O11: a staging request that passes its checks folds stageWords over its parts, and stageWords puts a word into the one
buffer of its group. -/
theorem stagingFillsTheBuffers : Obligations.StagingFillsTheBuffers := by
  refine ⟨?_, fun s n g v => ⟨?_, fun k hk => buffer_stageWords_other n [v] hk⟩⟩
  · intro s e n x o body items parts r a h hi hp
    have hd := stageFields_ok (a := a) (r := r) hi hp
    rw [h.number] at hd
    exact exec_answered rfl (by simp [Instr.wellFormed, show e.wellFormed = true from h.formed, objCode_lt]) h hd rfl (by simp)
  · cases hb : s.buffer g with
    | none =>
      exact ⟨_, buffer_stageWords_new n [v] hb, mem_putWord [] v, fun y hy => eq_of_mem_putWord (l := []) hy, fun _ => rfl, by simp⟩
    | some b =>
      exact ⟨_, buffer_stageWords_more n [v] hb, mem_putWord b.words v, fun y hy => eq_of_mem_putWord (l := b.words) hy, by simp,
        by simp⟩

end Sys2Proof.Organisation
end

section
/-!
PROOFS. 01_organisation: GROUP_APPLY and the words of a ticket.
-/

namespace Sys2Proof.Organisation

open Sys2Proof Sys2Proof.Machine

/-! ## Frames without another happening -/

/-- Counting the clamped outputs of a sequencer writes its counter or nothing (R270). -/
theorem countClamps_eq (s : State) (c n : Nat) : s.countClamps c n = s ∨ ∃ k, s.countClamps c n = s.countBy .seq c 0x64 k := by
  unfold State.countClamps
  split
  · exact .inl rfl
  · dsimp only
    generalize (if s.rf .seq c 0 31 30 = 0 then _ else _ : Nat) = k
    split
    · exact .inl rfl
    · exact .inr ⟨k, rfl⟩

theorem countClamps_clock (s : State) (c n : Nat) : (s.countClamps c n).clock = s.clock := by
  rcases countClamps_eq s c n with h | ⟨k, h⟩
  · rw [h]
  · rw [h, State.countBy_clock]

theorem countClamps_now (s : State) (c n : Nat) : (s.countClamps c n).now = s.now := by
  rcases countClamps_eq s c n with h | ⟨k, h⟩
  · rw [h]
  · rw [h, State.countBy_now]

/-- What every operation of a list keeps, the list keeps. -/
theorem foldl_keeps {σ α β : Type} (p : σ → β) {f : σ → α → σ} (hf : ∀ s a, p (f s a) = p s) (l : List α) (s : σ) :
    p (l.foldl f s) = p s := by
  induction l generalizing s with
  | nil => rfl
  | cons a l ih => rw [List.foldl_cons, ih, hf]

/-- What no operation of a list changes, the list leaves as it is. -/
theorem foldl_skips {σ α : Type} {f : σ → α → σ} {l : List α} (hf : ∀ a ∈ l, ∀ s, f s a = s) (s : σ) : l.foldl f s = s := by
  induction l with
  | nil => rfl
  | cons a l ih =>
    rw [List.foldl_cons, hf a (List.mem_cons_self ..)]
    exact ih fun b hb => hf b (List.mem_cons_of_mem _ hb)

theorem framesPass_clock (s : State) (n : Nat) : (s.framesPass n).clock = s.clock :=
  foldl_keeps State.clock (fun s c => countClamps_clock s c n) _ s

theorem framesPass_now (s : State) (n : Nat) : (s.framesPass n).now = s.now :=
  foldl_keeps State.now (fun s c => countClamps_now s c n) _ s

/-! ## Boundaries -/

/-- Where nothing is due before boundary t and time does not jump, GROUP_APPLY up to t is that one boundary (R30). -/
theorem groupApply_one {s : State} {t : Nat} (hr : s.boot.phase = .running) (h100 : t % 100 = 0) (hnow : s.now < t)
    (hspan : t ≤ timeSpan) (hj : s.timeJumps = false) (hdue : s.nextDue t = t) : s.groupApply t = s.applyBoundary t := by
  simp [State.groupApply, Nat.min_eq_left hspan, h100, Nat.not_le.2 hnow, hr, hj, State.advanceTo, hdue]

theorem exec_groupApply (t : Nat) (s : State) : exec (.groupApply t) s = .next (s.groupApply t) :=
  whenFormed_wellFormed (i := .groupApply t) (f := fun s => s.groupApply t) rfl

/-! ## The words of a ticket -/

/-- One staged word in its place. -/
def placeWord (s : State) (p : GroupRef × FieldWord) : State := s.setRegAt p.1.obj p.1.inst p.2.field p.2.idx p.2.value

/-- The place of a staged word in the word file. -/
def placeOf (p : GroupRef × FieldWord) : Obj × Nat × Nat × Nat := (p.1.obj, p.1.inst, p.2.field, p.2.idx)

/-- The place lies within the spans that regKey keeps apart. -/
def InSpan (p : GroupRef × FieldWord) : Prop := p.1.inst < 65536 ∧ p.2.field < 65536 ∧ p.2.idx < 16

/-- The staged words of shadow copies, in the order in which they are applied. -/
def wordsOfShadows (l : List Shadow) : List (GroupRef × FieldWord) := l.flatMap fun k => k.words.map fun w => (k.ref, w)

theorem foldl_writeGroup (l : List Shadow) (s : State) :
    l.foldl (fun s k => s.writeGroup k.ref k.words) s = (wordsOfShadows l).foldl placeWord s := by
  simp only [wordsOfShadows, List.foldl_flatMap, List.foldl_map]
  rfl

theorem regAt_placeWord_other {s : State} {p q : GroupRef × FieldWord} (hp : InSpan p) (hq : InSpan q) (h : placeOf q ≠ placeOf p) :
    (placeWord s p).regAt q.1.obj q.1.inst q.2.field q.2.idx = s.regAt q.1.obj q.1.inst q.2.field q.2.idx := by
  obtain ⟨hpi, hpf, hpw⟩ := hp
  obtain ⟨hqi, hqf, hqw⟩ := hq
  refine regAt_setRegAt_other _ _ _ _ _ _ _ _ _ _ fun e => h ?_
  obtain ⟨ho, hi, hf, hw⟩ := regKey_inj hqi hpi hqf hpf hqw hpw e
  simp [placeOf, ho, hi, hf, hw]

theorem regAt_foldl_placeWord_other {l : List (GroupRef × FieldWord)} {q : GroupRef × FieldWord} (hl : ∀ p ∈ l, InSpan p)
    (hq : InSpan q) (hne : placeOf q ∉ l.map placeOf) (s : State) :
    (l.foldl placeWord s).regAt q.1.obj q.1.inst q.2.field q.2.idx = s.regAt q.1.obj q.1.inst q.2.field q.2.idx := by
  induction l generalizing s with
  | nil => rfl
  | cons p l ih =>
    simp only [List.map_cons, List.mem_cons, not_or] at hne
    rw [List.foldl_cons, ih (fun r hr => hl r (List.mem_cons_of_mem _ hr)) hne.2,
      regAt_placeWord_other (hl p (List.mem_cons_self ..)) hq hne.1]

/-- Words for distinct places all stand where they were put. -/
theorem regAt_foldl_placeWord {l : List (GroupRef × FieldWord)} (hl : ∀ p ∈ l, InSpan p) (hd : (l.map placeOf).Nodup) {s : State}
    (hs : s.regsCanonical) : ∀ q ∈ l, (l.foldl placeWord s).regAt q.1.obj q.1.inst q.2.field q.2.idx = q.2.value := by
  induction l generalizing s with
  | nil => simp
  | cons p l ih =>
    have htail : ∀ r ∈ l, InSpan r := fun r hr => hl r (List.mem_cons_of_mem _ hr)
    obtain ⟨hp, hd⟩ := List.nodup_cons.1 hd
    intro q hq
    rw [List.foldl_cons]
    rcases List.mem_cons.1 hq with rfl | hq
    · rw [regAt_foldl_placeWord_other htail (hl q (List.mem_cons_self ..)) hp]
      exact regAt_setRegAt_same _ _ _ _ _ _ hs
    · exact ih htail hd (regsWf_setRegAt _ _ _ _ _ _ hs) q hq

/-- The object types whose groups do nothing more on being applied (R44). -/
def quietObjs : List Obj := [.profile, .repet, .sweep, .acq, .pattern, .lock, .hk, .aout, .seq]

theorem groupApplied_quiet {old s : State} {g : GroupRef} (h : g.obj ∈ quietObjs) : old.groupApplied g s = s := by
  unfold State.groupApplied
  simp only [quietObjs, List.mem_cons, List.not_mem_nil, or_false] at h
  rcases h with h | h | h | h | h | h | h | h | h <;> rw [h]

/-- A ticket of groups that do nothing more on being applied leaves the list and puts its words in their places (R44). -/
theorem applyTicket_quiet {s : State} {t : Ticket}
    (h : ∀ k ∈ s.commits.shadows.filter fun k => k.ticket == t.num, k.ref.obj ∈ quietObjs) :
    s.applyTicket t = (wordsOfShadows (s.commits.shadows.filter fun k => k.ticket == t.num)).foldl placeWord
      { s with commits := { s.commits with
        tickets := s.commits.tickets.filter fun u => u.order != t.order,
        shadows := s.commits.shadows.filter fun k => k.ticket != t.num } } := by
  rw [← foldl_writeGroup]
  unfold State.applyTicket State.each
  exact foldl_skips (fun k hk _ => groupApplied_quiet (h k hk)) _

theorem foldl_placeWord_commits (l : List (GroupRef × FieldWord)) (s : State) : (l.foldl placeWord s).commits = s.commits :=
  foldl_keeps State.commits (fun _ _ => State.setRegAt_commits ..) l s

/-- Settles O14: GROUP_APPLY is one applyBoundary, whose stages are the order of R33; a ticket's words, for distinct places, are all
in the word file after it. -/
theorem boundariesActInOrder : Obligations.BoundariesActInOrder := by
  refine ⟨?_, ?_⟩
  · intro s t hr h100 hnow hspan hj hdue
    rw [exec_groupApply, groupApply_one hr h100 hnow hspan hj hdue]
    simp only [State.applyBoundary, State.applyWrites, State.each, framesPass_clock, framesPass_now]
  · intro s t hs mine hq hd
    have hspan : ∀ p ∈ wordsOfShadows mine, InSpan p := by
      intro p hp
      obtain ⟨k, hk, hp⟩ := List.mem_flatMap.1 hp
      obtain ⟨w, hw, rfl⟩ := List.mem_map.1 hp
      obtain ⟨-, hi, hws⟩ := hq k hk
      exact ⟨hi, hws w hw⟩
    have hplaces : ((wordsOfShadows mine).map placeOf).Nodup := by
      simpa [wordsOfShadows, List.map_flatMap, List.map_map, Function.comp_def, placeOf] using hd
    rw [applyTicket_quiet fun k hk => (hq k hk).1]
    refine ⟨fun k hk w hw => ?_, fun u hu => ?_⟩
    · have hmem : (k.ref, w) ∈ wordsOfShadows mine := List.mem_flatMap.2 ⟨k, hk, List.mem_map.2 ⟨w, hw, rfl⟩⟩
      refine regAt_foldl_placeWord hspan hplaces ?_ (k.ref, w) hmem
      exact hs
    · rw [foldl_placeWord_commits] at hu
      simpa using (List.mem_filter.1 hu).2

end Sys2Proof.Organisation
end

section
/-!
PROOFS. 01_organisation: COMMIT and COMMIT_RELEASE.
-/

namespace Sys2Proof.Organisation

open Sys2Proof Sys2Proof.Machine

/-! ## Chains of checks -/

/-- A chain of checks that ends well has come through its first step. -/
theorem bind_ok {α β : Type} {x : Except Denial α} {f : α → Except Denial β} {b : β} (h : (x >>= f) = .ok b) :
    ∃ a, x = .ok a ∧ f a = .ok b := by
  cases x with
  | error d => cases h
  | ok a => exact ⟨a, rfl, h⟩

theorem ok_bind {α β : Type} (x : α) (f : α → Except Denial β) : (Except.ok x >>= f) = f x := rfl

/-- A check made on a condition is passed or not called for. -/
theorem ite_bind_ok {β : Type} {c : Prop} [Decidable c] {x : Except Denial Unit} {f : Unit → Except Denial β} {b : β}
    (h : (if c then x >>= f else f ()) = .ok b) : f () = .ok b := by
  split at h
  · obtain ⟨⟨⟩, -, hf⟩ := bind_ok h
    exact hf
  · exact h

theorem demand_ok {b : Bool} {d : Denial} {u : Unit} (h : demand b d = .ok u) : b = true := by
  cases b with
  | false => cases h
  | true => rfl

/-! ## COMMIT without an apply time -/

theorem applyTime_untimed {s : State} {r : Req} (h : r.untimed) : s.applyTime r.env = .ok none := by
  simp [State.applyTime, h]

theorem byMeridian_untimed {r : Req} (h : r.untimed) : byMeridian r.env = false := by
  simp [byMeridian, show bitsOf r.env.ctl.toNat 15 14 = 0 from h]

/-- The staged words of some groups: what a commit of them takes into its ticket (R43). -/
def snapshotOf (a : State) (groups : List GroupRef) : List Staging := a.commits.staging.filter fun b => groups.contains b.ref

/-- When the lead work of a commit of some groups ends: after all work admitted before it and after the boundaries of the earlier
tickets that name its groups (R48, R712). -/
def commitEnds (a : State) (groups : List GroupRef) : Nat :=
  a.leadEnds (((groups.flatMap a.ticketsNaming).map Ticket.boundary).foldl max 0) (commitLead (snapshotOf a groups))

/-- The ticket that an untimed commit takes under a number. -/
def untimedTicket (a : State) (r : Req) (groups : List GroupRef) (num : Nat) : Ticket :=
  ⟨num, a.commits.accepted, r.env.session.toNat, snapshotOf a groups, false, commitEnds a groups,
    nextMultiple 100 (commitEnds a groups), false, false, some r⟩

/-- The commits of the device once it has taken an untimed commit (R42, R43, R48). -/
def withUntimed (a : State) (r : Req) (groups : List GroupRef) (num : Nat) : State :=
  { a with
    free := a.free + 1
    commits := { a.commits with
      staging := a.commits.staging.filter fun b => !groups.contains b.ref
      tickets := a.commits.tickets ++ [untimedTicket a r groups num]
      pathBusy := commitEnds a groups
      accepted := a.commits.accepted + 1 } }

/-- The ticket numbers that no pending ticket has. -/
def freeNumbers (a : State) : List Nat := (upto 16).filter fun n => !a.commits.tickets.any fun t => t.num == n

theorem mem_freeNumbers {a : State} {n : Nat} : n ∈ freeNumbers a ↔ n < 16 ∧ ∀ t ∈ a.commits.tickets, t.num ≠ n := by
  simp [freeNumbers, upto]

theorem pick_mem {k : Nat} {l : List Nat} (h : l ≠ []) : pick k l ∈ l := by
  have hlt : Config.choice k % l.length < l.length := Nat.mod_lt _ (List.length_pos_iff.2 h)
  rw [pick, List.getD_eq_getElem?_getD, List.getElem?_eq_getElem hlt, Option.getD_some]
  exact List.getElem_mem hlt

/-- What an untimed COMMIT that passes its checks has done (R42, R43, R46, R48). -/
theorem commitGroups_untimed {a : State} {r : Req} {groups : List GroupRef} {d : Done} (hu : r.untimed)
    (hg : groupsOf r.body = .ok groups) (h : commitGroups a r = .ok d) :
    ∃ num ∈ freeNumbers a, d.state = (withUntimed a r groups num).renewCosts groups ∧ d.body = [word num] ∧ d.later = true := by
  unfold commitGroups at h
  rw [hg, applyTime_untimed hu] at h
  obtain ⟨_, ⟨⟩, h⟩ := bind_ok h
  obtain ⟨_, -, h⟩ := bind_ok h
  obtain ⟨_, -, h⟩ := bind_ok h
  obtain ⟨_, ⟨⟩, h⟩ := bind_ok h
  obtain ⟨_, -, h⟩ := bind_ok h
  have h := ite_bind_ok h
  obtain ⟨_, hfree, h⟩ := bind_ok h
  have hfree : freeNumbers a ≠ [] := by simpa [freeNumbers] using demand_ok hfree
  have hm := byMeridian_untimed hu
  simp only [State.draw, hm] at h
  obtain rfl := Except.ok.inj h
  exact ⟨pick a.free (freeNumbers a), pick_mem hfree, rfl, rfl, rfl⟩

theorem renewCosts_commits (s : State) (groups : List GroupRef) : (s.renewCosts groups).commits = s.commits :=
  foldl_keeps State.commits (fun _ _ => State.setReg_commits ..) _ s

/-! ## COMMIT_RELEASE -/

theorem exec_commitRelease {s : State} (num : Nat) (hr : s.boot.phase = .running) :
    exec (.commitRelease num) s = .next (s.commitRelease num) := by
  have h := whenFormed_wellFormed (i := .commitRelease num) (s := s) (f := fun s => s.whileRunning fun s => s.commitRelease num) rfl
  simp only [State.whileRunning, hr, if_true] at h
  exact h

/-- The device once a ticket has been released for a boundary: its shadow copies and its release word are written (R43). -/
def releasedFor (s : State) (t : Ticket) (b : Nat) : State :=
  { s with commits := { s.commits with
    shadows := s.commits.shadows ++ t.snapshot.map fun b => ⟨b.ref, t.num, b.words⟩
    tickets := s.commits.tickets.map fun u =>
      if u.order == t.order then { u with released := true, boundary := b, answer := none } else u } }

/-- A ticket whose lead work has ended, that no earlier ticket keeps back and whose boundary has not passed is released
(R43, R46, R712). -/
theorem commitRelease_released {s : State} {t : Ticket} (hs : s.faults.restart = none)
    (hf : s.commits.tickets.find? (fun u => u.num == t.num && !u.released) = some t) (hlead : t.leadEnd < s.now + 100)
    (htime : t.timed = true → s.now < t.boundary)
    (hfirst : ∀ u ∈ s.commits.tickets, u.order < t.order → ∀ b ∈ u.snapshot, ∀ c ∈ t.snapshot, b.ref ≠ c.ref) :
    s.commitRelease t.num = (releasedFor s t (if t.timed then t.boundary else s.nextBoundary)).answerCommit t
      (if t.timed then t.boundary else s.nextBoundary) := by
  have hblocked : (s.commits.tickets.any fun u =>
      decide (u.order < t.order) && u.snapshot.any fun b => t.snapshot.any fun c => c.ref == b.ref) = false := by
    simp only [List.any_eq_false, Bool.and_eq_true, decide_eq_true_eq, List.any_eq_true, beq_iff_eq, not_and, not_exists]
    exact fun u hu ho b hb c hc he => hfirst u hu ho b hb c hc he.symm
  have hlate : (decide (t.boundary ≤ s.now) && t.timed) = false := by
    cases ht : t.timed with
    | false => simp
    | true => simpa using htime ht
  simp only [State.commitRelease, hf, hblocked, hs, Nat.not_le.2 hlead, hlate]
  simp [releasedFor]

theorem answerCommit_none {s : State} {t : Ticket} (b : Nat) (h : t.answer = none) : s.answerCommit t b = s := by
  simp [State.answerCommit, h]

theorem answerCommit_some {s : State} {t : Ticket} {r : Req} {x : Session} (b : Nat) (h : t.answer = some r)
    (hx : s.session t.session = some x) (he : x.executing.contains r.env.seq.toNat = true) :
    s.answerCommit t b = s.reply t.session x.key r 0 (s.shown b) [word t.num] := by
  simp only [State.answerCommit, h, hx, he, if_true]

/-- Settles O12: by what commitGroups has done once its checks are passed, and by the branches of commitRelease. -/
theorem commitsTakeTicketsAndAreReleased : Obligations.CommitsTakeTicketsAndAreReleased := by
  refine ⟨?_, ?_⟩
  · intro s e n x body groups d r a h hu hg hd snapshot earlier ends
    obtain ⟨num, hnum, hstate, hbody, hlater⟩ := commitGroups_untimed hu hg hd
    obtain ⟨h16, hfresh⟩ := mem_freeNumbers.1 hnum
    have hroom := h.room
    refine ⟨fun y hy => ?_, num, h16, hfresh, ?_⟩
    · rw [exec_request (i := .commit e body) (r := r) rfl h.formed, receive_later h hd hlater (by simp [hbody]; omega) hy]
    · rw [hstate, renewCosts_commits, ← h.number]
      exact ⟨rfl, rfl, rfl⟩
  · intro s t hr hs hf hlead htime hfirst b v
    have hv : exec (.commitRelease t.num) s = .next (v.answerCommit t b) := by
      rw [exec_commitRelease t.num hr, commitRelease_released hs hf hlead htime hfirst]
      rfl
    refine ⟨fun hn => ?_, fun r x hn hx he => ?_⟩
    · rw [hv, answerCommit_none b hn]
    · rw [hv, answerCommit_some (s := v) b hn hx he]

end Sys2Proof.Organisation
end

section
/-!
PROOFS. 01_organisation: frames, addresses and enumeration.
-/

namespace Sys2Proof.Organisation

open Sys2Proof Sys2Proof.Machine

/-! ## Frames received -/

theorem switching_of_phase {s : State} (h : s.boot.phase ≠ .reset) : s.switching = true := by
  simp [State.switching, h]

theorem serving_phase {s : State} (h : s.boot.phase = .running ∨ s.boot.phase = .bootRom) : s.serving = true ∧ s.switching = true := by
  rcases h with h | h <;> simp [State.serving, State.switching, h]

/-- A frame beyond the MTU is dropped and counted (R570). -/
theorem takeFrame_long {s : State} {p : Port} {mac n : Nat} {act : State → State} (hs : s.switching = true)
    (hn : (s.frameIn p mac).tooLong n = true) : s.takeFrame p mac n act = (s.frameIn p mac).count .port (portNum p) 0x23 := by
  simp [State.takeFrame, hs, hn]

theorem tooLong_of_lt {s : State} {n : Nat} (h : s.rf .dev 0 0x183 15 0 < n) : s.tooLong n = true := by
  simpa [State.tooLong] using h

theorem tooLong_of_le {s : State} {n : Nat} (h : n ≤ s.rf .dev 0 0x183 15 0) : s.tooLong n = false := by
  simpa [State.tooLong] using h

@[simp] theorem watchQueue_boot (s : State) (p : Port) : (s.watchQueue p).boot = s.boot := by
  unfold State.watchQueue
  dsimp only
  split
  · exact State.send_boot ..
  · split
    · exact State.send_boot ..
    · rfl

@[simp] theorem passFrame_boot (s : State) (p : Port) (k : Nat) (m : OutMsg) : (s.passFrame p k m).boot = s.boot := by
  unfold State.passFrame
  split
  · rfl
  · split
    · exact State.count_boot ..
    · rw [watchQueue_boot, State.send_boot]

@[simp] theorem forwardOut_boot (s : State) (p : Port) (f : EthFrame) : (s.forwardOut p f).boot = s.boot := by
  unfold State.forwardOut
  split
  · rfl
  · exact passFrame_boot ..

theorem reaches_iff (s : State) (dst : Nat) : s.reaches dst = true ↔ dst = s.ownMac ∨ groupMac dst = true := by
  simp [State.reaches]

/-! ## What the frame commands do -/

theorem exec_frameForward {f : EthFrame} (p : Port) (s : State) (h : f.wellFormed = true) :
    exec (.frameForward p f) s = .next (s.frameForward p f) :=
  whenFormed_wellFormed (i := .frameForward p f) (f := fun s => s.frameForward p f) h

theorem exec_arpRequest {f : EthFrame} {target : Nat} (p : Port) (s : State) (h : f.wellFormed = true) (ht : target < 2 ^ 32) :
    exec (.arpRequest p f target) s = .next (s.arpRequest p f target) :=
  whenFormed_wellFormed (i := .arpRequest p f target) (f := fun s => s.arpRequest p f target)
    (by simp only [Instr.wellFormed, h, ht, decide_true, Bool.and_self])

theorem exec_neighbourSolicitation {f : EthFrame} {target : Nat} (p : Port) (s : State) (h : f.wellFormed = true)
    (ht : target < 2 ^ 128) : exec (.neighbourSolicitation p f target) s = .next (s.neighbourSolicitation p f target) :=
  whenFormed_wellFormed (i := .neighbourSolicitation p f target) (f := fun s => s.neighbourSolicitation p f target)
    (by simp only [Instr.wellFormed, h, ht, decide_true, Bool.and_self])

theorem exec_echoRequest {src : Source} {id seq : Nat} (v6 : Bool) (data : List Byte) (s : State) (h : src.wellFormed = true)
    (hi : id < 65536) (hq : seq < 65536) : exec (.echoRequest src v6 id seq data) s = .next (s.echoRequest src v6 id seq data) :=
  whenFormed_wellFormed (i := .echoRequest src v6 id seq data) (f := fun s => s.echoRequest src v6 id seq data)
    (by simp only [Instr.wellFormed, h, hi, hq, decide_true, Bool.and_self])

theorem frameForward_badFcs {s : State} {f : EthFrame} (p : Port) (hs : s.switching = true) (hf : f.fcsOk = false) :
    s.frameForward p f = s.count .port (portNum p) 0x24 := by
  simp [State.frameForward, hs, hf]

/-- A good frame is taken by the switch as received (R570-R572). -/
theorem frameForward_good {s : State} {f : EthFrame} (p : Port) (hs : s.switching = true) (hf : f.fcsOk = true) :
    s.frameForward p f = s.takeFrame p f.src f.length fun s =>
      (if f.badChecksum && s.reaches f.dst then s.count .port (portNum p) 0x23 else s).forwardOut p f := by
  simp [State.frameForward, hs, hf]

/-- A frame that fits the MTU is passed on, after a wrong checksum has been counted where it reaches the device (R571, R586). -/
theorem frameForward_fits {s : State} {f : EthFrame} (p : Port) (hs : s.switching = true) (hf : f.fcsOk = true)
    (hn : (s.frameIn p f.src).tooLong f.length = false) :
    s.frameForward p f = State.forwardOut
      (if f.badChecksum = true ∧ (f.dst = (s.frameIn p f.src).ownMac ∨ groupMac f.dst = true)
        then (s.frameIn p f.src).count .port (portNum p) 0x23 else s.frameIn p f.src) p f := by
  rw [frameForward_good p hs hf, takeFrame_fits hs hn]
  simp only [Bool.and_eq_true, reaches_iff]

/-- An ARP request for the device's address is forwarded and answered (R571, R583). -/
theorem arpRequest_answered {s : State} {p : Port} {f : EthFrame} (hr : s.boot.phase = .running)
    (hn : (s.frameIn p f.src).tooLong f.length = false) (hd : ((s.frameIn p f.src).forwardOut p f).reaches f.dst = true)
    (hip : ((s.frameIn p f.src).forwardOut p f).ip4 ≠ 0) :
    s.arpRequest p f ((s.frameIn p f.src).forwardOut p f).ip4 = ((s.frameIn p f.src).forwardOut p f).send p 3
      (.arp p f.src ((s.frameIn p f.src).forwardOut p f).ip4 false f.vlan) := by
  rw [State.arpRequest, takeFrame_fits (switching_of_phase (by simp [hr])) hn]
  simp [hr, hd, hip]

/-- A solicitation for the device's link-local address is forwarded and answered (R571, R583). -/
theorem neighbourSolicitation_answered {s : State} {p : Port} {f : EthFrame} (hr : s.boot.phase = .running)
    (hn : (s.frameIn p f.src).tooLong f.length = false) (hd : ((s.frameIn p f.src).forwardOut p f).reaches f.dst = true) :
    s.neighbourSolicitation p f (linkLocal ((s.frameIn p f.src).forwardOut p f).ownMac) =
      ((s.frameIn p f.src).forwardOut p f).send p 3
        (.neighbour p f.src (linkLocal ((s.frameIn p f.src).forwardOut p f).ownMac) true f.vlan) := by
  rw [State.neighbourSolicitation, takeFrame_fits (switching_of_phase (by simp [hr])) hn]
  simp [hr, hd]

/-- An echo request within the rate of 100 in each second is answered (R583). -/
theorem echoRequest_answered {s : State} {src : Source} {data : List Byte} (v6 : Bool) (id seq : Nat)
    (hr : s.boot.phase = .running) (hn : (s.frameIn src.port src.mac).tooLong (data.length + if v6 then 48 else 28) = false)
    (hlen : data.length ≤ 1472)
    (hrate : ((s.frameIn src.port src.mac).net.echoes.filter fun k =>
      decide ((s.frameIn src.port src.mac).clock < k + 10 ^ 9)).length < 100) :
    s.echoRequest src v6 id seq data = State.send { s.frameIn src.port src.mac with net := { (s.frameIn src.port src.mac).net with
      echoes := ((s.frameIn src.port src.mac).net.echoes.filter fun k => decide ((s.frameIn src.port src.mac).clock < k + 10 ^ 9)) ++
        [(s.frameIn src.port src.mac).clock] } } src.port 3 (.echo src v6 id seq data) := by
  rw [State.echoRequest, takeFrame_fits (switching_of_phase (by simp [hr])) hn]
  have hskip : ((s.frameIn src.port src.mac).boot.phase != .running || decide (1472 < data.length) ||
      decide (100 ≤ ((s.frameIn src.port src.mac).net.echoes.filter fun k =>
        decide ((s.frameIn src.port src.mac).clock < k + 10 ^ 9)).length)) = false := by
    simp only [State.frameIn_boot, hr, bne_self_eq_false, Bool.or_eq_false_iff, decide_eq_false_iff_not, Nat.not_lt, Nat.not_le]
    exact ⟨⟨trivial, hlen⟩, hrate⟩
  simp only [hskip, Bool.false_eq_true, if_false]

/-! ## Enumeration -/

/-- A frame of the enumeration protocol that its row takes, and that fits the MTU, acts (R570, R576). -/
theorem takeEnum_fits {s : State} {f : EnumFrame} {type : Nat} {act : State → State} (hs : s.switching = true)
    (hp : f.proto = 0xD5) (ht : f.type = type) (hn : (s.frameIn f.port f.src).tooLong f.bytes.length = false) :
    s.takeEnum f type act = act (s.frameIn f.port f.src) := by
  simp [State.takeEnum, hp, ht, takeFrame_fits hs hn]

theorem exec_discover {f : EnumFrame} (s : State) (h : f.wellFormed = true) : exec (.discover f) s = .next (s.discover f) :=
  whenFormed_wellFormed (i := .discover f) (f := fun s => s.discover f) h

theorem exec_assign {f : EnumFrame} (s : State) (h : f.wellFormed = true) : exec (.assign f) s = .next (s.assign f) :=
  whenFormed_wellFormed (i := .assign f) (f := fun s => s.assign f) h

/-- The addresses and the chain key that ASSIGN sets, its answer, and the announcements of the new addresses (R580-R582). -/
def assignedBy (t : State) (f : EnumFrame) (parts : Nat × Nat × Nat × Nat × Nat × List Byte) : State :=
  let (pre, ip4, len4, ip6, len6, key) := parts
  let mac := pre * 2 ^ 24 + t.net.position
  let s := ((t.setWide .dev 0 0x180 2 mac).setWords .dev 0 0x181 [word ip4, word len4]).setWords .dev 0 0x182
    (wordsOf 4 ip6 ++ [word len6])
  let s := { s with net := { s.net with chainKey := some key } }
  let s := s.sendEnum f.peer 0x04 f.hops 0 []
  let s := if ip4 = 0 then s else s.send f.port 3 (.arp f.port broadcastMac ip4 true none)
  let s := s.send f.port 3 (.neighbour f.port 0x333300000001 (linkLocal mac) false none)
  if ip6 = 0 then s else s.send f.port 3 (.neighbour f.port 0x333300000001 ip6 false none)

/-- ASSIGN to the device, of the right length, is answered with its status, and acts where that is 0 (R580, R581). -/
theorem assign_taken {s : State} {f : EnumFrame} (hserve : s.serving = true) (hsw : s.switching = true) (hp : f.proto = 0xD5)
    (ht : f.type = 3) (hn : (s.frameIn f.port f.src).tooLong f.bytes.length = false)
    (hd : f.dst = (s.frameIn f.port f.src).ownMac) (hlen : f.payload.length = 57) :
    s.assign f = if (s.frameIn f.port f.src).assignStatus f.payload ≠ 0
      then (s.frameIn f.port f.src).sendEnum f.peer 0x04 f.hops ((s.frameIn f.port f.src).assignStatus f.payload) []
      else assignedBy (s.frameIn f.port f.src) f (assignParts f.payload) := by
  have hserve' : (s.frameIn f.port f.src).serving = true := by simpa [State.serving] using hserve
  rw [State.assign, if_neg (by simp [hsw]), takeEnum_fits hsw hp ht hn]
  exact (if_neg (fun hn => hn hd)).trans ((if_neg (by simp [hserve', hlen])).trans rfl)

/-- DISCOVER at port A takes the position unless a session is open, is answered, and is passed on with its hop count
(R577-R579). -/
theorem discover_portA {s : State} {f : EnumFrame} (hserve : s.serving = true) (hsw : s.switching = true) (hp : f.proto = 0xD5)
    (ht : f.type = 1) (hport : f.port = .a) (hn : (s.frameIn .a f.src).tooLong f.bytes.length = false) :
    s.discover f =
      let hops := (f.hops + 1) % 256
      let t := s.frameIn .a f.src
      let u := if t.anySession then t else { t with net := { t.net with position := hops } }
      let v := if u.assigned then u else u.setWide .dev 0 0x180 2 u.ownMac
      let v := v.sendEnum ⟨.a, f.src, f.vlan⟩ 0x02 hops (if t.anySession = true ∧ hops ≠ t.net.position then 3 else 0) v.replyPayload
      v.passFrame .a 4 (.enum .b f.src f.dst f.vlan (f.bytes.set 4 (BitVec.ofNat 8 hops))) := by
  have hstatus (t : State) (hops : Nat) : (if t.anySession = true ∧ hops ≠ t.net.position then 3 else 0) =
      if (t.anySession && hops != t.net.position) = true then 3 else 0 := by simp
  obtain ⟨port, src, dst, vlan, bytes⟩ := f
  obtain rfl : port = .a := hport
  rw [State.discover, if_neg (by simp [hserve]), takeEnum_fits hsw hp ht hn]
  refine (if_neg (c := (Port.a == Port.b) = true) (by decide)).trans ?_
  simp -zeta only [hstatus]
  rfl

theorem bytesOf_one (n : Nat) : bytesOf 1 n = [BitVec.ofNat 8 n] := by simp [bytesOf]

/-- Settles O51: each clause is the branch of its row that the premises choose, for a frame that the switch takes. -/
theorem framesAndAddressesAct : Obligations.FramesAndAddressesAct := by
  refine ⟨?_, ?_, ?_, ?_, ?_, ?_, ?_, ?_, ?_, ?_, ?_⟩
  · intro s p f hs hw hf
    rw [exec_frameForward p s hw, frameForward_badFcs p (switching_of_phase hs) hf]
  · intro s p f hs hw hf t
    have hsw := switching_of_phase hs
    refine ⟨fun hlong => ⟨?_, fun target ht => ?_, fun target ht => ?_⟩, fun hfit => ?_⟩
    · rw [exec_frameForward p s hw, frameForward_good p hsw hf, takeFrame_long hsw (tooLong_of_lt hlong)]
    · rw [exec_arpRequest p s hw ht, State.arpRequest, takeFrame_long hsw (tooLong_of_lt hlong)]
    · rw [exec_neighbourSolicitation p s hw ht, State.neighbourSolicitation, takeFrame_long hsw (tooLong_of_lt hlong)]
    · rw [exec_frameForward p s hw, frameForward_fits p hsw hf (tooLong_of_le hfit)]
  · exact fun t p f => ⟨fun h => if_pos h, fun h => if_neg h⟩
  · intro s mac hm
    exact whenFormed_wellFormed (i := .addressAgeOut mac) (f := fun s => s.ageOut mac) (decide_eq_true hm)
  · intro s p f target hw ht t hn hr hd hip htarget
    subst htarget
    rw [exec_arpRequest p s hw ht, arpRequest_answered hr hn hd hip]
  · intro s p f target hw ht t hn hr hd htarget
    subst htarget
    rw [exec_neighbourSolicitation p s hw ht, neighbourSolicitation_answered hr hn hd]
  · intro s src v6 id seq data hw hi hq hlen t hn hr hrate
    rw [State.frameIn_boot] at hr
    rw [exec_echoRequest v6 data s hw hi hq, echoRequest_answered v6 id seq hr hn hlen hrate]
  · intro s f hphase hw hproto htype hport hops t u v v' hn
    obtain ⟨hserve, hsw⟩ := serving_phase hphase
    rw [exec_discover s hw, discover_portA hserve hsw hproto htype hport hn]
  · intro s f status hphase hw hproto htype t peer hn hdst hlen hstatus
    obtain ⟨hserve, hsw⟩ := serving_phase hphase
    refine ⟨fun hne => ?_, fun hzero pre ip4 len4 ip6 len6 key hparts => ?_⟩
    · rw [exec_assign s hw, assign_taken hserve hsw hproto htype hn hdst hlen, if_pos (hstatus ▸ hne), ← hstatus]
      rfl
    · rw [exec_assign s hw, assign_taken hserve hsw hproto htype hn hdst hlen, if_neg (fun hn => hn (hstatus.trans hzero)), hparts]
      rfl
  · intro s peer type hops status payload
    rw [State.sendEnum, enumBytes]
    simp only [bytesOf_one]
    rfl
  · exact fun s p k key dst udp kind session seq code ctl time body => rfl

end Sys2Proof.Organisation
end

section
/-!
PROOFS. 01_organisation: OBJ_READ.
-/

namespace Sys2Proof.Organisation

open Sys2Proof Sys2Proof.Machine

/-! ## The reply to a request in order -/

theorem session_send (s : State) (p : Port) (k : Nat) (m : OutMsg) (n : Nat) : (s.send p k m).session n = s.session n := by
  unfold State.send State.sendFrame State.session
  split
  · rfl
  · simp

/-- A reply is kept with its session (R599). -/
theorem session_reply {s : State} {n : Nat} {x : Session} (key : List Byte) (r : Req) (status time : Nat) (body : List Word)
    (h : s.session n = some x) : (s.reply n key r status time body).session n =
      some (x.keep r.env.seq.toNat (replyTo key r (s.replyPort r) status time body)) := by
  simp only [State.reply, session_send, h, session_setSession]

theorem drainHeld_nothing {s : State} {n : Nat} {x : Session} (fuel : Nat) (h : s.session n = some x) (hh : x.held = []) :
    State.drainHeld handle n fuel s = s := by
  cases fuel with
  | zero => rfl
  | succ fuel => simp [State.drainHeld, h, hh]

/-- The reply that a request in order leaves with its session, where the session holds no request (R599, R601). -/
theorem session_answered {s : State} {r : Req} {n : Nat} {x : Session} {d : Done} (hd : d.state = s.admitted r n x)
    (hh : x.held = []) : ∃ p time, (s.answered r n x d).session n =
      some ((s.paying r x).keep r.env.seq.toNat (replyTo x.key r p 0 time d.body)) := by
  have hs := session_reply x.key r 0 (d.state.shown (d.time.getD s.nextBoundary)) d.body
    (show d.state.session n = some (s.paying r x) by rw [hd, session_admitted])
  rw [State.answered, drainHeld_nothing 31 hs hh]
  exact ⟨_, _, hs⟩

/-- The request just answered is among the 64 before NEXT (R599). -/
theorem recent_paying {s : State} {r : Req} {x : Session} (h : r.env.seq.toNat = x.next) :
    (s.paying r x).recent r.env.seq.toNat = true := by
  have hlt := r.env.seq.isLt
  rw [h] at hlt
  refine decide_eq_true ?_
  show 2 ^ 32 - 64 ≤ (r.env.seq.toNat + 2 ^ 32 - (x.next + 1) % 2 ^ 32) % 2 ^ 32
  omega

theorem replyTo_body_inj {key : List Byte} {r : Req} {p p' : Port} {time time' : Nat} {body body' : List Word}
    (h : replyTo key r p 0 time body = replyTo key r p' 0 time' body') : body = body' := by
  simp only [replyTo, rmp, OutMsg.rmp.injEq] at h
  obtain ⟨-, -, -, -, -, -, -, -, hbody, -⟩ := h
  exact hbody

/-- Two answers to a request in order that are the same state carry the same reply body. -/
theorem answered_body_inj {s : State} {r : Req} {n : Nat} {x : Session} {d d' : Done} (hn : r.env.seq.toNat = x.next)
    (hh : x.held = []) (hd : d.state = s.admitted r n x) (hd' : d'.state = s.admitted r n x)
    (h : s.answered r n x d = s.answered r n x d') : d.body = d'.body := by
  obtain ⟨p, time, hs⟩ := session_answered hd hh
  obtain ⟨p', time', hs'⟩ := session_answered hd' hh
  have hkeep := congrArg Session.replies (Option.some.inj (hs.symm.trans ((congrArg (State.session · n) h).trans hs')))
  have hr := recent_paying (s := s) hn
  simp only [Session.keep, List.filter_append, List.append_cancel_left_eq, List.filter_cons, hr, if_true, List.filter_nil,
    List.cons.injEq, Prod.mk.injEq, true_and, and_true] at hkeep
  exact replyTo_body_inj hkeep

/-! ## OBJ_READ of one field -/

/-- The one item of a request that reads one field of one word. -/
def readItemOf (o : Obj) (view : Bool) (k f : Nat) : Item := ⟨objCode o, view, 0, k, f, 1, []⟩

theorem itemsOf_read (o : Obj) (view : Bool) {k f : Nat} (hk : k < objCount o) (hf : f < 65536) :
    itemsOf false (word 1 :: (readItemOf o view k f).head) = .ok [readItemOf o view k f] := by
  have h1 : fld (word 1) 31 16 = 0 := by decide
  have h2 : fld (word 1) 15 0 = 1 := by decide
  have hc := objCount_le o
  have hi := itemOf_head (readItemOf o view k f) [] (objCode_lt o) (by simp [readItemOf]) (by simp [readItemOf]; omega) hf
    (by simp [readItemOf])
  simp only [itemsOf, h1, h2, Item.head, parseItems]
  change _ = readItemOf o view k f at hi
  simpa using hi

theorem itemFields_read {o : Obj} {view : Bool} {k f : Nat} {row : FieldRow} (hk : k < objCount o) (hrow : fieldRow o f = some row)
    (hw : row.words = 1) : itemFields false (objCode o) 0 (readItemOf o view k f) = .ok (o, [(f, row)]) := by
  simp [itemFields, readItemOf, objOfCode_objCode, Nat.not_le.2 hk, fieldsCovered, hrow, hw]

theorem readItems_one {a : State} {o : Obj} {view : Bool} {k f : Nat} {row : FieldRow} (hk : k < objCount o)
    (hrow : fieldRow o f = some row) (hw : row.words = 1) : a.readItems (objCode o) 0 [readItemOf o view k f] =
      .ok ((readItemOf o view k f).head ++ [a.readWord view o k f 0 &&& word (row.used.getD 0 0)]) := by
  rw [State.readItems, itemFields_read hk hrow hw]
  simp only [State.readItems, ok_bind, State.readItem, State.readField, List.flatMap_cons, List.flatMap_nil, List.append_nil, hw]
  rfl

/-- A read of one field of one word returns its head and its word without the reserved bits (R12, R36, R592, R624). -/
theorem readFields_one {a : State} {e : Envelope} {o : Obj} {view : Bool} {k f : Nat} {row : FieldRow} (hk : k < objCount o)
    (hf : f < 65536) (hrow : fieldRow o f = some row) (hw : row.words = 1) :
    readFields (objCode o) a ⟨.read (objCode o), e, word 1 :: (readItemOf o view k f).head⟩ =
      .ok { state := a, body := (readItemOf o view k f).head ++ [a.readWord view o k f 0 &&& word (row.used.getD 0 0)] } := by
  simp only [readFields, objOfCode_objCode, Option.isSome_some, require, demand, if_true, itemsOf_read o view hk hf, ok_bind,
    readItems_one hk hrow hw]
  rfl

theorem exec_objRead_one {s : State} {e : Envelope} {n : Nat} {x : Session} {o : Obj} {view : Bool} {k f : Nat} {row : FieldRow}
    (h : InOrder s ⟨.read (objCode o), e, word 1 :: (readItemOf o view k f).head⟩ n x) (hk : k < objCount o) (hf : f < 65536)
    (hrow : fieldRow o f = some row) (hw : row.words = 1) :
    exec (.objRead e (objCode o) (word 1 :: (readItemOf o view k f).head)) s =
      .next (s.answered ⟨.read (objCode o), e, word 1 :: (readItemOf o view k f).head⟩ n x
        { state := s.admitted ⟨.read (objCode o), e, word 1 :: (readItemOf o view k f).head⟩ n x
          body := (readItemOf o view k f).head ++
            [(s.admitted ⟨.read (objCode o), e, word 1 :: (readItemOf o view k f).head⟩ n x).readWord view o k f 0 &&&
              word (row.used.getD 0 0)] }) := by
  refine exec_answered rfl ?_ h (readFields_one hk hf hrow hw) rfl (by simp [Item.head])
  simp [Instr.wellFormed, show e.wellFormed = true from h.formed, objCode_lt]

/-! ## A read that the statement gets wrong -/

/-- The words of a request that reads CAL_SET of channel 0 in the applied view. -/
def calSetRead : List Word := word 1 :: (readItemOf .chan false 0 0xA).head

/-- The session that reads. -/
def reader : Session where
  key := []
  src := ⟨.a, 0, 0, 0, none⟩
  msgRate := 10
  burst := 1
  timeout := 10
  maxReply := 1024
  noticePort := 0
  egressPort := 0
  noticeMask := 0
  bucket := 10 ^ 9
  bucketAt := 0
  next := 1
  held := []
  replies := []
  executing := []
  lastValid := 0
  noticeBucket := 0
  noticeAt := 0
  noticeLost := false
  streamSeq := 0

/-- The device after reset with the reader's session open and a word file in which CAL_SET of channel 0 has its reserved bits set. -/
def strayBits : State :=
  { State.reset with
    regs := [(regKey .chan 0 0xA 0, 0xFFFFFFFF)]
    host := { State.reset.host with sessions := [(1, reader)] } }

/-- The envelope of the read, with a tag. -/
def readEnvelope (tag : BitVec 128) : Envelope :=
  ⟨⟨.a, 0, 0, 0, none⟩, 52, 0x52D0, 1, 1, 1, 52, 1, 0, 0, tag, false, []⟩

/-- The read, with the tag of the reader's key. -/
def readEnv : Envelope :=
  readEnvelope (BitVec.ofNat 128 (ofBytes ((hmacSha256 [] (Req.bytes ⟨.read (objCode .chan), readEnvelope 0, calSetRead⟩)).take 16)))

theorem inOrder_strayBits : InOrder strayBits ⟨.read (objCode .chan), readEnv, calSetRead⟩ 1 reader where
  formed := by decide +kernel
  running := by decide +kernel
  steady := by decide +kernel
  fits := by decide +kernel
  framed := by decide +kernel
  number := by decide +kernel
  inSession := by decide
  opened := by decide +kernel
  tagged := by decide +kernel
  free := by decide +kernel
  served := by decide +kernel
  paid := by decide +kernel
  next := by decide +kernel
  whole := by decide +kernel
  bounded := by decide +kernel
  control := by decide +kernel
  timing := by decide +kernel
  room := by decide +kernel

/-- Refutes O8: a read returns a word without its reserved bits (R12), and the statement returns the whole stored word. In strayBits
CAL_SET of channel 0, whose used bits are 0xFFFF, holds 0xFFFF_FFFF. -/
theorem not_readReturnsTheField : ¬ Obligations.ReadReturnsTheField := by
  intro h
  have hin := inOrder_strayBits
  let a := strayBits.admitted ⟨.read (objCode .chan), readEnv, calSetRead⟩ 1 reader
  have hrow : fieldRow .chan 0xA = some ⟨0xA, 1, 1, .staged 0, [0x0], [0xFFFF]⟩ := by decide
  have hsaid := h strayBits readEnv 1 reader .chan 0 0xA false _ hin (by decide) (by decide) hrow rfl
  have hdone := exec_objRead_one hin (by decide) (by decide) hrow rfl
  have hbody := answered_body_inj hin.next rfl rfl rfl (Host.Outcome.next.inj (hdone.symm.trans hsaid))
  have hmask : a.readWord false .chan 0 0xA 0 &&& word 0xFFFF = a.readWord false .chan 0 0xA 0 :=
    (List.cons.inj (List.append_cancel_left hbody)).1
  have hread : a.readWord false .chan 0 0xA 0 = 0xFFFFFFFF := by
    have hreg : a.regAt .chan 0 0xA 0 = strayBits.regAt .chan 0 0xA 0 :=
      regAt_admitted _ _ _ _ _ _ _ _ (by simp) (by decide) (by decide) (by decide)
    have hstored : strayBits.regAt .chan 0 0xA 0 = 0xFFFFFFFF := by decide
    simp [State.readWord, State.derivedWord, State.chanDerived, hreg, hstored]
  rw [hread] at hmask
  exact absurd hmask (by decide)

end Sys2Proof.Organisation
end

section
/-!
PROOFS. 03_loop_engine: the events of a channel, and CORRECTION_EVAL.
-/

namespace Sys2Proof.LoopEngine

open Sys2Proof Sys2Proof.Machine Sys2Proof.Organisation

/-! ## Happenings of a running device -/

/-- A happening that can occur has its effect on a device that runs. -/
theorem exec_happening {i : Instr} {s : State} {f : State → State} (hi : exec i s = whenFormed i s fun s => s.whileRunning f)
    (hwf : i.wellFormed = true) (hr : s.boot.phase = .running) : exec i s = .next (f s) := by
  rw [hi, whenFormed_wellFormed hwf, State.whileRunning, if_pos hr]

/-! ## The record of a channel -/

/-- The record of a channel is read off the records. -/
theorem chan_congr {s t : State} (h : t.chans = s.chans) (c : Nat) : t.chan c = s.chan c := by
  rw [State.chan, h, State.chan]

@[simp] theorem chan_setRb (s : State) (o : Obj) (n f i : Nat) (b : Bool) (c : Nat) : (s.setRb o n f i b).chan c = s.chan c :=
  chan_congr (by simp) c

theorem chan_setChan {s : State} (h : sortedKeys s.chans = true) (c : Nat) (x : Chan) : (s.setChan c x).chan c = x :=
  findD_store_same _ _ _ _ h

theorem sortedKeys_setChan {s : State} (h : sortedKeys s.chans = true) (c : Nat) (x : Chan) :
    sortedKeys (s.setChan c x).chans = true := by
  unfold State.setChan store
  split
  · exact sortedKeys_eraseKey c h
  · exact sortedKeys_insertKey c x h

/-! ## Prediction hold, compliance and phases -/

/-- PRED_MAX predicted frames in a row hold the loop and count (R128). -/
theorem predictionHold_due {s : State} {c : Nat} (ha : s.active c = true) (hmax : s.predMax c ≤ (s.chan c).predRun)
    (hheld : s.rb .loop c 0x40 10 = false) :
    s.predictionHold c = (s.setRb .loop c 0x40 10 true).count .loop c 0x48 := by
  simp [State.predictionHold, ha, hmax, hheld]

/-- 16 frames without the compliance output end compliance (R114, R189). -/
theorem complianceExit_due {s : State} {c : Nat} (hin : s.inCompliance c = true) (hrun : 16 ≤ (s.chan c).exitRun) :
    s.complianceExit c = (((s.setRb .chan c 0x21 12 false).setChan c
      { s.chan c with exitRun := 0, compFrames := 0 }).fireChan c 1).beginRecovery c := by
  simp [State.complianceExit, hin, hrun]

theorem supvStands_eq_false {s : State} {c : Nat} (hst : s.chState c ≠ 6) (hheld : s.rb .loop c 0x40 10 = false) :
    s.supvStands c = false := by
  simp [State.supvStands, chHeld, hst, hheld]

/-- The start-up phase ends once its time has passed and the channel has arrived, which MONITOR does not ask for (R189). -/
theorem phaseEnd_startUp {s : State} {c : Nat} (hgo : s.supvStands c = false) (hp : s.phase c = 1)
    (ht : (s.chan c).supv.phaseSince + s.rf .profile c 0x14 31 16 * 10000 ≤ s.clock)
    (ha : (s.chan c).supv.arrivedOnce = true ∨ s.mode c = 7) : s.phaseEnd c = s.setRf .profile c 0x20 7 6 2 := by
  simp [State.phaseEnd, hgo, hp, ht, ha]

/-- The recovery phase ends once its time has passed (R189). -/
theorem phaseEnd_recovery {s : State} {c : Nat} (hgo : s.supvStands c = false) (hp : s.phase c = 3)
    (ht : (s.chan c).supv.phaseSince + s.rf .profile c 0x14 15 0 * 10000 ≤ s.clock) :
    s.phaseEnd c = s.setRf .profile c 0x20 7 6 2 := by
  simp [State.phaseEnd, hgo, hp, ht]

/-! ## Thermal feedback too old -/

theorem feedbackFresh_eq_false {s : State} {c : Nat} (hm : s.mode c = 5) (hage : s.maxAge c < s.thermalAge c) :
    s.feedbackFresh c = false := by
  simp [State.feedbackFresh, hm, hage]

/-- The outer loop whose feedback is too old at a divider frame is held, and its notice is sent once (R159). -/
theorem thermLost_stale {s : State} {c : Nat} (hruns : s.outerRuns c = true) (hdue : (s.chan c).outer.due = true)
    (hold : s.feedbackFresh c = false) :
    let t := (s.setRb .outer c 0x20 7 true).setChan c { s.chan c with outer := { (s.chan c).outer.restart with lostSent := true } }
    s.thermLost c = if (s.chan c).outer.lostSent then t else t.notify 0x0105 .chan c [t.sourceAge c] := by
  simp [State.thermLost, hruns, hdue, hold]

/-! ## Auto-ranging -/

theorem upRange_decides {s : State} {c r : Nat} {current : Bool} (hd : s.autoDecides c current = true)
    (hr : s.upRangeTo c current = some r) : s.upRange c current = s.decideRange c current r := by
  simp [State.upRange, hr, hd]

theorem downRange_decides {s : State} {c r : Nat} {current : Bool} (hd : s.autoDecides c current = true)
    (hr : s.downRangeTo c current = some r) : s.downRange c current = s.decideRange c current r := by
  simp [State.downRange, hr, hd]

theorem waiting_setWaiting (x : Chan) (current : Bool) (r : Option Nat) : (x.setWaiting current r).waiting current = r := by
  cases current <;> rfl

/-- A decided range waits (R196). -/
theorem waiting_decideRange {s : State} (h : sortedKeys s.chans = true) (c : Nat) (current : Bool) (r : Nat) :
    ((s.decideRange c current r).chan c).waiting current = some r := by
  rw [State.decideRange, chan_setChan h, waiting_setWaiting]

/-! ## Pairs that take effect -/

/-- The record of a channel on which pairs take effect: the pairs join those of other ranges, and nothing that waits changes (R231). -/
theorem chan_takePairs {s : State} (h : sortedKeys s.chans = true) (c : Nat) (pairs : List (Nat × Pair)) (extrap : Bool) :
    ((s.takePairs c pairs extrap).chan c).pairs = pairs.foldl (fun l p => insertKey l p.1 p.2) (s.chan c).pairs ∧
      ((s.takePairs c pairs extrap).chan c).pairWaits = (s.chan c).pairWaits := by
  simp [State.takePairs, State.showUncal, State.showExtrap, chan_setChan, sortedKeys_setChan, h]

/-- The one evaluation that waits takes effect once its boundary has come, on the ranges still in use (R201). -/
theorem pairsTakeEffect_one {s : State} {c : Nat} {w : PairWait} (hw : (s.chan c).pairWaits = [w]) (hdue : w.due ≤ s.now) :
    s.pairsTakeEffect c = (s.setChan c { s.chan c with pairWaits := [] }).takePairs c
      (w.pairs.filter fun p => (s.keysInUse c).contains p.1) w.extrap := by
  simp [State.pairsTakeEffect, State.each, hw, hdue]

/-! ## CORRECTION_EVAL -/

/-- CORRECTION_EVAL on a 3.2 µs boundary without inverted bits takes the channels of its bank in turn (R231, R232, R544). -/
theorem correctionEval_boundary {s : State} (b : Nat) (h : s.now / 100 % 32 = 0) :
    s.correctionEval b [] = ((upto 64).map fun k => 64 * b + k).foldl (fun s c =>
      let t := if s.busyChan c && !s.uncal c then s.calRead c (s.rangesInUse c) else s
      if s.busyChan c && !t.uncal c && (t.calSet (t.calSetOf c)).state == 2 then t.evalChannel c
      else if s.busyChan c then (t.sumsRestart c).writeCodes c else t.sumsRestart c) s := by
  rw [State.correctionEval, if_neg (not_not_intro h)]
  refine congrArg (fun f => List.foldl f s _) (funext fun s => funext fun c => ?_)
  cases s.busyChan c with
  | false => rfl
  | true => cases hu : s.uncal c <;> simp [hu]

theorem calRead_sound {s : State} {c : Nat} {ranges : List (Bool × Nat)} (h : (s.calSet (s.calSetOf c)).badBlock ranges = none) :
    s.calRead c ranges = s := by
  simp [State.calRead, h]

theorem calRead_bad {s : State} {c k : Nat} {ranges : List (Bool × Nat)}
    (h : (s.calSet (s.calSetOf c)).badBlock ranges = some k) : s.calRead c ranges = s.calFaulted (s.calSetOf c) k := by
  simp [State.calRead, h]

/-- Settles O30: each premise chooses the branch of its event that acts. -/
theorem channelEventsAct : Obligations.ChannelEventsAct := by
  refine ⟨⟨?_, ?_, ?_, ?_, ?_, ?_⟩, ?_, fun s c ranges => ⟨calRead_sound, fun k => calRead_bad⟩⟩
  · intro s c hr hc ha hmax hheld
    rw [exec_happening (i := .predictionHold c) rfl (decide_eq_true hc) hr, predictionHold_due ha hmax hheld]
  · intro s c hr hc hin hrun
    rw [exec_happening (i := .complianceExit c) rfl (decide_eq_true hc) hr, complianceExit_due hin hrun]
  · intro s c hr hc hst hheld hphase
    have hgo := supvStands_eq_false hst hheld
    rw [exec_happening (i := .supvPhaseEnd c) rfl (decide_eq_true hc) hr]
    rcases hphase with ⟨hp, ht, ha⟩ | ⟨hp, ht⟩
    · rw [phaseEnd_startUp hgo hp ht ha]
    · rw [phaseEnd_recovery hgo hp ht]
  · intro s c hr hc hruns hdue hm hage o t
    rw [exec_happening (i := .thermSrcLost c) rfl (decide_eq_true hc) hr, thermLost_stale hruns hdue (feedbackFresh_eq_false hm hage)]
    rfl
  · intro s c r current hr hc hd
    refine ⟨fun hup => ?_, fun hdown => ?_, fun h => waiting_decideRange h c current r⟩
    · rw [exec_happening (i := .upRange c current) rfl (decide_eq_true hc) hr, upRange_decides hd hup]
    · rw [exec_happening (i := .downRange c current) rfl (decide_eq_true hc) hr, downRange_decides hd hdown]
  · intro s c w hr hc hw hdue hs mine
    have hpairs := chan_takePairs (sortedKeys_setChan hs c { s.chan c with pairWaits := [] }) c mine w.extrap
    rw [chan_setChan hs] at hpairs
    refine ⟨_, ?_, hpairs.2, hpairs.1, rfl⟩
    rw [exec_happening (i := .pairsTakeEffect c) rfl (decide_eq_true hc) hr, pairsTakeEffect_one hw hdue]
  · intro s b hr hb hnow
    rw [exec_happening (i := .correctionEval b []) rfl (by simp [Instr.wellFormed, hb]) hr, correctionEval_boundary b hnow]
    rfl

end Sys2Proof.LoopEngine
end

section
/-!
PROOFS. 03_loop_engine: LOOP_UPDATE and LATE_RESULT.
-/

namespace Sys2Proof.LoopEngine

open Sys2Proof Sys2Proof.Machine Sys2Proof.Organisation

/-- A choice between two values is one of them. -/
theorem branch_taken {α : Type} (p : Prop) [Decidable p] (a b : α) : (if p then a else b) = a ∨ (if p then a else b) = b := by
  by_cases h : p
  · exact .inl (if_pos h)
  · exact .inr (if_neg h)

/-! ## Records that are written -/

/-- A record that is not the reset record of its list is found where it was put. -/
theorem findD_store_of_ne {α : Type} [DecidableEq α] {v d : α} (h : v ≠ d) (m : List (Nat × α)) (k : Nat) :
    findD (store m d k v) d k = v := by
  rw [store, if_neg h, findD, find_insertKey_same]
  rfl

/-- The copy of a channel that computed a frame in the present engine frame stands as it was put. -/
theorem chan_setChan_wrote (s : State) (c : Nat) {x : Chan} (h : x.wrote = true) : (s.setChan c x).chan c = x :=
  findD_store_of_ne (fun e => by simp [e, Chan.fresh] at h) _ _

/-- A link on which a frame has left stands as it was put. -/
theorem link_setLink_line (s : State) (c : Nat) {l : Link} (h : l.line ≠ []) : (s.setLink c l).link c = l :=
  findD_store_of_ne (fun e => h (by rw [e]; rfl)) _ _

/-- A link is read off the links. -/
theorem link_congr {s t : State} (h : t.links = s.links) (c : Nat) : t.link c = s.link c := by
  rw [State.link, h, State.link]

/-- A mode is read off the word file. -/
theorem mode_congr {s t : State} (h : t.regs = s.regs) (c : Nat) : t.mode c = s.mode c := by
  simp only [State.mode, State.rf, State.reg, State.regAt, h]

@[simp] theorem setLink_chans (s : State) (c : Nat) (l : Link) : (s.setLink c l).chans = s.chans := rfl

@[simp] theorem setLink_seqs (s : State) (c : Nat) (l : Link) : (s.setLink c l).seqs = s.seqs := rfl

@[simp] theorem setLink_acqs (s : State) (c : Nat) (l : Link) : (s.setLink c l).acqs = s.acqs := rfl

@[simp] theorem hear_chans (s : State) (c : Nat) (hs : List Nat) : (s.hear c hs).chans = s.chans := by simp [State.hear]

@[simp] theorem hear_seqs (s : State) (c : Nat) (hs : List Nat) : (s.hear c hs).seqs = s.seqs := by simp [State.hear]

@[simp] theorem hear_acqs (s : State) (c : Nat) (hs : List Nat) : (s.hear c hs).acqs = s.acqs := by simp [State.hear]

/-! ## A fast block leaves -/

theorem sendBlocks_ne_nil {tx : BitVec 58} {l : List (Nat × Block)} (h : l ≠ []) : (sendBlocks tx l).1 ≠ [] := by
  cases l with
  | nil => exact absurd rfl h
  | cons p r => simp [sendBlocks]

theorem slotOrder_ne_nil (fast : Block) (blocks : List Block) : slotOrder fast blocks ≠ [] := by
  simp [slotOrder]

/-- The fast block sent in a frame is the link's last one. -/
theorem fast_sendFast (s : State) (c : Nat) (b : Block) : ((s.sendFast c b).link c).fast = b := by
  have hline (tx : BitVec 58) (blocks : List Block) : (sendBlocks tx (slotOrder b blocks)).1 ≠ [] :=
    sendBlocks_ne_nil (slotOrder_ne_nil b blocks)
  unfold State.sendFast
  dsimp only
  rw [link_setLink_line _ _ (hline _ _)]

theorem chan_sendFast (s : State) (c : Nat) (b : Block) (d : Nat) : (s.sendFast c b).chan d = s.chan d := chan_congr rfl d

theorem mode_sendFast (s : State) (c : Nat) (b : Block) (d : Nat) : (s.sendFast c b).mode d = s.mode d := mode_congr rfl d

/-- A free FORCE is drawn, and nothing else changes (log entry 112). -/
theorem forceCode_eq (s : State) (c : Nat) : ∃ k, (s.forceCode c).2 = { s with free := k } := by
  unfold State.forceCode
  split
  · exact ⟨s.free + 1, rfl⟩
  · exact ⟨s.free, rfl⟩

theorem chan_forceCode (s : State) (c d : Nat) : (s.forceCode c).2.chan d = s.chan d := by
  obtain ⟨k, hk⟩ := forceCode_eq s c
  exact chan_congr (by rw [hk]) d

theorem mode_forceCode (s : State) (c d : Nat) : (s.forceCode c).2.mode d = s.mode d := by
  obtain ⟨k, hk⟩ := forceCode_eq s c
  exact mode_congr (by rw [hk]) d

/-- Where a loop or an open set-point computes it, FORCE is the code of the frame (R120). -/
theorem forceCode_computed {s : State} {c : Nat} (h7 : s.mode c ≠ 7) (h8 : s.mode c ≠ 8) : (s.forceCode c).1 = (s.chan c).code := by
  simp [State.forceCode, h7, h8]

/-- The downstream frame's FQ is written into the record of the channel, with the frames it makes lost, or stands there already
(R463). -/
theorem sendFq_eq (s : State) (c : Nat) :
    s.sendFq c = s ∨ s.sendFq c = s.setChan c { s.chan c with fq := s.fqOf c, fqFrames := 4 } :=
  branch_taken ..

theorem link_sendFq (s : State) (c d : Nat) : (s.sendFq c).link d = s.link d := by
  rcases sendFq_eq s c with e | e <;> rw [e]
  exact link_congr rfl d

theorem mode_sendFq (s : State) (c d : Nat) : (s.sendFq c).mode d = s.mode d := by
  rcases sendFq_eq s c with e | e <;> rw [e]
  exact mode_congr rfl d

theorem chan_sendFq (s : State) (c : Nat) : ∃ fq n, (s.sendFq c).chan c = { s.chan c with fq := fq, fqFrames := n } := by
  have hfour : 4 ≠ Chan.fresh.fqFrames := by decide
  rcases sendFq_eq s c with e | e <;> rw [e]
  · exact ⟨_, _, rfl⟩
  · exact ⟨_, _, findD_store_of_ne (fun hx => hfour (congrArg Chan.fqFrames hx)) _ _⟩

/-! ## A computed frame -/

/-- A channel whose engine has computed a frame with a delay record d (R106, R122, R532). -/
structure Computed (x : Chan) (d : Option Nat) : Prop where
  wrote : x.wrote = true
  started : x.started = true
  delay : x.delay = d

theorem setChan_computed {c : Nat} {x : Chan} {d : Option Nat} (h : Computed x d) (s : State) : Computed ((s.setChan c x).chan c) d := by
  rw [chan_setChan_wrote s c h.wrote]
  exact h

theorem engineFrame_computed (s : State) (c : Nat) (k : LoopCopy) (m : Option (Bool × Sample × Sample)) (cyc : Nat) (d : Option Nat) :
    Computed ((s.engineFrame c k m cyc d).chan c) d := by
  unfold State.engineFrame
  exact setChan_computed ⟨rfl, rfl, rfl⟩ _

/-- Opening the relay changes the relay command and the way to the end of DISARM, or nothing (R90). -/
theorem openRelay_eq (s : State) (c : Nat) : s.openRelay c = s ∨
    s.openRelay c = s.setChan c { s.chan c with undoing := .opening s.clock, relayCmd := false } :=
  (branch_taken ..).symm

theorem openRelay_computed {s : State} {c : Nat} {d : Option Nat} (h : Computed (s.chan c) d) : Computed ((s.openRelay c).chan c) d := by
  obtain ⟨hwrote, hstarted, hdelay⟩ := h
  rcases openRelay_eq s c with e | e
  · rw [e]
    exact ⟨hwrote, hstarted, hdelay⟩
  · rw [e]
    refine setChan_computed ?_ s
    exact ⟨hwrote, hstarted, hdelay⟩

/-- The fast block with a result and a FORCE, in the slot that follows from the delay of the result (R120, R121, R458). -/
def resultBlock (s : State) (c d : Nat) (force : Sample) : Block :=
  fastBlock false false (slotOf d) (s.targetRange c false) (s.targetRange c true) (s.chan c).codeRange (s.chan c).relayCmd force

/-- What leaves in an active frame. -/
def sendResult (s : State) (c d : Nat) : State :=
  ((s.forceCode c).2.sendFast c (resultBlock (s.forceCode c).2 c d (s.forceCode c).1)).sendFq c

/-- An active channel's frame with a sample and a good state copy is computed, may open the relay, and sends its result (R106). -/
theorem activeFrame_good (s : State) (c : Nat) (m : Bool × Sample × Sample) (cyc d : Nat) :
    ∃ u : State, Computed (u.chan c) (some d) ∧ s.activeFrame c (some m) cyc (some d) .good = sendResult (u.openRelay c) c d :=
  ⟨_, engineFrame_computed _ c _ (some m) cyc (some d), rfl⟩

/-- The record of a channel stands in the frame that sends its result, but for FQ and the frames that FQ makes lost. -/
theorem chan_sendResult (s : State) (c d : Nat) :
    ∃ fq n, (sendResult s c d).chan c = { s.chan c with fq := fq, fqFrames := n } := by
  obtain ⟨fq, n, h⟩ := chan_sendFq ((s.forceCode c).2.sendFast c (resultBlock (s.forceCode c).2 c d (s.forceCode c).1)) c
  rw [chan_sendFast, chan_forceCode] at h
  exact ⟨fq, n, h⟩

theorem mode_sendResult (s : State) (c d : Nat) : (sendResult s c d).mode c = s.mode c := by
  rw [sendResult, mode_sendFq, mode_sendFast, mode_forceCode]

/-- The fast block with a result carries the relay command and the code of FORCE (R458). -/
theorem fast_sendResult (s : State) (c d : Nat) : ∃ rv ri fr, ((sendResult s c d).link c).fast =
    fastBlock false false (slotOf d) rv ri fr (s.chan c).relayCmd (s.forceCode c).1 := by
  rw [sendResult, link_sendFq, fast_sendFast, resultBlock, chan_forceCode]
  exact ⟨_, _, _, rfl⟩

/-! ## The upstream fast block -/

/-- Sync headers heard write the count of invalid ones only (R451). -/
theorem reg_hear (s : State) (c : Nat) (hs : List Nat) {f : Nat} (hf : f ≠ 0x55) : (s.hear c hs).reg .chan c f = s.reg .chan c f :=
  regAt_setRegAt_other _ _ _ _ _ _ _ _ _ _ (by simp only [regKey]; omega)

/-- A good upstream fast block is taken with its samples (R125, R454). -/
theorem takeFastBlock_good {s : State} {c : Nat} {up : Received} {m : Bool × Sample × Sample} (hfq : (s.chan c).fqFrames = 0)
    (hm : readFastBlock ((s.chan c).fq == 3) up.header (payloadIn up) = some m) :
    s.takeFastBlock c (some up) = (some m, (s.hear c [up.header]).setChan c { s.chan c with erred := false }) := by
  have hx : (s.hear c [up.header]).chan c = s.chan c := chan_congr (hear_chans ..) c
  simp [State.takeFastBlock, hx, hfq, hm]

theorem active_takeFastBlock_good {s : State} {c : Nat} {up : Received} {m : Bool × Sample × Sample} (hfq : (s.chan c).fqFrames = 0)
    (hm : readFastBlock ((s.chan c).fq == 3) up.header (payloadIn up) = some m) :
    (s.takeFastBlock c (some up)).2.active c = s.active c := by
  have hreg : ((s.hear c [up.header]).setChan c { s.chan c with erred := false }).reg .chan c 0x20 = s.reg .chan c 0x20 :=
    reg_hear s c [up.header] (by decide)
  simp only [takeFastBlock_good hfq hm, State.active, State.chState, State.rf, hreg]

/-! ## LOOP_UPDATE -/

theorem exec_loopUpdate {s : State} {c : Nat} {up : Received} (hr : s.boot.phase = .running) (hc : c < 512) (hup : up.header < 4)
    (cyc : Nat) (delay : Option Nat) (r : StateRead) :
    exec (.loopUpdate c (some up) cyc delay r .ok) s = .next (s.loopUpdate c (some up) cyc delay r) :=
  exec_happening (i := .loopUpdate c (some up) cyc delay r .ok) rfl (by simp [Instr.wellFormed, headerOk, crossingOk, hc, hup]) hr

/-- LOOP_UPDATE of a trained driving channel with a good upstream block is its active frame (R106). -/
theorem loopUpdate_active {s : State} {c : Nat} {up : Received} {m : Bool × Sample × Sample} (ht : s.trained c = true)
    (ha : s.active c = true) (hfq : (s.chan c).fqFrames = 0)
    (hm : readFastBlock ((s.chan c).fq == 3) up.header (payloadIn up) = some m) (cyc : Nat) (delay : Option Nat) (r : StateRead) :
    s.loopUpdate c (some up) cyc delay r = (s.takeFastBlock c (some up)).2.activeFrame c (some m) cyc delay r := by
  have hheld : s.chState c ≠ chHeld := fun e => by simp [State.active, e, chHeld] at ha
  have hactive := (active_takeFastBlock_good hfq hm).trans ha
  rw [takeFastBlock_good hfq hm] at hactive
  simp [State.loopUpdate, ht, hheld, takeFastBlock_good hfq hm, hactive]

theorem loopUpdate_held {s : State} {c : Nat} (ht : s.trained c = true) (hst : s.chState c = 6) (up : Option Received) (cyc : Nat)
    (delay : Option Nat) (r : StateRead) : s.loopUpdate c up cyc delay r = s := by
  simp [State.loopUpdate, ht, chHeld, hst]

theorem loopUpdate_untrained {s : State} {c : Nat} (ht : s.linkState c ≠ 4) (up : Option Received) (cyc : Nat)
    (delay : Option Nat) (r : StateRead) : s.loopUpdate c up cyc delay r = s.untrainedFrame c up := by
  simp [State.loopUpdate, State.trained, ht]

theorem untrainedFrame_silent {s : State} {c : Nat} (h : s.linkState c ∉ [2, 3, 4, 6]) (up : Option Received) :
    s.untrainedFrame c up = s := by
  simp only [List.mem_cons, List.not_mem_nil, or_false, not_or] at h
  obtain ⟨h2, h3, -, h6⟩ := h
  unfold State.untrainedFrame
  split
  · exact absurd ‹_› h2
  · exact absurd ‹_› h3
  · exact absurd ‹_› h6
  · rfl

theorem untrainedFrame_training {s : State} {c : Nat} (h : s.linkState c = 2) (up : Option Received) :
    s.untrainedFrame c up = s.sendTraining c := by
  simp [State.untrainedFrame, h]

theorem untrainedFrame_idle {s : State} {c : Nat} (h : s.linkState c = 3 ∨ s.linkState c = 6) (up : Option Received) :
    s.untrainedFrame c up = ((s.takeFastBlock c up).2.sendIdle c 8).sendFq c := by
  rcases h with h | h <;> simp [State.untrainedFrame, h]

/-! ## Frames in which no engine computes -/

/-- The engine of channel c has done nothing, and no sample has reached a sequencer or a unit. -/
structure Unused (s t : State) (c : Nat) : Prop where
  cur : (t.chan c).cur = (s.chan c).cur
  started : (t.chan c).started = (s.chan c).started
  code : (t.chan c).code = (s.chan c).code
  seqs : t.seqs = s.seqs
  acqs : t.acqs = s.acqs

theorem Unused.trans {s t u : State} {c : Nat} (h : Unused s t c) (k : Unused t u c) : Unused s u c :=
  ⟨k.cur.trans h.cur, k.started.trans h.started, k.code.trans h.code, k.seqs.trans h.seqs, k.acqs.trans h.acqs⟩

/-- Where the records of all channels stand as they were, the engine has done nothing. -/
theorem Unused.of_chans {s t : State} (c : Nat) (hx : t.chans = s.chans) (hseqs : t.seqs = s.seqs) (hacqs : t.acqs = s.acqs) :
    Unused s t c := by
  have hc := chan_congr hx c
  exact ⟨by rw [hc], by rw [hc], by rw [hc], hseqs, hacqs⟩

/-- A new record of channel c with the copy, the start and the code of the old one: FQ and lost fast blocks are such changes (R463). -/
theorem unused_setChan {s : State} (h : sortedKeys s.chans = true) {c : Nat} {x : Chan} (hcur : x.cur = (s.chan c).cur)
    (hstarted : x.started = (s.chan c).started) (hcode : x.code = (s.chan c).code) : Unused s (s.setChan c x) c := by
  have hx := chan_setChan h c x
  exact ⟨by rw [hx, hcur], by rw [hx, hstarted], by rw [hx, hcode], rfl, rfl⟩

@[simp] theorem linkError_chans (s : State) (c : Nat) : (s.linkError c).chans = s.chans := by
  unfold State.linkError
  dsimp only
  split <;> simp

@[simp] theorem linkError_seqs (s : State) (c : Nat) : (s.linkError c).seqs = s.seqs := by
  unfold State.linkError
  dsimp only
  split <;> simp

@[simp] theorem linkError_acqs (s : State) (c : Nat) : (s.linkError c).acqs = s.acqs := by
  unfold State.linkError
  dsimp only
  split <;> simp

theorem unused_fastBlockLost {s : State} (h : sortedKeys s.chans = true) (c : Nat) : Unused s (s.fastBlockLost c) c := by
  have hlost : Unused s ((s.count .chan c 0x53).linkError c) c := Unused.of_chans c (by simp) (by simp) (by simp)
  have hx : ((s.count .chan c 0x53).linkError c).chan c = s.chan c := chan_congr (by simp) c
  refine hlost.trans (unused_setChan (by simpa using h) ?_ ?_ ?_) <;> rw [hx]

/-- Taking an upstream fast block, good or lost, is no work of the engine (R463). -/
theorem unused_takeFastBlock {s : State} (h : sortedKeys s.chans = true) (c : Nat) (up : Received) :
    Unused s (s.takeFastBlock c (some up)).2 c := by
  have hs : sortedKeys (s.hear c [up.header]).chans = true := by simpa using h
  have hheard : Unused s (s.hear c [up.header]) c := Unused.of_chans c (by simp) (by simp) (by simp)
  refine hheard.trans ?_
  unfold State.takeFastBlock
  dsimp only
  split
  · exact unused_setChan hs rfl rfl rfl
  · split
    · exact unused_setChan hs rfl rfl rfl
    · exact unused_fastBlockLost hs c

theorem unused_sendFast (s : State) (c : Nat) (b : Block) : Unused s (s.sendFast c b) c := Unused.of_chans c rfl rfl rfl

theorem unused_sendFq (s : State) (c : Nat) : Unused s (s.sendFq c) c := by
  obtain ⟨fq, n, hx⟩ := chan_sendFq s c
  have hrest : (s.sendFq c).seqs = s.seqs ∧ (s.sendFq c).acqs = s.acqs := by
    rcases sendFq_eq s c with e | e <;> rw [e] <;> exact ⟨rfl, rfl⟩
  exact ⟨by rw [hx], by rw [hx], by rw [hx], hrest.1, hrest.2⟩

/-! ## LATE_RESULT -/

/-- A late result leaves as a hold block, and counts against the engine that serves the octet (R123). -/
theorem lateResult_active {s : State} {c n : Nat} (ha : s.active c = true) (hn : s.engineOf (octetOf c) = some n) (slot : Nat) :
    s.lateResult c slot = (s.sendHold c slot).engineError .engineLate n := by
  simp [State.lateResult, ha, hn]

/-! ## The statement -/

/-- Settles O33: a good block of a driving channel leads to a computed frame whose result is sent; in every other case the premise
chooses a branch in which no engine computes. -/
theorem loopUpdatesAnswerTheirSamples : Obligations.LoopUpdatesAnswerTheirSamples := by
  refine ⟨?_, ?_, ?_⟩
  · intro s c cyc d up m hr hc hup ht ha hfq hm
    obtain ⟨u, hu, hframe⟩ := activeFrame_good (s.takeFastBlock c (some up)).2 c m cyc d
    obtain ⟨hwrote, hstarted, hdelay⟩ := openRelay_computed hu
    obtain ⟨fq, n, hx⟩ := chan_sendResult (u.openRelay c) c d
    obtain ⟨rv, ri, fr, hfast⟩ := fast_sendResult (u.openRelay c) c d
    refine ⟨sendResult (u.openRelay c) c d, rv, ri, fr, ((u.openRelay c).forceCode c).1, ?_, ?_, ?_, ?_, ?_, ?_⟩
    · rw [exec_loopUpdate hr hc hup, loopUpdate_active ht ha hfq hm, hframe]
    · rw [hx, hwrote]
    · rw [hx, hstarted]
    · rw [hx, hdelay]
    · rw [hx, hfast]
    · rw [hx, mode_sendResult]
      exact forceCode_computed
  · intro s c cyc up delay r hr hc hup
    rw [exec_loopUpdate hr hc hup]
    refine ⟨fun ht hst => ?_, fun hls => ?_, fun hls => ?_, fun hls hs => ?_⟩
    · rw [loopUpdate_held ht hst]
    · have h4 : s.linkState c ≠ 4 := fun e => hls (by simp [e])
      rw [loopUpdate_untrained h4, untrainedFrame_silent hls]
    · have h4 : s.linkState c ≠ 4 := by omega
      rw [loopUpdate_untrained h4, untrainedFrame_training hls]
      rfl
    · have h4 : s.linkState c ≠ 4 := by omega
      obtain ⟨hcur, hstarted, hcode, hseqs, hacqs⟩ :=
        ((unused_takeFastBlock hs c up).trans (unused_sendFast _ c _)).trans (unused_sendFq _ c)
      rw [loopUpdate_untrained h4, untrainedFrame_idle hls]
      exact ⟨_, rfl, hcur, hstarted, hcode, hseqs, hacqs⟩
  · intro s c slot n hr hc hslot ha hn
    rw [exec_happening (i := .lateResult c slot) rfl (by simp [Instr.wellFormed, hc, hslot]) hr, lateResult_active ha hn]

end Sys2Proof.LoopEngine
end

section
/-!
PROOFS. 04_loop_extensions: what a word or a bit of an object reads after a write of that object.
-/

namespace Sys2Proof.LoopExtensions

open Sys2Proof Sys2Proof.Machine Sys2Proof.LoopEngine

/-! ## Bits of a word -/

/-- A number with one bit replaced: the bits above, the new one, the bits below. -/
theorem putBits_one (n i v : Nat) : putBits n i i v = 2 ^ i * (2 * (n / 2 ^ (i + 1)) + v % 2) + n % 2 ^ i := by
  have hlow := Nat.div_add_mod n (2 ^ i)
  have hhigh := Nat.div_add_mod (n / 2 ^ i) 2
  rw [Nat.div_div_eq_div_mul, ← Nat.pow_succ] at hhigh
  have hwhole : n = 2 ^ i * (2 * (n / 2 ^ (i + 1))) + n / 2 ^ i % 2 * 2 ^ i + n % 2 ^ i := by
    rw [Nat.mul_comm (n / 2 ^ i % 2), ← Nat.mul_add, hhigh, hlow]
  rw [putBits, bitsOf, Nat.add_sub_cancel_left, Nat.pow_one, Nat.mul_add, Nat.mul_comm (v % 2)]
  omega

theorem bitAt_eq_testBit (w : Word) (i : Nat) : bitAt w i = w.toNat.testBit i := by
  rw [bitAt, bitsOf, Nat.add_sub_cancel_left, Nat.pow_one, Nat.testBit_eq_decide_div_mod_eq]
  rfl

theorem bitAt_putFld_same (w : Word) {i : Nat} (hi : i < 32) (b : Bool) : bitAt (putFld w i i b.toNat) i = b := by
  rw [bitAt_eq_testBit, putFld, putBits_one, BitVec.toNat_ofNat, Nat.testBit_mod_two_pow,
    Nat.testBit_two_pow_mul_add _ (Nat.mod_lt _ (Nat.two_pow_pos i)), Nat.sub_self]
  cases b <;> simp [hi]

theorem bitAt_putFld_other (w : Word) {i j : Nat} (h : j ≠ i) (b : Bool) : bitAt (putFld w i i b.toNat) j = bitAt w j := by
  have hw : w.toNat.testBit j = (decide (j < 32) && w.toNat.testBit j) := by
    rw [← Nat.testBit_mod_two_pow, Nat.mod_eq_of_lt w.isLt]
  rw [bitAt_eq_testBit, bitAt_eq_testBit, hw, putFld, putBits_one, BitVec.toNat_ofNat, Nat.testBit_mod_two_pow,
    Nat.testBit_two_pow_mul_add _ (Nat.mod_lt _ (Nat.two_pow_pos i))]
  congr 1
  split
  · next hlt => simp [hlt]
  · obtain ⟨k, rfl⟩ : ∃ k, j = i + 1 + k := ⟨j - (i + 1), by omega⟩
    have hv : (2 * (w.toNat / 2 ^ (i + 1)) + b.toNat % 2) / 2 = w.toNat / 2 ^ (i + 1) := by omega
    rw [show i + 1 + k - i = k + 1 by omega, Nat.testBit_succ, hv, Nat.testBit_div_two_pow, Nat.add_comm k]

/-! ## Words of one object -/

theorem reg_setReg_same {s : State} (h : s.regsCanonical) (o : Obj) (n f : Nat) (v : Word) : (s.setReg o n f v).reg o n f = v :=
  regAt_setRegAt_same _ _ _ _ _ _ h

theorem reg_setReg_field {f g : Nat} (h : g ≠ f) (s : State) (o : Obj) (n : Nat) (v : Word) :
    (s.setReg o n f v).reg o n g = s.reg o n g :=
  regAt_setRegAt_other _ _ _ _ _ _ _ _ _ _ (by simp only [regKey]; omega)

/-- A write leaves the objects of another type alone that have the same number. -/
theorem reg_setReg_obj {o p : Obj} (h : objCode p ≠ objCode o) {f g : Nat} (hf : f < 65536) (hg : g < 65536) (s : State) (n : Nat)
    (v : Word) : (s.setReg o n f v).reg p n g = s.reg p n g :=
  regAt_setRegAt_other _ _ _ _ _ _ _ _ _ _ (by simp only [regKey]; omega)

theorem reg_setRb_field {f g : Nat} (h : g ≠ f) (s : State) (o : Obj) (n i : Nat) (b : Bool) :
    (s.setRb o n f i b).reg o n g = s.reg o n g := reg_setReg_field h ..

theorem reg_setRb_obj {o p : Obj} (h : objCode p ≠ objCode o) {f g : Nat} (hf : f < 65536) (hg : g < 65536) (s : State) (n i : Nat)
    (b : Bool) : (s.setRb o n f i b).reg p n g = s.reg p n g := reg_setReg_obj h hf hg ..

theorem chan_setReg (s : State) (o : Obj) (n f : Nat) (v : Word) (c : Nat) : (s.setReg o n f v).chan c = s.chan c :=
  chan_congr (State.setReg_chans ..) c

/-- A word is read off the word file. -/
theorem reg_congr {s t : State} (h : t.regs = s.regs) (o : Obj) (n f : Nat) : t.reg o n f = s.reg o n f := by
  rw [State.reg, State.regAt, h, State.reg, State.regAt]

theorem reg_setChan (s : State) (c : Nat) (x : Chan) (o : Obj) (n f : Nat) : (s.setChan c x).reg o n f = s.reg o n f :=
  reg_congr rfl ..

theorem rb_setChan (s : State) (c : Nat) (x : Chan) (o : Obj) (n f i : Nat) : (s.setChan c x).rb o n f i = s.rb o n f i := by
  rw [State.rb, reg_setChan, State.rb]

theorem rb_setRb_same {s : State} (h : s.regsCanonical) (o : Obj) (n f : Nat) {i : Nat} (hi : i < 32) (b : Bool) :
    (s.setRb o n f i b).rb o n f i = b := by
  rw [State.rb, State.setRb, State.setRf, reg_setReg_same h, bitAt_putFld_same _ hi]

theorem rb_setRb_bit {s : State} (h : s.regsCanonical) (o : Obj) (n f : Nat) {i j : Nat} (hj : j ≠ i) (b : Bool) :
    (s.setRb o n f i b).rb o n f j = s.rb o n f j := by
  rw [State.rb, State.setRb, State.setRf, reg_setReg_same h, bitAt_putFld_other _ hj, State.rb]

theorem regsCanonical_setReg {s : State} (h : s.regsCanonical) (o : Obj) (n f : Nat) (v : Word) : (s.setReg o n f v).regsCanonical :=
  regsWf_setRegAt _ _ _ _ _ _ h

theorem regsCanonical_setRb {s : State} (h : s.regsCanonical) (o : Obj) (n f i : Nat) (b : Bool) :
    (s.setRb o n f i b).regsCanonical := regsCanonical_setReg h ..

end Sys2Proof.LoopExtensions
end

section
/-!
PROOFS. 04_loop_extensions: REPET_BIN_END.
-/

namespace Sys2Proof.LoopExtensions

open Sys2Proof Sys2Proof.Machine Sys2Proof.LoopEngine

/-! ## A bin of the repetitive controller -/

/-- u of a learnt bin j whose errors add up to sum (R167), with GAIN divided as the engine divides (R102, log entry 97). -/
def learntU (s : State) (c j : Nat) (sum : Word) : Word :=
  fma (fquot (s.reg .repet c 2) (ofInt (s.decim c))) sum (fmul (s.reg .repet c 3) (s.bin c j))

/-- The filtered sum over u and the two bins before it (R167). -/
def filtered (s : State) (c : Nat) (u : Word) : Word :=
  let r := (s.chan c).repet
  fma (s.reg .repet c 5) (fadd r.u2 u) (fmul (s.reg .repet c 4) r.u1)

/-- The value of a bin: a filtered sum within the cap (R167). -/
def capped (s : State) (c : Nat) (v : Word) : Word := fclamp (fneg (s.reg .repet c 6)) (s.reg .repet c 6) v

/-- The bin behind bin j. -/
def binBehind (s : State) (c j : Nat) : Nat := (j + s.nBin c - 1) % s.nBin c

/-- The words that a learnt bin writes: the bin behind it, the largest correction, and the two flags of STATUS (R167). -/
def binWords (s : State) (c j : Nat) (v : Word) : State :=
  let t := s.setReg .repet c (0x800 + binBehind s c j) (capped s c v)
  let t := t.setReg .repet c 0x23 (fmax (fabs (capped s c v)) (t.reg .repet c 0x23))
  (t.setRb .repet c 0x20 19 true).setRb .repet c 0x20 18 (flt (s.reg .repet c 6) (fabs v))

/-- The controller once a completed bin has been learnt. -/
def learntRecord (r : Repet) (u : Word) : Repet := { r with done := none, u1 := u, u2 := r.u1 }

/-- A bin that may be learned writes its words, and its u joins those kept (R167). -/
theorem binEnd_learnt {s : State} {c j : Nat} {sum : Word} (hd : (s.chan c).repet.done = some (j, sum, true))
    (hl : s.rb .repet c 1 31 = true) :
    s.binEnd c = (binWords s c j (filtered s c (learntU s c j sum))).setChan c
      { s.chan c with repet := learntRecord (s.chan c).repet (learntU s c j sum) } := by
  simp only [State.binEnd, hd, hl, Bool.and_self, Bool.not_true, Bool.and_false, Bool.false_eq_true, if_false, if_true, chan_setRb,
    chan_setReg]
  rfl

theorem bin_setReg_field {f i : Nat} (h : f < 0x800) (s : State) (c : Nat) (v : Word) :
    (s.setReg .repet c f v).bin c i = s.bin c i := reg_setReg_field (by omega) ..

theorem bin_setRb_field {f i : Nat} (h : f < 0x800) (s : State) (c k : Nat) (b : Bool) :
    (s.setRb .repet c f k b).bin c i = s.bin c i := bin_setReg_field h ..

theorem bin_setChan (s : State) (c d : Nat) (x : Chan) (i : Nat) : (s.setChan d x).bin c i = s.bin c i := reg_setChan ..

/-- The bin behind holds the capped value: the other words that are written are no bins. -/
theorem bin_binWords {s : State} (h : s.regsCanonical) (c j : Nat) (v : Word) :
    (binWords s c j v).bin c (binBehind s c j) = capped s c v := by
  simp only [binWords]
  rw [bin_setRb_field (by decide), bin_setRb_field (by decide), bin_setReg_field (by decide), State.bin, reg_setReg_same h]

theorem learned_binWords {s : State} (h : s.regsCanonical) (c j : Nat) (v : Word) : (binWords s c j v).rb .repet c 0x20 19 = true := by
  have hw := regsCanonical_setReg (regsCanonical_setReg h .repet c (0x800 + binBehind s c j) (capped s c v)) .repet c 0x23
  simp only [binWords]
  rw [rb_setRb_bit (regsCanonical_setRb (hw _) ..) _ _ _ (by decide), rb_setRb_same (hw _) _ _ _ (by decide)]

theorem chans_binWords (s : State) (c j : Nat) (v : Word) : (binWords s c j v).chans = s.chans := by simp [binWords]

/-- Settles O32: a learnt bin writes its words, among them the bin behind it, and its u is kept. -/
theorem repetitiveBinsLearn : Obligations.RepetitiveBinsLearn := by
  intro s c j sum hr hc hregs hs hj hn hd hl r u v cap
  have hs' : sortedKeys (binWords s c j v).chans = true := by rw [chans_binWords, hs]
  refine ⟨(binWords s c j v).setChan c { s.chan c with repet := learntRecord r u }, ?_, ?_, ?_, ?_⟩
  · rw [exec_happening (i := .repetBinEnd c) rfl (decide_eq_true hc) hr, binEnd_learnt hd hl]
    rfl
  · rw [bin_setChan]
    exact bin_binWords hregs c j v
  · rw [chan_setChan hs']
    rfl
  · rw [rb_setChan]
    exact learned_binWords hregs c j v

end Sys2Proof.LoopExtensions
end

section
/-!
PROOFS. 04_loop_extensions: OUTER_UPDATE.
-/

namespace Sys2Proof.LoopExtensions

open Sys2Proof Sys2Proof.Machine Sys2Proof.LoopEngine

/-! ## The outer law, value by value -/

/-- The mean of the regulated quantity over the good frames (R150), divided as the engine divides (R102, log entry 97). -/
def lawMean (s : State) (c : Nat) : Word := meanEng (s.chan c).outer.sumY (s.chan c).outer.good

/-- The error of the outer loop (R151). -/
def lawError (s : State) (c : Nat) : Word := fsub (s.chan c).outer.ro (lawMean s c)

/-- The law without its integrator: the proportional term on the feedforward term (R151, R152). -/
def lawBase (s : State) (c : Nat) : Word :=
  let o := (s.chan c).outer
  fma (s.reg .outer c 2) (lawError s c) (s.feedforward c o.ro (meanEng o.sumV o.good) (meanEng o.sumI o.good))

/-- The integrator from which the update starts (R156). -/
def lawBegun (s : State) (c : Nat) : Word :=
  let o := (s.chan c).outer
  if o.adopt then fsub (if s.negQuadrant c then fneg o.inner else o.inner) (lawBase s c) else s.reg .outer c 0x22

/-- The integrator stands still (R151, R218). -/
def lawStays (s : State) (c : Nat) : Bool :=
  let lo := s.reg .outer c 5
  let hi := s.reg .outer c 4
  let un := fadd (lawBase s c) (lawBegun s c)
  let e := lawError s c
  s.inCompliance c || s.forcedRising c || (s.rb .outer c 0 5 && ((flt hi un && fpos e) || (flt un lo && flt e 0)))

/-- The integrator after the update (R151). -/
def lawInteg (s : State) (c : Nat) : Word :=
  if lawStays s c then lawBegun s c
  else fclamp (s.reg .outer c 5) (s.reg .outer c 4)
    (fadd (lawBegun s c) (fmul (fmul (s.reg .outer c 3) (fmul (ofInt (s.divider c)) frame32)) (lawError s c)))

/-- The sum of the law before its clamp (R151). -/
def lawSum (s : State) (c : Nat) : Word := fadd (lawBase s c) (lawInteg s c)

/-- The output of the law (R151). -/
def lawOutput (s : State) (c : Nat) : Word := fclamp (s.reg .outer c 5) (s.reg .outer c 4) (lawSum s c)

/-- The inner set-point that the law asks for (R151). -/
def lawInner (s : State) (c : Nat) : Word := if s.negQuadrant c then fneg (lawOutput s c) else lawOutput s c

/-- The hand-off that the law begins, in one frame or in those of the divider (R154). -/
def lawHandOff (s : State) (c : Nat) : Outer :=
  (s.chan c).outer.begins (lawInner s c) (if s.rb .outer c 0 6 then s.divider c else 1)

/-- The words and bits of OUTER that the law writes (R147, R151). -/
def lawWords (s : State) (c : Nat) : State :=
  let t := ((s.setReg .outer c 0x21 (lawMean s c)).setReg .outer c 0x22 (lawInteg s c)).setReg .outer c 0x23 (lawOutput s c)
  ((t.setRb .outer c 0x20 6 (lawStays s c)).setRb .outer c 0x20 5
    (flt (lawSum s c) (s.reg .outer c 5) || flt (s.reg .outer c 4) (lawSum s c))).setRb .outer c 0x20 4 (lawHandOff s c).ramps

/-- The outer loop and its words after the law, before a following error is judged. -/
def lawWritten (s : State) (c : Nat) : State :=
  (lawWords s c).setChan c { (lawWords s c).chan c with outer := { (lawHandOff s c).restart with adopt := false } }

/-! ## A following error is judged beside the loop -/

/-- The outer loop of channel c and its words are as they were. -/
structure KeepsOuter (s t : State) (c : Nat) : Prop where
  reg : ∀ f < 65536, t.reg .outer c f = s.reg .outer c f
  record : (t.chan c).outer = (s.chan c).outer

theorem keepsOuter_refl (s : State) (c : Nat) : KeepsOuter s s c := ⟨fun _ _ => rfl, rfl⟩

/-- A following error writes words of PROFILE and the record of supervision (R184, R185). -/
theorem keepsOuter_evalFollow {s : State} (h : sortedKeys s.chans = true) (c : Nat) (fe : Word) :
    KeepsOuter s (s.evalFollow c fe) c := by
  refine ⟨fun f hf => ?_, ?_⟩
  · simp only [State.evalFollow]
    rw [reg_setChan, reg_setRb_obj (by decide) (by decide) hf, reg_setReg_obj (by decide) (by decide) hf]
  · simp only [State.evalFollow]
    rw [chan_setChan (by simpa using h), chan_setReg]

/-- The law writes its words and its record, and a following error is judged beside (R151, R184). -/
theorem keepsOuter_outerLaw {s : State} (h : sortedKeys s.chans = true) (c : Nat) : KeepsOuter (lawWritten s c) (s.outerLaw c) c := by
  have hs : sortedKeys (lawWritten s c).chans = true := sortedKeys_setChan (by simpa [lawWords] using h) ..
  unfold State.outerLaw
  dsimp only
  split
  · exact keepsOuter_evalFollow hs c _
  · exact keepsOuter_refl _ c

/-! ## What the law leaves -/

theorem outer_lawWritten {s : State} (h : sortedKeys s.chans = true) (c : Nat) :
    ((lawWritten s c).chan c).outer = { (lawHandOff s c).restart with adopt := false } := by
  rw [lawWritten, chan_setChan (by simpa [lawWords] using h)]

theorem regsCanonical_lawResults {s : State} (h : s.regsCanonical) (c : Nat) (y integ u : Word) :
    (((s.setReg .outer c 0x21 y).setReg .outer c 0x22 integ).setReg .outer c 0x23 u).regsCanonical :=
  regsCanonical_setReg (regsCanonical_setReg (regsCanonical_setReg h ..) ..) ..

/-- Y_MEAN, the integrator and the output are those of the law (R150, R151). -/
theorem results_lawWritten {s : State} (h : s.regsCanonical) (c : Nat) :
    (lawWritten s c).reg .outer c 0x21 = lawMean s c ∧ (lawWritten s c).reg .outer c 0x22 = lawInteg s c ∧
      (lawWritten s c).reg .outer c 0x23 = lawOutput s c := by
  have h1 := regsCanonical_setReg h .outer c 0x21 (lawMean s c)
  have h2 := regsCanonical_setReg h1 .outer c 0x22 (lawInteg s c)
  simp only [lawWritten, lawWords, reg_setChan]
  refine ⟨?_, ?_, ?_⟩ <;> rw [reg_setRb_field (by decide), reg_setRb_field (by decide), reg_setRb_field (by decide)]
  · rw [reg_setReg_field (by decide), reg_setReg_field (by decide), reg_setReg_same h]
  · rw [reg_setReg_field (by decide), reg_setReg_same h1]
  · rw [reg_setReg_same h2]

/-- STATUS says whether the integrator stands still (R147). -/
theorem stays_lawWritten {s : State} (h : s.regsCanonical) (c : Nat) : (lawWritten s c).rb .outer c 0x20 6 = lawStays s c := by
  have hw := regsCanonical_lawResults h c (lawMean s c) (lawInteg s c) (lawOutput s c)
  have h6 := regsCanonical_setRb hw .outer c 0x20 6 (lawStays s c)
  simp only [lawWritten, lawWords, rb_setChan]
  rw [rb_setRb_bit (regsCanonical_setRb h6 ..) _ _ _ (by decide), rb_setRb_bit h6 _ _ _ (by decide),
    rb_setRb_same hw _ _ _ (by decide)]

/-- A set-point handed off over one frame is in effect in the next (R154). -/
theorem handOff_begins_one (o : Outer) (ri : Word) : (o.begins ri 1).handOff.inner = ri := rfl

/-- A set-point handed off over several frames has covered its share (R154), divided as the engine divides (R102, log entry 97). -/
theorem handOff_between {o : Outer} (hpos : 0 < o.step) (hspan : o.step < o.span) :
    o.handOff.inner = fadd o.fromSp (fquot (fmul (fsub o.toSp o.fromSp) (ofInt o.step)) (ofInt o.span)) := by
  rw [Outer.handOff, if_neg (Nat.ne_of_gt hpos), if_neg (Nat.not_le.2 hspan)]

/-! ## The update begins -/

/-- The state in which an update is computed: the thermal source is not lost (R159). -/
def updateBegun (s : State) (c : Nat) : State :=
  (s.setRb .outer c 0x20 7 false).setChan c { s.chan c with outer := { (s.chan c).outer with lostSent := false } }

theorem chan_updateBegun {s : State} (h : sortedKeys s.chans = true) (c : Nat) :
    (updateBegun s c).chan c = { s.chan c with outer := { (s.chan c).outer with lostSent := false } } :=
  chan_setChan (by simpa using h) ..

theorem regsCanonical_updateBegun {s : State} (h : s.regsCanonical) (c : Nat) : (updateBegun s c).regsCanonical :=
  regsCanonical_setRb h ..

theorem sortedKeys_updateBegun {s : State} (h : sortedKeys s.chans = true) (c : Nat) : sortedKeys (updateBegun s c).chans = true :=
  sortedKeys_setChan (by simpa using h) ..

theorem reg_updateBegun {f : Nat} (hf : f ≠ 0x20) (s : State) (c : Nat) : (updateBegun s c).reg .outer c f = s.reg .outer c f := by
  rw [updateBegun, reg_setChan, reg_setRb_field hf]

theorem regChan_updateBegun {f : Nat} (hf : f < 65536) (s : State) (c : Nat) : (updateBegun s c).reg .chan c f = s.reg .chan c f := by
  rw [updateBegun, reg_setChan, reg_setRb_obj (by decide) (by decide) hf]

/-- An update that is due, with fresh feedback, follows the law where its period holds a good frame, else begins the next period
(R150, R151, R159). -/
theorem outerUpdate_due {s : State} {c : Nat} (hruns : s.outerRuns c = true) (hdue : (s.chan c).outer.due = true)
    (hfresh : s.feedbackFresh c = true) : s.outerUpdate c = if (s.chan c).outer.good = 0 then
      (updateBegun s c).setChan c { (updateBegun s c).chan c with outer := ((updateBegun s c).chan c).outer.restart }
      else (updateBegun s c).outerLaw c := by
  simp only [State.outerUpdate, updateBegun, hruns, hdue, hfresh, Bool.and_self, Bool.not_true, Bool.false_eq_true, if_false,
    chan_setRb]

section
variable (s : State) (c : Nat)

theorem mode_updateBegun : (updateBegun s c).mode c = s.mode c := by
  simp only [State.mode, State.rf, regChan_updateBegun (f := 0) (by decide)]

theorem negQuadrant_updateBegun : (updateBegun s c).negQuadrant c = s.negQuadrant c := by
  simp only [State.negQuadrant, State.polarity, State.rb, mode_updateBegun, regChan_updateBegun (f := 0) (by decide)]

theorem forced_updateBegun : (updateBegun s c).forced c = s.forced c := by
  simp only [State.forced, State.innerCurrent, State.rf, mode_updateBegun, regChan_updateBegun (f := 0) (by decide)]

theorem divider_updateBegun : (updateBegun s c).divider c = s.divider c := by
  simp only [State.divider, State.rf, reg_updateBegun (f := 0) (by decide)]

theorem rb_updateBegun (i : Nat) : (updateBegun s c).rb .outer c 0 i = s.rb .outer c 0 i := by
  simp only [State.rb, reg_updateBegun (f := 0) (by decide)]

theorem inCompliance_updateBegun : (updateBegun s c).inCompliance c = s.inCompliance c := by
  simp only [State.inCompliance, State.rb, regChan_updateBegun (f := 0x21) (by decide)]

theorem activeRange_updateBegun (current : Bool) : (updateBegun s c).activeRange c current = s.activeRange c current := by
  simp only [State.activeRange, State.rf, regChan_updateBegun (f := 0x21) (by decide)]

theorem feedforward_updateBegun (ro v i : Word) : (updateBegun s c).feedforward c ro v i = s.feedforward c ro v i := by
  have hcurrent : (updateBegun s c).forcesCurrent c = s.forcesCurrent c := by
    rw [State.forcesCurrent, forced_updateBegun, State.forcesCurrent]
  unfold State.feedforward
  rw [rb_updateBegun, mode_updateBegun, hcurrent, reg_updateBegun (by decide), reg_updateBegun (by decide)]

end

section
variable {s : State} (h : sortedKeys s.chans = true) (c : Nat)
include h

theorem forcedRising_updateBegun : (updateBegun s c).forcedRising c = s.forcedRising c := by
  simp only [State.forcedRising, chan_updateBegun h, forced_updateBegun, activeRange_updateBegun]

theorem lawMean_updateBegun : lawMean (updateBegun s c) c = lawMean s c := by simp only [lawMean, chan_updateBegun h]

theorem lawError_updateBegun : lawError (updateBegun s c) c = lawError s c := by
  simp only [lawError, lawMean_updateBegun h, chan_updateBegun h]

theorem lawBase_updateBegun : lawBase (updateBegun s c) c = lawBase s c := by
  simp only [lawBase, lawError_updateBegun h, feedforward_updateBegun, chan_updateBegun h, reg_updateBegun (f := 2) (by decide)]

theorem lawBegun_updateBegun : lawBegun (updateBegun s c) c = lawBegun s c := by
  simp only [lawBegun, lawBase_updateBegun h, negQuadrant_updateBegun, chan_updateBegun h, reg_updateBegun (f := 0x22) (by decide)]

theorem lawStays_updateBegun : lawStays (updateBegun s c) c = lawStays s c := by
  simp only [lawStays, lawBase_updateBegun h, lawBegun_updateBegun h, lawError_updateBegun h, inCompliance_updateBegun,
    forcedRising_updateBegun h, rb_updateBegun, reg_updateBegun (f := 4) (by decide), reg_updateBegun (f := 5) (by decide)]

theorem lawInteg_updateBegun : lawInteg (updateBegun s c) c = lawInteg s c := by
  simp only [lawInteg, lawStays_updateBegun h, lawBegun_updateBegun h, lawError_updateBegun h, divider_updateBegun,
    reg_updateBegun (f := 3) (by decide), reg_updateBegun (f := 4) (by decide), reg_updateBegun (f := 5) (by decide)]

theorem lawOutput_updateBegun : lawOutput (updateBegun s c) c = lawOutput s c := by
  simp only [lawOutput, lawSum, lawBase_updateBegun h, lawInteg_updateBegun h, reg_updateBegun (f := 4) (by decide),
    reg_updateBegun (f := 5) (by decide)]

theorem lawInner_updateBegun : lawInner (updateBegun s c) c = lawInner s c := by
  simp only [lawInner, lawOutput_updateBegun h, negQuadrant_updateBegun]

/-- The hand-off is that of the law, from the inner set-point in effect, with the loss of the source told no longer (R154, R159). -/
theorem lawHandOff_updateBegun : lawHandOff (updateBegun s c) c = { lawHandOff s c with lostSent := false } := by
  simp only [lawHandOff, lawInner_updateBegun h, chan_updateBegun h, rb_updateBegun, divider_updateBegun]
  rfl

end

/-! ## OUTER_UPDATE -/

/-- An update whose period holds a good frame writes the results of the law, and begins its hand-off (R150, R151, R154). -/
theorem outerLaw_updateBegun {s : State} (hr : s.regsCanonical) (h : sortedKeys s.chans = true) (c : Nat) :
    let t := (updateBegun s c).outerLaw c
    t.reg .outer c 0x21 = lawMean s c ∧ t.reg .outer c 0x22 = lawInteg s c ∧ t.reg .outer c 0x23 = lawOutput s c ∧
      t.rb .outer c 0x20 6 = lawStays s c ∧
      (t.chan c).outer = { (lawHandOff s c).restart with adopt := false, lostSent := false } := by
  intro t
  have hr' := regsCanonical_updateBegun hr c
  have h' := sortedKeys_updateBegun h c
  obtain ⟨hreg, hrecord⟩ := keepsOuter_outerLaw h' c
  obtain ⟨hmean, hinteg, houtput⟩ := results_lawWritten hr' c
  have hstays : t.rb .outer c 0x20 6 = lawStays (updateBegun s c) c := by
    rw [← stays_lawWritten hr' c, State.rb, State.rb, hreg 0x20 (by decide)]
  rw [hreg 0x21 (by decide), hreg 0x22 (by decide), hreg 0x23 (by decide), hmean, hinteg, houtput, hstays, hrecord,
    outer_lawWritten h', lawMean_updateBegun h, lawInteg_updateBegun h, lawOutput_updateBegun h, lawStays_updateBegun h,
    lawHandOff_updateBegun h]
  exact ⟨rfl, rfl, rfl, rfl, rfl⟩

/-- Settles O31: a period with a good frame runs the law, whose values are read off the state before the update; one without begins
the next period, and writes no other word than STATUS. -/
theorem outerLoopFollowsItsLaw : Obligations.OuterLoopFollowsItsLaw := by
  intro s c hr hc hregs hs hruns hdue hfresh o
  have hexec := exec_happening (i := .outerUpdate c) rfl (decide_eq_true hc) hr
  rw [outerUpdate_due hruns hdue hfresh] at hexec
  refine ⟨fun hgood => ?_, fun hgood => ?_, fun x k hk hpos hspan => ?_⟩
  · rw [if_neg hgood] at hexec
    obtain ⟨hmean, hinteg, houtput, hstays, hrecord⟩ := outerLaw_updateBegun hregs hs c
    refine ⟨(updateBegun s c).outerLaw c, hexec, hmean, hinteg, houtput, hstays, ?_⟩
    rw [hrecord]
    refine ⟨rfl, rfl, rfl, fun hoff => ?_, fun hon => ?_⟩
    · rw [lawHandOff, hoff]
      exact handOff_begins_one o (lawInner s c)
    · rw [lawHandOff, hon]
      exact ⟨rfl, rfl, rfl, rfl⟩
  · rw [if_pos hgood] at hexec
    refine ⟨_, hexec, ?_, ?_⟩
    · rw [chan_setChan (sortedKeys_updateBegun hs c), chan_updateBegun hs]
      rfl
    · simp [reg_setChan, reg_updateBegun]
  · subst hk
    exact handOff_between hpos hspan

end Sys2Proof.LoopExtensions
end

section
/-!
PROOFS. 05_ranging_calibration: DEV_CAL_WRITE, DEV_CAL_SEAL, DEV_CAL_FREE and DEV_CAL_INFO.
-/

namespace Sys2Proof.RangingCalibration

open Sys2Proof Sys2Proof.Machine Sys2Proof.Organisation

/-! ## Checks that are passed -/

/-- A check whose condition holds lets the work go on. -/
theorem require_bind {β : Type} {b : Bool} (h : b = true) (e : Err) (f : Unit → Except Denial β) : (require b e >>= f) = f () := by
  subst h
  rfl

/-- The SET_ID that a calibration command names, where the low half of its first word is clear (R636). -/
theorem calId_cons {c : HostCmd} {e : Envelope} {h : Word} (l : List Word) (hlow : fld h 15 0 = 0) :
    calId ⟨c, e, h :: l⟩ = .ok (fld h 31 16) := by
  have hclear : (fld (wget (h :: l) 0) 15 0 == 0) = true := beq_iff_eq.2 hlow
  rw [calId, require_bind (by simp), require_bind hclear]
  rfl

/-! ## The four commands on a set -/

/-- The set x once the words l have been written into it from word off on: it is FILLING, and no block of it has a stored check
(R226, R544). -/
def filled (x : CalSet) (off : Nat) (l : List Word) : CalSet :=
  ⟨1, l.zipIdx.foldl (fun m p => insertKey m (off + p.2) p.1) x.words, max x.top (off + l.length - 1), [], []⟩

/-- The words l may be written into set id from word off on: the request carries 1 to 2,048 words that lie within a set, no busy channel
names the set, a set may be had for them, and they set no reserved bit (R227, R229, R636; log entry 92). -/
structure CanFill (a : State) (id off : Nat) (l : List Word) : Prop where
  named : id ≠ 0
  nonempty : 1 ≤ l.length
  carried : l.length ≤ 2048
  within : off + l.length ≤ 16384
  free : a.calInUse id = false
  room : (a.calSet id).state ≠ 0 ∨ a.calSets.length < 4096
  clear : (filled (a.calSet id) off l).reservedClear off (off + l.length) = true

/-- DEV_CAL_WRITE of words that may be written fills the set (R226, R636). -/
theorem writeCal_ok {a : State} {e : Envelope} {h w : Word} {l : List Word} (hlow : fld h 15 0 = 0) (hhigh : fld w 31 30 = 0)
    (hmid : fld w 15 12 = 0) (hlen : fld w 11 0 = l.length) (hfill : CanFill a (fld h 31 16) (fld w 29 16) l) :
    writeCal a ⟨.calWrite, e, h :: w :: l⟩ =
      .ok { state := a.setCalSet (fld h 31 16) (filled (a.calSet (fld h 31 16)) (fld w 29 16) l) } := by
  obtain ⟨hid, hpos, hmax, hend, hfree, hroom, hclear⟩ := hfill
  have hw : wget (h :: w :: l) 1 = w := rfl
  have hbody : (h :: w :: l).length = 2 + l.length := Nat.add_comm l.length 2
  rw [filled] at hclear ⊢
  rw [writeCal, calId_cons _ hlow, ok_bind, require_bind (by simp)]
  dsimp only
  rw [hw, hlen, hbody, require_bind (by simp [hhigh, hmid]), require_bind (by simp [hpos, hmax]), require_bind (by simp [hid, hend]),
    List.drop_succ_cons, List.drop_succ_cons, List.drop_zero, require_bind hclear, require_bind (by simp [hfree]),
    require_bind (by simpa using hroom)]
  rfl

/-- DEV_CAL_SEAL of a set that has been written and passes the checks of R228 seals it (R226). -/
theorem sealCal_ok {a : State} {e : Envelope} {h : Word} (hlow : fld h 15 0 = 0) (hid : fld h 31 16 ≠ 0)
    (hwritten : (a.calSet (fld h 31 16)).state ≠ 0) (hcheck : (a.calSet (fld h 31 16)).sealCheck (fld h 31 16) = .ok ()) :
    sealCal a ⟨.calSeal, e, [h]⟩ = .ok { state := a.setCalSet (fld h 31 16) (a.calSet (fld h 31 16)).seal } := by
  rw [sealCal, calId_cons _ hlow, ok_bind, require_bind (by rfl)]
  dsimp only
  rw [require_bind (by simp [hid]), require_bind (by simp [hwritten]), hcheck]
  rfl

/-- DEV_CAL_FREE of a set that no busy channel names makes it EMPTY (R226, R229). -/
theorem freeCal_ok {a : State} {e : Envelope} {h : Word} (hlow : fld h 15 0 = 0) (hid : fld h 31 16 ≠ 0)
    (hfree : a.calInUse (fld h 31 16) = false) :
    freeCal a ⟨.calFree, e, [h]⟩ = .ok { state := { a with calSets := eraseKey a.calSets (fld h 31 16) } } := by
  rw [freeCal, calId_cons _ hlow, ok_bind, require_bind (by rfl), require_bind (by simp [hid]), require_bind (by simp [hfree])]
  rfl

/-- DEV_CAL_INFO returns the state of the set, the number of channels that name it, and its header once it is LOADED (R636). -/
theorem infoCal_ok (a : State) {e : Envelope} {h : Word} (hlow : fld h 15 0 = 0) :
    infoCal a ⟨.calInfo, e, [h]⟩ =
      .ok { state := a,
            body := word ((a.calSet (fld h 31 16)).state * 2 ^ 28 + ((upto 512).filter fun c => a.calSetOf c == fld h 31 16).length) ::
              (upto 6).map fun i => if 2 ≤ (a.calSet (fld h 31 16)).state then (a.calSet (fld h 31 16)).word i else 0 } := by
  rw [infoCal, calId_cons _ hlow, ok_bind, require_bind (by rfl)]
  rfl

end Sys2Proof.RangingCalibration
end

section
/-!
PROOFS. 05_ranging_calibration: DEV_CAPS, DEV_FAULT_READ and DEV_NOTICE_READ.
-/

namespace Sys2Proof.RangingCalibration

open Sys2Proof Sys2Proof.Machine Sys2Proof.Organisation

/-! ## The room of a reply -/

/-- A reply to a request in order may have at least 246 words: MAX_REPLY is 1,024 bytes or more (R594). -/
theorem replyRoom_admitted {s : State} {r : Req} {n : Nat} {x : Session} (h : InOrder s r n x) :
    246 ≤ (s.admitted r n x).replyRoom r := by
  have hroom := h.room
  rw [State.replyRoom, h.number, session_admitted]
  change 246 ≤ (x.maxReply - 40) / 4
  omega

/-- What fits as a whole is taken. -/
theorem takeFitting_one {room : Nat} {a : List Word} (h : a.length ≤ room) : takeFitting room [a] = [a] := if_pos h

theorem length_wordsOf (n v : Nat) : (wordsOf n v).length = n := by
  induction n with
  | zero => rfl
  | succ n ih => rw [wordsOf, List.length_cons, ih]

theorem length_noticePayload (q : Notice) : (noticePayload q).length = 4 + q.body.length := by
  simp only [noticePayload, List.length_append, List.length_cons, List.length_nil, length_wordsOf]

/-! ## Reading what waits -/

/-- DEV_CAPS returns the counts of the device (R635). -/
theorem readCaps_ok (a : State) (e : Envelope) :
    readCaps a ⟨.caps, e, []⟩ =
      .ok { state := a,
            body := [word (0x0200 * 65536 + Config.stepping.toNat), 0x02000040, 0x00080048, 0x20000400, 0x00100010, 0x00090008,
              0x00200100, 0x10000400, 0x01000000, 0x10000010, word (a.boot.major * 65536 + a.boot.minor), Config.serial] ++
              wordsOf 2 Config.dieId.toNat } := by
  rw [readCaps, emptyBody, require_bind (by rfl)]
  rfl

/-- DEV_FAULT_READ of one entry returns the oldest and frees it; what it says of lost entries is said once (R567, R643). -/
theorem readFaults_one {a : State} {e : Envelope} {w : Word} {f : FaultEntry} {rest : List FaultEntry} (hw : w.toNat = 1)
    (hlog : a.faults.log = f :: rest) (hroom : 246 ≤ a.replyRoom ⟨.faultRead, e, [w]⟩) :
    readFaults a ⟨.faultRead, e, [w]⟩ =
      .ok { state := { a with faults := { a.faults with log := rest, logLost := false } },
            body := countWord 1 (!rest.isEmpty) :: f.words a.faults.logLost } := by
  have hmax : fld (wget [w] 0) 8 0 = 1 := congrArg (bitsOf · 8 0) hw
  have hclear : fld (wget [w] 0) 31 9 = 0 := congrArg (bitsOf · 31 9) hw
  have hcount : min (min 1 (f :: rest).length) ((a.replyRoom ⟨.faultRead, e, [w]⟩ - 1) / 4) = 1 := by
    rw [List.length_cons]
    omega
  rw [readFaults, require_bind (by rfl)]
  dsimp only
  rw [hmax, hclear, hlog, require_bind (by rfl), require_bind (by rfl), hcount]
  simp [pure, Except.pure]

/-- DEV_NOTICE_READ of one notice, from the oldest one held on, returns it and frees none (R611, R643). -/
theorem readNotices_one {a : State} {e : Envelope} {q0 q1 w : Word} {q : Notice} {rest : List Notice} (hw : w.toNat = 1)
    (hring : a.host.ring = q :: rest) (hfirst : dword [q0, q1] 0 = q.nseq) (hrise : ∀ y ∈ rest, q.nseq < y.nseq)
    (hbody : q.body.length ≤ 200) (hroom : 246 ≤ a.replyRoom ⟨.noticeRead, e, [q0, q1, w]⟩) :
    readNotices a ⟨.noticeRead, e, [q0, q1, w]⟩ =
      .ok { state := a, body := putBit (countWord 1 (!rest.isEmpty)) 30 false :: noticePayload q } := by
  have hmax : fld (wget [q0, q1, w] 2) 6 0 = 1 := congrArg (bitsOf · 6 0) hw
  have hclear : fld (wget [q0, q1, w] 2) 31 7 = 0 := congrArg (bitsOf · 31 7) hw
  have hnseq : dword [q0, q1, w] 0 = q.nseq := hfirst
  have hwaiting : (q :: rest).filter (fun y => decide (q.nseq ≤ y.nseq)) = q :: rest := by
    refine List.filter_eq_self.2 fun y hy => decide_eq_true ?_
    rcases List.mem_cons.1 hy with rfl | hlater
    · exact Nat.le_refl _
    · exact Nat.le_of_lt (hrise y hlater)
  have hfits : takeFitting (a.replyRoom ⟨.noticeRead, e, [q0, q1, w]⟩ - 1) [noticePayload q] = [noticePayload q] :=
    takeFitting_one (by rw [length_noticePayload]; omega)
  have hmore : decide (1 < (q :: rest).length) = !rest.isEmpty := by cases rest <;> simp
  rw [readNotices, require_bind (by rfl)]
  dsimp only
  rw [hmax, hclear, hring, hnseq, hwaiting, require_bind (by rfl), require_bind (by rfl), List.take_one, List.head?_cons]
  simp only [Option.toList, List.map_cons, List.map_nil, hfits, List.length_singleton, hmore, Nat.lt_irrefl, decide_false,
    Bool.false_and, List.flatten_cons, List.flatten_nil, List.append_nil]
  rfl

/-- Settles O15: each command passes its checks in the admitted state, and its reply is within the room that every session has. -/
theorem deviceCommandsAct : Obligations.DeviceCommandsAct := by
  refine ⟨⟨?_, ?_, ?_, ?_⟩, ?_, ?_, ?_⟩
  · intro s e n x h w l r a id hin hlow hid hhigh hmid hpos hmax hlen hend hfree hroom y hclear
    have hfill : CanFill a id (fld w 29 16) l := ⟨hid, hpos, hmax, hend, hfree, hroom, hclear⟩
    exact exec_answered rfl hin.formed hin (writeCal_ok hlow hhigh hmid hlen hfill) rfl (by simp)
  · intro s e n x h r a id hin hlow hid hwritten hcheck
    exact exec_answered rfl hin.formed hin (sealCal_ok hlow hid hwritten hcheck) rfl (by simp)
  · intro s e n x h r a id hin hlow hid hfree
    exact exec_answered rfl hin.formed hin (freeCal_ok hlow hid hfree) rfl (by simp)
  · intro s e n x h r a id hin hlow
    exact exec_answered rfl hin.formed hin (infoCal_ok a hlow) rfl (by simp [upto])
  · intro s e n x r a hin
    exact exec_answered rfl hin.formed hin (readCaps_ok a e) rfl (by simp [length_wordsOf])
  · intro s e n x w f rest r a hin hw hlog
    exact exec_answered rfl hin.formed hin (readFaults_one hw hlog (replyRoom_admitted hin)) rfl
      (by simp [FaultEntry.words, length_wordsOf])
  · intro s e n x q0 q1 w q rest r a hin hw hring hfirst hrise hbody
    refine exec_answered rfl hin.formed hin (readNotices_one hw hring hfirst hrise hbody (replyRoom_admitted hin)) rfl ?_
    rw [List.length_cons, length_noticePayload]
    omega

end Sys2Proof.RangingCalibration
end

section
/-!
PROOFS. 07_vector_mode: VECTOR_ISSUE and PIN_RESULT_CREDIT.
-/

namespace Sys2Proof.VectorMode

open Sys2Proof Sys2Proof.Machine Sys2Proof.LoopEngine

/-! ## The issue boundary -/

/-- The item of its segment that a playing bank sequencer comes to: the first one where none has begun, else the next one. -/
def itemDue (s : State) (b : Nat) : Nat := if (s.seqx (.bank b)).left = 0 then 0 else s.position (.bank b) + 1

/-- The first vector of a granule moves the window of the bank (R313). -/
def windowMoved (s : State) (b k : Nat) : State :=
  if k % 8 = 0 then s.request (.bank b) (s.neededKeys (.bank b) (s.pc (.bank b)) k) else s

/-- Item k of segment g has begun. -/
def itemBegun (s : State) (b : Nat) (g : Segm) (k : Nat) : State :=
  (s.setSeqx (.bank b) { s.seqx (.bank b) with left := s.segDwell (.bank b) g k }).setPosition (.bank b) k

/-- What the boundary does with item k of segment g once it has begun: unless that was an underrun, its vector is issued, and the last
one ends the segment (R317, R319). -/
def itemPlayed (t : State) (b : Nat) (g : Segm) (k : Nat) : State :=
  if t.run (.bank b) ≠ 1 then t
  else
    let u := t.issueVector b (8 * g.first + k) true
    if k + 1 < g.items (.bank b) then u else u.setSeqx (.bank b) { u.seqx (.bank b) with atEnd := true }

/-- An item that the window holds begins without an underrun. -/
theorem startItem_cached {s : State} {b k : Nat} {g : Segm} (h : s.itemCached (.bank b) g k = true) :
    s.startItem (.bank b) g k = itemBegun s b g k := by
  simp [State.startItem, h, itemBegun]

theorem exec_vectorIssue {s : State} {b : Nat} (hr : s.boot.phase = .running) (hb : b < 8) :
    exec (.vectorIssue b) s = .next (s.vectorIssue b) :=
  exec_happening (i := .vectorIssue b) (f := fun s => s.vectorIssue b) rfl (decide_eq_true hb) hr

/-- The vector of an item that has begun is issued, and the last item ends its segment. -/
theorem itemPlayed_runs {t : State} {b k : Nat} {g : Segm} (h : t.run (.bank b) = 1) :
    itemPlayed t b g k =
      if k + 1 < g.items (.bank b) then t.issueVector b (8 * g.first + k) true
      else (t.issueVector b (8 * g.first + k) true).setSeqx (.bank b)
        { (t.issueVector b (8 * g.first + k) true).seqx (.bank b) with atEnd := true } :=
  if_neg fun hne => hne h

section
variable {s : State} {b : Nat} (hexec : (s.seqx (.bank b)).exec = false) (hstop : (s.seqx (.bank b)).stopNext = false)
  (hbnd : s.bndNow (.bank b) = true)
include hexec hstop hbnd

/-- A playing bank starts the item it comes to and issues its vector (R317, R319). -/
theorem vectorIssue_playing (hrun : s.run (.bank b) = 1) (hplay : (s.seqx (.bank b)).playing = true)
    (hend : (s.seqx (.bank b)).atEnd = false) :
    s.vectorIssue b =
      itemPlayed ((windowMoved s b (itemDue s b)).startItem (.bank b) (s.segm (.bank b) (s.segNum (.bank b))) (itemDue s b)) b
        (s.segm (.bank b) (s.segNum (.bank b))) (itemDue s b) := by
  simp only [State.vectorIssue, State.stopsHere, hexec, hstop, hbnd, hrun, hplay, hend, Bool.false_and, Bool.not_true, Bool.or_self,
    Bool.false_eq_true, if_false]
  rfl

/-- A waiting bank lets its boundary pass (R317). -/
theorem vectorIssue_waiting (hrun : s.run (.bank b) = 2) : s.vectorIssue b = s.skipIssue b := by
  simp [State.vectorIssue, State.stopsHere, hexec, hstop, hbnd, hrun]

end

/-- The pins of a bank that are in VECTOR (R304). -/
theorem mem_vectorPins {s : State} {b j : Nat} : j ∈ s.vectorPins b ↔ j < 64 ∧ s.mode (64 * b + j) = 8 := by
  rw [State.vectorPins, List.mem_filter, upto, List.mem_range, beq_iff_eq]

/-- The boundary that a waiting bank lets pass writes no pin where none is disarming: a TSET acts, and the next boundary is set. -/
theorem skipIssue_kept {s : State} {b : Nat} (hrun : s.run (.bank b) = 2)
    (hpins : ∀ j, j < 64 → s.mode (64 * b + j) = 8 → s.chState (64 * b + j) ≠ 5) :
    s.skipIssue b = s.setSeqx (.bank b)
      { (s.seqx (.bank b)).settleTset (s.seqx (.bank b)).next with next := (s.seqx (.bank b)).next + s.vecPeriod b } := by
  have hnone : (s.vectorPins b).filter (fun j => s.chState (64 * b + j) == chDisarming) = [] := by
    refine List.filter_eq_nil_iff.2 fun j hj => ?_
    obtain ⟨hlt, hmode⟩ := mem_vectorPins.1 hj
    exact fun hleaving => hpins j hlt hmode (eq_of_beq hleaving)
  have hnot : ¬ s.run (.bank b) = 3 := by omega
  rw [State.skipIssue]
  dsimp only
  rw [hnone, if_neg hnot]
  rfl

/-! ## What a boundary gives the pins -/

/-- A boundary that gives pins words places them at its time. -/
theorem mem_place {x : Seq} {t : Nat} {pins : List (Nat × PinWord)} {p : Nat × PinWord} (h : p ∈ pins) :
    ⟨t, pins⟩ ∈ (x.place t pins).placed := by
  have hne : pins.isEmpty = false := by cases pins <;> simp at h ⊢
  simp [Seq.place, hne]

/-- The words a boundary gives the active vector pins of a bank: the state of vector v under a timing set, X while ARMING (R307, R331). -/
def issuedWords (s : State) (b v set : Nat) : List (Nat × PinWord) :=
  ((s.vectorPins b).filter fun j => s.active (64 * b + j)).map fun j =>
    (j, s.pinWord b set j (if s.chState (64 * b + j) = chArming then 0 else s.pinState b v j))

theorem mem_issuedWords {s : State} {b j : Nat} (v set : Nat) (hj : j < 64) (hmode : s.mode (64 * b + j) = 8)
    (hact : s.active (64 * b + j) = true) :
    (j, s.pinWord b set j (if s.chState (64 * b + j) = 3 then 0 else s.pinState b v j)) ∈ issuedWords s b v set :=
  List.mem_map_of_mem (List.mem_filter.2 ⟨mem_vectorPins.2 ⟨hj, hmode⟩, hact⟩)

/-- The timing set under which a bank issues vector v (R310, R317). -/
def issueSet (s : State) (b v : Nat) : Nat :=
  if s.laneEn b then s.laneSet b v else ((s.seqx (.bank b)).settleTset (s.seqx (.bank b)).next).tset

/-- Issuing a vector writes the sequencer alone: the words of its pins, and the next boundary one period on (R319). -/
theorem issueVector_eq (s : State) (b v : Nat) :
    ∃ y, s.issueVector b v true = s.setSeqx (.bank b) y ∧ y.next = (s.seqx (.bank b)).next + s.vecPeriod b ∧
      y.placed = (((s.seqx (.bank b)).settleTset (s.seqx (.bank b)).next).place (s.seqx (.bank b)).next
        (issuedWords s b v (issueSet s b v))).placed :=
  ⟨_, rfl, rfl, rfl⟩

/-! ## The result of the last pin -/

/-- The vector i was issued at t and waits for pin j alone, in a given state and with its strobe; the pin is ARMED, its bank runs, and its
report, which has arrived whole and names no clamp, is due in this frame and not after the next boundary (R322-R325). -/
structure LastResult (s : State) (b t j state strobe : Nat) (r : PinReport) (i : Issued) (above below : Bool) : Prop where
  read : readCompare r.result r.place = some (above, below)
  unclamped : readClamp r.clamp = false
  found : ((s.seqx (.bank b)).issued.find? fun i => i.time == t && i.waiting.any fun w => w.1 == j) = some i
  waits : i.waiting = [(j, state, strobe)]
  inFrame : (t + 600) * 256 + strobe * 100 < (s.now + 100) * 256
  decided : (t + 600) * 256 + strobe * 100 ≤ (s.seqx (.bank b)).next * 256
  armed : s.chState (64 * b + j) = 4
  runs : s.run (.bank b) = 1

theorem exec_pinResultCredit {s : State} {b j : Nat} (t : Nat) (r : PinReport) (hr : s.boot.phase = .running) (hb : b < 8) (hj : j < 64) :
    exec (.pinResultCredit b t j r) s = .next (s.pinResult b t j r) :=
  exec_happening (i := .pinResultCredit b t j r) (f := fun s => s.pinResult b t j r) rfl (by simp [Instr.wellFormed, hb, hj]) hr

/-- The core cycle of a result's credit (R325). -/
def creditCycle (s : State) (t strobe : Nat) : Nat := s.frameCycle + ((t + 600) * 256 + strobe * 100 - s.now * 256) * 3 / 512

/-- A bank no longer waits for results of vector i. -/
def resultsIn (s : State) (b : Nat) (i : Issued) : State :=
  s.setSeqx (.bank b) { s.seqx (.bank b) with issued := (s.seqx (.bank b)).issued.filter fun y => y != i }

/-- The latches and the counter of pin j after the verdict on its result. -/
def credited (s : State) (b j : Nat) (pass : Bool) : State :=
  if pass then s.latch (.bank b) 2 else (s.latch (.bank b) 4).count .bseq b (0x80 + j)

/-- A vector after the verdict on the last pin it waited for. -/
def judged (i : Issued) (j : Nat) (pass : Bool) : Issued :=
  { i with waiting := [], failMask := if pass then i.failMask else i.failMask ||| 2 ^ j }

section
variable {s : State} {b t j state strobe : Nat} {r : PinReport} {i : Issued} {above below : Bool}
  (h : LastResult s b t j state strobe r i above below)
include h

/-- The credit of the last result latches the verdict, counts a failure of the pin, and ends the vector, which fails with any pin of it
(R325, R326). -/
theorem pinResult_last {pass : Bool} (hv : pinPasses state above below = some pass) :
    s.pinResult b t j r =
      if (judged i j pass).failMask = 0 then resultsIn (credited s b j pass) b i
      else (resultsIn (credited s b j pass) b i).vectorFailed b (creditCycle s t strobe) (judged i j pass) := by
  obtain ⟨hread, hclamp, hfound, hwaits, hframe, hdec, harmed, hrun⟩ := h
  have hruns : s.seqRuns (.bank b) = true := by simp [State.seqRuns, hrun]
  have hpin : ((i.waiting.find? fun w => w.1 == j).map Prod.snd).getD (0, 0) = (state, strobe) := by simp [hwaits]
  have hrest : (i.waiting.filter fun w => w.1 != j) = [] := by simp [hwaits]
  have hpinArmed : s.chState (64 * b + j) = chArmed := harmed
  cases pass <;>
    simp [State.pinResult, hfound, hpin, hrest, hread, hclamp, hpinArmed, hruns, hv, Nat.not_le.2 hframe, Nat.not_lt.2 hdec, judged,
      credited, resultsIn, creditCycle]

/-- A last result that passes, of a vector none of whose pins failed, sets CMP_PASS and nothing more (R325). -/
theorem pinResult_pass (hmask : i.failMask = 0) (hpass : pinPasses state above below = some true) :
    s.pinResult b t j r = resultsIn (s.latch (.bank b) 2) b i := by
  rw [pinResult_last h hpass, if_pos (show (judged i j true).failMask = 0 from hmask)]
  rfl

/-- A last result that fails sets CMP_FAIL and makes the vector one that failed (R325, R326). -/
theorem pinResult_fail (hfail : pinPasses state above below = some false) :
    s.pinResult b t j r =
      (resultsIn ((s.latch (.bank b) 4).count .bseq b (0x80 + j)) b i).vectorFailed b (creditCycle s t strobe)
        { i with waiting := [], failMask := i.failMask ||| 2 ^ j } := by
  have hmask : ¬ (judged i j false).failMask = 0 := by simp [judged]
  rw [pinResult_last h hfail, if_neg hmask]
  rfl

end

end Sys2Proof.VectorMode
end

section
/-!
PROOFS. 07_vector_mode: BSEQ_VEC_WRITE, BSEQ_LANE_WRITE and BSEQ_CAPT_READ.
-/

namespace Sys2Proof.VectorMode

open Sys2Proof Sys2Proof.Machine Sys2Proof.Organisation Sys2Proof.RangingCalibration

/-! ## Transfers of one item -/

/-- A check with a named refusal whose condition holds lets the work go on. -/
theorem demand_bind {β : Type} {b : Bool} (h : b = true) (d : Denial) (f : Unit → Except Denial β) : (demand b d >>= f) = f () := by
  subst h
  rfl

/-- The head of a transfer of one item: the object's number in the high half, a count of 1 in the low half (R642). -/
theorem fld_transferHead {n : Nat} (hn : n < 65536) :
    fld (word (n * 65536 + 1)) 31 16 = n ∧ fld (word (n * 65536 + 1)) 15 0 = 1 := by
  simp only [fld, bitsOf, toNat_word]
  omega

/-- A transfer of one item of k words into an object the device has parses (R642). -/
theorem transferOf_one {o : Obj} {most bits k n start : Nat} {data : List Word} (hn : n < objCount o) (hmost : 1 ≤ most)
    (hbits : bits ≤ 32) (hstart : start < 2 ^ bits) (hlen : data.length = k) :
    transferOf o most bits k (word (n * 65536 + 1) :: word start :: data) = .ok (n, 1, start, data) := by
  have hcount := objCount_le o
  obtain ⟨hinst, hone⟩ := fld_transferHead (show n < 65536 by omega)
  have hstart' : (word start).toNat = start := by
    rw [toNat_word, Nat.mod_eq_of_lt (Nat.lt_of_lt_of_le hstart (Nat.pow_le_pow_right (by decide) hbits))]
  have hsize : (word (n * 65536 + 1) :: word start :: data).length = 2 + k * 1 := by
    rw [List.length_cons, List.length_cons, hlen]
    omega
  rw [transferOf, hsize, require_bind (by simp)]
  simp only [wget, List.getD_cons_zero, List.getD_cons_succ]
  rw [hinst, hone, hstart', require_bind (decide_eq_true hstart), require_bind (by simp [hmost]),
    demand_bind (decide_eq_true hn)]
  rfl

/-- Vector v is entries 2v and 2v + 1 of a memory, each written with its CHECK (R308, R309). -/
def putVector (k : Nat) (data : List Word) (l : List (Nat × BitVec 144)) : List (Nat × BitVec 144) :=
  store (store l blank (2 * k) (protect (payloadOf data))) blank (2 * k + 1) (protect (payloadOf (data.drop 4)))

theorem writeMirrored_one (first : Nat) (p : BitVec 128) (l : List (Nat × BitVec 144)) :
    writeMirrored first [p] l = store l blank first (protect p) := by
  rw [writeMirrored, List.zipIdx_singleton, List.foldl_cons, List.foldl_nil, Nat.add_zero]

theorem writeMirrored_vector (k : Nat) (data : List Word) (l : List (Nat × BitVec 144)) :
    writeMirrored (2 * k) [payloadOf data, payloadOf (data.drop 4)] l = putVector k data l := by
  rw [writeMirrored, List.zipIdx_cons, List.zipIdx_singleton, List.foldl_cons, List.foldl_cons, List.foldl_nil, Nat.add_zero, putVector]

/-- Storing under a key keeps the keys rising. -/
theorem sortedKeys_store {α : Type} [DecidableEq α] {m : List (Nat × α)} (d : α) (k : Nat) (v : α) (h : sortedKeys m = true) :
    sortedKeys (store m d k v) = true := by
  unfold store
  split
  · exact sortedKeys_eraseKey k h
  · exact sortedKeys_insertKey k v h

/-- Both entries of a vector read back from the memory it was put into. -/
theorem findD_putVector {l : List (Nat × BitVec 144)} (h : sortedKeys l = true) (k : Nat) (data : List Word) :
    findD (putVector k data l) blank (2 * k) = protect (payloadOf data) ∧
      findD (putVector k data l) blank (2 * k + 1) = protect (payloadOf (data.drop 4)) := by
  constructor
  · rw [putVector, findD_store_other _ _ _ _ _ _ (by omega), findD_store_same _ _ _ _ h]
  · exact findD_store_same _ _ _ _ (sortedKeys_store _ _ _ h)

/-! ## The three commands -/

/-- BSEQ_VEC_WRITE of one vector that no program plays, of known state codes, puts it into both copies of its memory (R311). -/
theorem writeVectors_one {a : State} {e : Envelope} {b k : Nat} {data : List Word} (hb : b < 8) (hk : k < 524288)
    (hlen : data.length = 8) (hfree : a.demandUnlocked e.session.toNat .bseq b = .ok ())
    (hcodes : ∀ w ∈ data, ∀ j, j < 8 → fld w (4 * j + 3) (4 * j) ≤ 0xC) (hidle : a.vectorsPlayed b k (k + 1) = false) :
    writeVectors a ⟨.vecWrite, e, word (b * 65536 + 1) :: word k :: data⟩ =
      .ok { state := a.setVecMem b { a.vecMem b with vectorA := putVector k data (a.vecMem b).vectorA,
                                                     vectorB := putVector k data (a.vecMem b).vectorB } } := by
  have hknown : ((data.take (8 * 1)).all fun w => (upto 8).all fun j => decide (fld w (4 * j + 3) (4 * j) ≤ 0xC)) = true := by
    rw [List.take_of_length_le (by omega), List.all_eq_true]
    exact fun w hw => List.all_eq_true.2 fun j hj => decide_eq_true (hcodes w hw j (List.mem_range.1 hj))
  have hentries : ((upto (2 * 1)).map fun i => payloadOf (data.drop (4 * i))) = [payloadOf data, payloadOf (data.drop 4)] := by
    simp [upto, List.range_succ]
  rw [writeVectors, transferOf_one (o := .bseq) hb (by decide) (by decide) hk hlen, ok_bind]
  dsimp only
  rw [hfree, ok_bind, demand_bind (decide_eq_true (by omega)), demand_bind hknown, demand_bind (by rw [hidle]; rfl),
    hentries, writeMirrored_vector, writeMirrored_vector]
  rfl

/-- BSEQ_LANE_WRITE of one lane entry, none of whose vectors a program plays, puts it into both copies of its memory (R310, R311). -/
theorem writeLanes_one {a : State} {e : Envelope} {b k : Nat} {data : List Word} (hb : b < 8) (hk : k < 16384)
    (hlen : data.length = 4) (hfree : a.demandUnlocked e.session.toNat .bseq b = .ok ())
    (hidle : a.vectorsPlayed b (32 * k) (32 * (k + 1)) = false) :
    writeLanes a ⟨.laneWrite, e, word (b * 65536 + 1) :: word k :: data⟩ =
      .ok { state := a.setVecMem b { a.vecMem b with laneA := store (a.vecMem b).laneA blank k (protect (payloadOf data)),
                                                     laneB := store (a.vecMem b).laneB blank k (protect (payloadOf data)) } } := by
  have hentry : ((upto 1).map fun i => payloadOf (data.drop (4 * i))) = [payloadOf data] := by simp [upto]
  rw [writeLanes, transferOf_one (o := .bseq) hb (by decide) (by decide) hk hlen, ok_bind]
  dsimp only
  rw [hfree, ok_bind, demand_bind (decide_eq_true (by omega)), demand_bind (by rw [hidle]; rfl), hentry,
    writeMirrored_one, writeMirrored_one]
  rfl

/-- The four words of a capture entry are its payload (R327). -/
theorem captureWords_eq (c : BitVec 144) : captureWords c = wordsOf 4 (c.toNat % 2 ^ 128) := by
  rw [captureWords, payload, BitVec.toNat_ofNat]

/-- BSEQ_CAPT_READ of one entry returns the oldest and frees it (R327, R643). -/
theorem readCaptures_one {a : State} {e : Envelope} {b : Nat} {c : BitVec 144} {rest : List (BitVec 144)} (hb : b < 8)
    (hcapt : (a.vecMem b).capture = c :: rest) (hroom : 246 ≤ a.replyRoom ⟨.captRead, e, [word (b * 65536 + 1)]⟩) :
    readCaptures a ⟨.captRead, e, [word (b * 65536 + 1)]⟩ =
      .ok { state := a.setVecMem b { a.vecMem b with capture := rest },
            body := countWord 1 (!rest.isEmpty) :: captureWords c } := by
  have hinst : fld (wget [word (b * 65536 + 1)] 0) 31 16 = b := (fld_transferHead (by omega)).1
  have hmax : fld (wget [word (b * 65536 + 1)] 0) 7 0 = 1 := by
    simp only [wget, List.getD_cons_zero, fld, bitsOf, toNat_word]
    omega
  have hclear : fld (wget [word (b * 65536 + 1)] 0) 15 8 = 0 := by
    simp only [wget, List.getD_cons_zero, fld, bitsOf, toNat_word]
    omega
  have hcount : min (min 1 (c :: rest).length) ((a.replyRoom ⟨.captRead, e, [word (b * 65536 + 1)]⟩ - 1) / 4) = 1 := by
    rw [List.length_cons]
    omega
  rw [readCaptures, require_bind (by rfl)]
  dsimp only
  rw [hinst, hmax, hclear, hcapt, require_bind (by rfl), require_bind (by rfl), demand_bind (decide_eq_true hb), hcount]
  simp [pure, Except.pure]

/-- Settles O41: a boundary either plays the item it comes to or passes, and issuing a vector places the words of the active pins; the
credit of a last result ends its vector; each memory command passes its checks in the admitted state. -/
theorem vectorsAreWrittenIssuedAndCompared : Obligations.VectorsAreWrittenIssuedAndCompared := by
  refine ⟨⟨?_, ?_, ?_, ?_⟩, ?_, ?_, ?_⟩
  · intro s b hr hb q x hexec hstop hbnd hrun hplay hend g k t hcached t' hruns u
    have hplayed : s.vectorIssue b = itemPlayed (t.startItem q g k) b g k := vectorIssue_playing hexec hstop hbnd hrun hplay hend
    rw [exec_vectorIssue hr hb, hplayed, startItem_cached hcached]
    exact congrArg Host.Outcome.next (itemPlayed_runs (t := itemBegun t b g k) hruns)
  · intro s b hr hb x hexec hstop hbnd hrun hpins
    rw [exec_vectorIssue hr hb, vectorIssue_waiting hexec hstop hbnd hrun, skipIssue_kept hrun hpins]
  · intro s b v x set
    obtain ⟨y, hy, hnext, hplaced⟩ := issueVector_eq s b v
    refine ⟨y, hy, hnext, fun j hj hmode hact => ?_⟩
    rw [hplaced]
    exact ⟨_, mem_place (mem_issuedWords v _ hj hmode hact), rfl, mem_issuedWords v _ hj hmode hact⟩
  · intro s b t j state strobe r above below i hr hb hj hread hclamp q due hfound hwaits hframe hdec harmed hrun
    have h : LastResult s b t j state strobe r i above below := ⟨hread, hclamp, hfound, hwaits, hframe, hdec, harmed, hrun⟩
    rw [exec_pinResultCredit t r hr hb hj]
    refine ⟨fun hmask hpass => ?_, fun hfail => ?_⟩
    · rw [pinResult_pass h hmask hpass]
      rfl
    · rw [pinResult_fail h hfail]
      rfl
  · intro s e n x b k data body r a m hin hb hk hlen hfree hcodes hidle put
    refine ⟨?_, fun l hl => findD_putVector hl k data⟩
    exact exec_answered rfl hin.formed hin (writeVectors_one hb hk hlen (hin.number ▸ hfree) hcodes hidle) rfl (by simp)
  · intro s e n x b k data body r a m hin hb hk hlen hfree hidle
    exact exec_answered rfl hin.formed hin (writeLanes_one hb hk hlen (hin.number ▸ hfree) hidle) rfl (by simp)
  · intro s e n x b c rest r a m hin hb hcapt
    have hd := readCaptures_one hb hcapt (replyRoom_admitted hin)
    rw [captureWords_eq] at hd
    exact exec_answered rfl hin.formed hin hd rfl (by simp [length_wordsOf])

end Sys2Proof.VectorMode
end

section
/-!
PROOFS. 08_events: a firing of a source with one route, and EVENT_DELIVERY at a busy consumer.
-/

namespace Sys2Proof.EventRouting

open Sys2Proof Sys2Proof.Machine Sys2Proof.LoopEngine Sys2Proof.LoopExtensions

/-! ## Lists read beside one key -/

section Filtered

variable {α β : Type} {g : Nat × α → Option β} {k : Nat}

theorem filterMap_eraseKey (hk : ∀ v, g (k, v) = none) (m : List (Nat × α)) : (eraseKey m k).filterMap g = m.filterMap g := by
  induction m with
  | nil => rfl
  | cons p m ih =>
    obtain ⟨a, w⟩ := p
    simp only [eraseKey]
    split
    · next hkey => rw [hkey, List.filterMap_cons_none (hk w)]
    · rw [List.filterMap_cons, List.filterMap_cons, ih]

theorem filterMap_insertKey (hk : ∀ v, g (k, v) = none) (m : List (Nat × α)) (v : α) :
    (insertKey m k v).filterMap g = m.filterMap g := by
  induction m with
  | nil => exact List.filterMap_cons_none (hk v)
  | cons p m ih =>
    obtain ⟨a, w⟩ := p
    simp only [insertKey]
    split
    · exact List.filterMap_cons_none (hk v)
    · split
      · next hkey => rw [hkey, List.filterMap_cons_none (hk v), List.filterMap_cons_none (hk w)]
      · rw [List.filterMap_cons, List.filterMap_cons, ih]

/-- What a list lists beside one key is not changed by storing under that key. -/
theorem filterMap_store [DecidableEq α] (hk : ∀ v, g (k, v) = none) (m : List (Nat × α)) (d v : α) :
    (store m d k v).filterMap g = m.filterMap g := by
  unfold store
  split
  · exact filterMap_eraseKey hk m
  · exact filterMap_insertKey hk m v

end Filtered

/-! ## The words of routes -/

/-- A write of one field leaves the other fields of every object of the type alone. -/
theorem reg_setReg_otherField {f g : Nat} (h : g ≠ f) (hf : f < 65536) (hg : g < 65536) (s : State) (o : Obj) (n m : Nat) (v : Word) :
    (s.setReg o n f v).reg o m g = s.reg o m g :=
  regAt_setRegAt_other _ _ _ _ _ _ _ _ _ _ (by simp only [regKey]; omega)

/-- A write of a field of a route other than field 0, which holds EN, enables and disables none. -/
theorem enabledRoutes_setReg {f : Nat} (h : f ≠ 0) (hf : f < 65536) (s : State) (r : Nat) (v : Word) :
    (s.setReg .route r f v).enabledRoutes = s.enabledRoutes := by
  have hfield : regKey .route r f 0 / 16 % 65536 ≠ 0 := by
    simp only [regKey]
    omega
  have hlisted : (s.setReg .route r f v).listed .route 0 0 = s.listed .route 0 0 :=
    filterMap_store (fun _ => if_neg (by simp [hfield])) ..
  simp only [State.enabledRoutes, hlisted, State.rb, reg_setReg_otherField h.symm hf (by decide)]

/-- The same routes are enabled, and the settings of all routes, their fields below 0x20, are the same. -/
structure SameRoutes (s t : State) : Prop where
  enabled : t.enabledRoutes = s.enabledRoutes
  setting : ∀ q f, f < 0x20 → t.reg .route q f = s.reg .route q f

theorem SameRoutes.trans {s t u : State} (h : SameRoutes s t) (k : SameRoutes t u) : SameRoutes s u :=
  ⟨k.enabled.trans h.enabled, fun q f hf => (k.setting q f hf).trans (h.setting q f hf)⟩

theorem SameRoutes.rf {s t : State} (h : SameRoutes s t) (q : Nat) {f : Nat} (hf : f < 0x20) (hi lo : Nat) :
    t.rf .route q f hi lo = s.rf .route q f hi lo := by
  rw [State.rf, h.setting q f hf, State.rf]

/-- A write of a result field of a route changes no setting. -/
theorem sameRoutes_setReg {f : Nat} (hlow : 0x20 ≤ f) (hf : f < 65536) (s : State) (r : Nat) (v : Word) :
    SameRoutes s (s.setReg .route r f v) where
  enabled := enabledRoutes_setReg (by omega) hf s r v
  setting _ _ hg := reg_setReg_otherField (by omega) hf (by omega) ..

/-! ## The divider (R342) -/

theorem fld_putFld_low (w : Word) {v : Nat} (hv : v < 65536) : fld (putFld w 15 0 v) 15 0 = v := by
  simp only [fld, putFld, putBits, bitsOf, BitVec.toNat_ofNat]
  omega

theorem rf_setRf_low {s : State} (h : s.regsCanonical) (o : Obj) (n f : Nat) {v : Nat} (hv : v < 65536) :
    (s.setRf o n f 15 0 v).rf o n f 15 0 = v := by
  rw [State.rf, State.setRf, reg_setReg_same h, fld_putFld_low _ hv]

/-- The divider of route r begins anew and PASSED has counted. -/
def passedOne (s : State) (r : Nat) : State := (s.setRf .route r 0x20 15 0 0).count .route r 0x21

theorem sameRoutes_passedOne (s : State) (r : Nat) : SameRoutes s (passedOne s r) :=
  (sameRoutes_setReg (by decide) (by decide) s r _).trans (sameRoutes_setReg (by decide) (by decide) _ r _)

theorem count_passedOne {s : State} (h : s.regsCanonical) (r : Nat) : (passedOne s r).rf .route r 0x20 15 0 = 0 := by
  rw [State.rf, passedOne, State.count, reg_setReg_field (by decide)]
  exact rf_setRf_low h _ _ _ (by decide)

theorem passed_passedOne {s : State} (h : s.regsCanonical) (r : Nat) :
    (passedOne s r).reg .route r 0x21 = satInc (s.reg .route r 0x21) := by
  rw [passedOne, State.count, State.setRf, reg_setReg_same (regsCanonical_setReg h ..), reg_setReg_field (by decide)]

/-- The firing that makes the count N sends the event to the route's consumer. -/
theorem divide_passing {s : State} {r : Nat} (h : s.rf .route r 4 15 0 ≤ s.rf .route r 0x20 15 0 + 1) (cyc : Nat) :
    s.divide r cyc = { passedOne s r with events := { s.events with
      deliveries := s.events.deliveries ++ [⟨s.routeDst r, cyc + hopCycles (s.routeSrc r) (s.routeDst r), r⟩] } } := by
  have hsrc : (passedOne s r).routeSrc r = s.routeSrc r := (sameRoutes_passedOne s r).rf r (by decide) 15 0
  have hevents : (passedOne s r).events = s.events := by rw [passedOne, State.count_events, State.setRf_events]
  rw [← hsrc, ← hevents]
  exact if_pos h

/-- Any other firing is counted and sends nothing. -/
theorem divide_counting {s : State} {r : Nat} (h : s.rf .route r 0x20 15 0 + 1 < s.rf .route r 4 15 0) (cyc : Nat) :
    s.divide r cyc = s.setRf .route r 0x20 15 0 (s.rf .route r 0x20 15 0 + 1) :=
  if_neg (Nat.not_le.2 h)

theorem sameRoutes_divide (s : State) (r cyc : Nat) : SameRoutes s (s.divide r cyc) := by
  rcases Nat.lt_or_ge (s.rf .route r 0x20 15 0 + 1) (s.rf .route r 4 15 0) with hcounts | hpasses
  · rw [divide_counting hcounts]
    exact sameRoutes_setReg (by decide) (by decide) ..
  · rw [divide_passing hpasses]
    exact (sameRoutes_passedOne s r).trans ⟨rfl, fun _ _ _ => rfl⟩

/-! ## A firing of one route (R340, R341) -/

/-- Source i has fired in core cycle cyc. -/
def firedAt (s : State) (i cyc : Nat) : State :=
  { s with events := { s.events with lastFire := insertKey s.events.lastFire i cyc } }

theorem sameRoutes_firedAt (s : State) (i cyc : Nat) : SameRoutes s (firedAt s i cyc) := ⟨rfl, fun _ _ _ => rfl⟩

/-- The windows that source i begins in this cycle open for the firings they have stopped in it. -/
def windowsOpened (s : State) (i cyc : Nat) : State :=
  s.each (s.enabledRoutes.filter fun q => s.gateMode q == 3 && s.rf .route q 2 31 16 == i) fun s q => s.reopenRoute cyc q

theorem windowsOpened_none {s : State} {i : Nat} (h : ∀ q ∈ s.enabledRoutes, s.gateMode q = 3 → s.rf .route q 2 31 16 ≠ i) (cyc : Nat) :
    windowsOpened s i cyc = s := by
  have hnone : (s.enabledRoutes.filter fun q => s.gateMode q == 3 && s.rf .route q 2 31 16 == i) = [] :=
    List.filter_eq_nil_iff.2 fun q hq => by simpa using h q hq
  rw [windowsOpened, hnone, State.each, List.foldl_nil]

/-- A source past its re-arm interval fires: its routes meet the firing, and then the windows it begins open. -/
theorem fire_free {s : State} {i cyc : Nat} (h : s.rearming i cyc = false) :
    s.fire i cyc = windowsOpened ((firedAt s i cyc).each (s.enabledRoutes.filter fun q => s.routeSrc q == i)
      fun s q => s.passRoute cyc q) i cyc :=
  if_neg (by simp [h])

/-- An open gate stays open when a source fires: if it is the gate's own, its window begins in this cycle. -/
theorem gatePasses_firedAt {s : State} {r cyc : Nat} (h : s.gatePasses r cyc = true) (i : Nat) :
    (firedAt s i cyc).gatePasses r cyc = true := by
  have hmode : (firedAt s i cyc).gateMode r = s.gateMode r := rfl
  have hlevel (g : Nat) : (firedAt s i cyc).level g cyc = s.level g cyc := rfl
  have hlast : (firedAt s i cyc).events.lastFire = insertKey s.events.lastFire i cyc := rfl
  have hset (f hi lo : Nat) : (firedAt s i cyc).rf .route r f hi lo = s.rf .route r f hi lo := rfl
  simp only [State.gatePasses, hmode, hlevel, hlast, hset] at h ⊢
  split at h
  · rfl
  · exact h
  · exact h
  · by_cases hi : s.rf .route r 2 31 16 = i
    · simp [hi, find_insertKey_same]
    · rwa [find_insertKey_other _ _ _ _ hi]

/-- A firing past the re-arm interval, of a source that is no window gate and whose one enabled route has its gate open, is one use of
the divider of that route. -/
theorem fire_oneRoute {s : State} {i cyc r : Nat} (hone : (s.enabledRoutes.filter fun q => s.routeSrc q == i) = [r])
    (hfree : s.rearming i cyc = false) (hpass : s.gatePasses r cyc = true)
    (hgate : ∀ q ∈ s.enabledRoutes, s.gateMode q = 3 → s.rf .route q 2 31 16 ≠ i) :
    s.fire i cyc = (firedAt s i cyc).divide r cyc := by
  have hpassed : (firedAt s i cyc).passRoute cyc r = (firedAt s i cyc).divide r cyc := if_pos (gatePasses_firedAt hpass i)
  have hsame : SameRoutes s ((firedAt s i cyc).divide r cyc) := (sameRoutes_firedAt s i cyc).trans (sameRoutes_divide ..)
  rw [fire_free hfree, hone, State.each, List.foldl_cons, List.foldl_nil, hpassed]
  refine windowsOpened_none (fun q hq hmode => ?_) cyc
  rw [hsame.rf q (by decide)]
  exact hgate q (hsame.enabled ▸ hq) ((hsame.rf q (by decide) 30 28).symm.trans hmode)

/-- Settles O55: such a firing is one use of the divider, which passes it or counts it. -/
theorem routesDivideTheirFirings : Obligations.RoutesDivideTheirFirings := by
  intro s i cyc r hcan hr hone hfree hpass hgate t count n hn hcount
  have hsrc : s.routeSrc r = i :=
    eq_of_beq (List.mem_filter.1 (hone ▸ List.mem_singleton_self r : r ∈ s.enabledRoutes.filter fun q => s.routeSrc q == i)).2
  have ht : t = (firedAt s i cyc).divide r cyc := fire_oneRoute hone hfree hpass hgate
  have hcanon : (firedAt s i cyc).regsCanonical := hcan
  constructor
  · intro hle
    rw [ht, divide_passing (s := firedAt s i cyc) hle, ← hsrc]
    exact ⟨rfl, count_passedOne hcanon r, passed_passedOne hcanon r⟩
  · intro hlt
    rw [ht, divide_counting (s := firedAt s i cyc) hlt]
    exact ⟨by rw [State.setRf_events]; rfl, rf_setRf_low hcanon _ _ _ hcount, reg_setReg_field (by decide) ..⟩

/-! ## A busy virtual event that the statement takes for free -/

/-- The deliveries that reach consumer i in core cycle cyc: one arrival group (R343). -/
def arrivalGroup (s : State) (i cyc : Nat) : List Delivery :=
  s.events.deliveries.filter fun d => d.consumer == i && d.cycle == cyc

/-- That group is no longer on its way. -/
def groupTaken (s : State) (i cyc : Nat) : State :=
  { s with events := { s.events with deliveries := s.events.deliveries.filter fun d => !(d.consumer == i && d.cycle == cyc) } }

theorem exec_eventDelivery {s : State} {i cyc : Nat} (hr : s.boot.phase = .running) :
    exec (.eventDelivery i cyc) s = .next (s.eventDelivery i cyc) :=
  exec_happening (i := .eventDelivery i cyc) (f := fun s => s.eventDelivery i cyc) rfl rfl hr

/-- An arrival group at a busy consumer activates nothing and overruns (R344). -/
theorem eventDelivery_busy {s : State} {i cyc : Nat} (hn : 1 ≤ (arrivalGroup s i cyc).length) (hcls : idClass i ≠ 0xA)
    (hbusy : s.consumerBusy i cyc = true) :
    s.eventDelivery i cyc = (groupTaken s i cyc).overrun i cyc (arrivalGroup s i cyc).length := by
  have hstill : (groupTaken s i cyc).consumerBusy i cyc = true := hbusy
  exact (if_neg (Nat.ne_of_gt hn)).trans (if_pos (Bool.and_eq_true_iff.2 ⟨bne_iff_ne.2 hcls, hstill⟩))

/-- The device after reset with one delivery to virtual event 0 in core cycle 9, and that consumer busy up to core cycle 10. -/
def busyEvent : State :=
  { State.reset with
    events := { State.reset.events with deliveries := [⟨mkId 8 0, 9, 0⟩], busyEnd := [(mkId 8 0, 10)] } }

/-- Refutes O16: a consumer is busy up to the last cycle of its busy time (R344), and EVENT_DELIVERY's clause takes a virtual event for
free in every cycle but that last one. In busyEvent the delivery comes a cycle before the last, and it overruns. The clause speaks of every
state; no command of the model gives a virtual event a busy time. -/
theorem not_eventsReachTheirConsumers : ¬ Obligations.EventsReachTheirConsumers := by
  rintro ⟨⟨hdelivery, -⟩, -⟩
  have hsaid := hdelivery busyEvent 0 9 rfl (by decide) (by decide) (by decide)
  rw [exec_eventDelivery rfl, eventDelivery_busy (by decide) (by decide) (by decide)] at hsaid
  have hflag := congrArg (fun t => (t.sink (mkId 8 0)).overrun) (Host.Outcome.next.inj hsaid)
  exact absurd hflag (by decide)

end Sys2Proof.EventRouting
end

section
/-!
PROOFS. 09_acquisition_triggers: what a firing, a notice and the packets of a unit leave of the units and their fields.
-/

namespace Sys2Proof.AcquisitionTriggers

open Sys2Proof Sys2Proof.Machine

/-! ## States with the same units -/

/-- The units and the words of their fields are the same, and the word file keeps its canonical form. -/
structure SameUnits (s t : State) : Prop where
  acqs : t.acqs = s.acqs
  words : ∀ u f, u < 65536 → f < 65536 → t.reg .acq u f = s.reg .acq u f
  canonical : s.regsCanonical → t.regsCanonical

namespace SameUnits

variable {s t u : State}

theorem refl (s : State) : SameUnits s s := ⟨rfl, fun _ _ _ _ => rfl, id⟩

theorem trans (h : SameUnits s t) (k : SameUnits t u) : SameUnits s u where
  acqs := k.acqs.trans h.acqs
  words n f hn hf := (k.words n f hn hf).trans (h.words n f hn hf)
  canonical hs := k.canonical (h.canonical hs)

theorem ite {p : Prop} [Decidable p] (h : SameUnits s t) (k : SameUnits s u) : SameUnits s (if p then t else u) := by
  split
  · exact h
  · exact k

theorem acq (h : SameUnits s t) (n : Nat) : t.acq n = s.acq n := by
  rw [State.acq, h.acqs, State.acq]

theorem rf (h : SameUnits s t) {n f : Nat} (hn : n < 65536) (hf : f < 65536) (hi lo : Nat) : t.rf .acq n f hi lo = s.rf .acq n f hi lo := by
  rw [State.rf, h.words n f hn hf, State.rf]

/-- The event network is no part of a unit. -/
theorem events (h : SameUnits s t) (e : Events) : SameUnits s { t with events := e } := ⟨h.acqs, h.words, h.canonical⟩

/-- The packets are no part of a unit's record or fields. -/
theorem records (h : SameUnits s t) (r : Records) : SameUnits s { t with records := r } := ⟨h.acqs, h.words, h.canonical⟩

/-- The sessions and what is sent are no part of a unit. -/
theorem host (h : SameUnits s t) (x : HostSide) : SameUnits s { t with host := x } := ⟨h.acqs, h.words, h.canonical⟩

/-- A write of a word of another type of object leaves the units alone. -/
theorem setReg (h : SameUnits s t) (o : Obj) (f : Nat) {n : Nat} {v : Word} (hn : n < 65536)
    (ho : objCode o ≠ objCode .acq := by decide) (hf : f < 65536 := by decide) : SameUnits s (t.setReg o n f v) where
  acqs := (State.setReg_acqs ..).trans h.acqs
  words _ _ hu hg := (regAt_setRegAt_obj _ _ _ _ _ _ _ _ _ _ ho hn hu hf hg (by decide) (by decide)).trans (h.words _ _ hu hg)
  canonical hs := LoopExtensions.regsCanonical_setReg (h.canonical hs) ..

/-- What no operation of a list changes for the units, the list does not. -/
theorem foldl {α : Type} {f : State → α → State} {l : List α} (h : SameUnits s t) (hf : ∀ a ∈ l, ∀ u, SameUnits u (f u a)) :
    SameUnits s (l.foldl f t) := by
  induction l generalizing t with
  | nil => exact h
  | cons a l ih => exact ih (h.trans (hf a (List.mem_cons_self ..) t)) fun b hb => hf b (List.mem_cons_of_mem _ hb)

end SameUnits

/-! ## Firings (R340-R342) -/

theorem lt_of_mem_enabledRoutes {s : State} {r : Nat} (h : r ∈ s.enabledRoutes) : r < 65536 := by
  obtain ⟨e, -, he⟩ := List.mem_filterMap.1 (List.mem_filter.1 h).1
  obtain ⟨-, hr⟩ := Option.ite_none_right_eq_some.1 he
  exact Option.some.inj hr ▸ Nat.mod_lt _ (by decide)

theorem sameUnits_divide {r : Nat} (hr : r < 65536) (s : State) (cyc : Nat) : SameUnits s (s.divide r cyc) :=
  .ite ((((SameUnits.refl s).setReg .route 0x20 hr).setReg .route 0x21 hr).events _) ((SameUnits.refl s).setReg .route 0x20 hr)

theorem sameUnits_passRoute {r : Nat} (hr : r < 65536) (s : State) (cyc : Nat) : SameUnits s (s.passRoute cyc r) :=
  have hstopped := (SameUnits.refl s).setReg .route 0x22 (v := satInc (s.reg .route r 0x22)) hr
  .ite (sameUnits_divide hr s cyc) (.ite (hstopped.events _) hstopped)

theorem sameUnits_reopenRoute {r : Nat} (hr : r < 65536) (s : State) (cyc : Nat) : SameUnits s (s.reopenRoute cyc r) := by
  unfold State.reopenRoute
  split
  · exact .ite ((((SameUnits.refl s).events _).setReg .route 0x22 hr).trans (sameUnits_divide hr _ cyc)) (.refl s)
  · exact .refl s

/-- A firing changes nothing but routes and the event network. -/
theorem sameUnits_fire (s : State) (i cyc : Nat) : SameUnits s (s.fire i cyc) := by
  have hlt {t : State} {p : Nat → Bool} : ∀ r ∈ t.enabledRoutes.filter p, r < 65536 :=
    fun r hr => lt_of_mem_enabledRoutes (List.mem_filter.1 hr).1
  refine .ite ((SameUnits.refl s).foldl fun r hr u => (SameUnits.refl u).setReg .route 0x23 (hlt r hr)) ?_
  refine (((SameUnits.refl s).events _).foldl fun r hr u => ?_).foldl fun r hr u => ?_
  · exact sameUnits_passRoute (hlt r hr) u cyc
  · exact sameUnits_reopenRoute (hlt r hr) u cyc

/-! ## Notices (R609-R611) -/

theorem sameUnits_watchFill {f : Nat} (hf : f < 65536) (s : State) (cyc : Nat) : SameUnits s (s.watchFill f cyc) := by
  have hfill := (SameUnits.refl s).setReg .fifo 0x21 (v := word (ringFill (s.ring f))) hf
  unfold State.watchFill
  extract_lets fill filled peaked above
  have hpeak : SameUnits s peaked := .ite (hfill.setReg .fifo 0x22 hf) hfill
  refine .ite ((hpeak.setReg .fifo 0x20 hf).trans (sameUnits_fire ..)) (.ite ?_ hpeak)
  exact ((hpeak.setReg .fifo 0x20 hf).records _).trans (sameUnits_fire ..)

theorem sameUnits_pushRing {f : Nat} (hf : f < 65536) (s : State) (p : List Word) (cyc : Nat) : SameUnits s (s.pushRing f p cyc) := by
  unfold State.pushRing
  extract_lets pseq r pushed marked
  have hpushed : SameUnits s pushed := ((SameUnits.refl s).records _).setReg .fifo 0x27 hf
  have hmarked : SameUnits s marked := .ite ((hpushed.setReg .fifo 0x24 hf).trans (sameUnits_fire ..)) hpushed
  exact hmarked.trans (sameUnits_watchFill hf ..)

theorem portNum_lt (p : Port) : portNum p < 65536 := by cases p <;> decide

theorem sameUnits_send (s : State) (p : Port) (priority : Nat) (m : OutMsg) : SameUnits s (s.send p priority m) :=
  .ite ((SameUnits.refl s).host _) (((SameUnits.refl s).setReg .port 0x22 (portNum_lt p)).host _)

theorem sameUnits_noticeTo (s : State) (n : Nat) (x : Session) (seq code time : Nat) (body : List Word) :
    SameUnits s (s.noticeTo n x seq code time body) :=
  .ite ((SameUnits.refl s).host _) (((SameUnits.refl s).host _).trans (sameUnits_send ..))

theorem sameUnits_noticeAll (s : State) (seq code time : Nat) (body : List Word) : SameUnits s (s.noticeAll seq code time body) := by
  refine (SameUnits.refl s).foldl fun e _ t => ?_
  split
  · exact .ite (sameUnits_noticeTo ..) (.refl t)
  · exact .refl t

theorem sameUnits_noticeToFifo (s : State) (n : Notice) (obj inst : Nat) : SameUnits s (s.noticeToFifo n obj inst) :=
  .ite (.ite (sameUnits_pushRing (by decide) ..) ((SameUnits.refl s).setReg .fifo 0x23 (by decide))) (.refl s)

theorem sameUnits_notify (s : State) (code : Nat) (o : Obj) (inst : Nat) (params : List Nat) :
    SameUnits s (s.notify code o inst params) :=
  (((SameUnits.refl s).host _).trans (sameUnits_noticeAll ..)).trans (sameUnits_noticeToFifo ..)

/-! ## Packets of a unit (R403-R407) -/

theorem sameUnits_closeOpen (s : State) (u : Nat) (last : Bool) : SameUnits s (s.closeOpen u last) := by
  unfold State.closeOpen
  extract_lets p
  split
  · exact .refl s
  · exact .ite (.refl s) (((SameUnits.refl s).records _).records _)

theorem bankOf_lt {u : Nat} (h : u < 65536) : bankOf u < 65536 := Nat.lt_of_le_of_lt (Nat.div_le_self ..) h

theorem sameUnits_dropWords {u : Nat} (hu : u < 65536) (s : State) (recno n t : Nat) (aside : Bool) :
    SameUnits s (s.dropWords u recno n t aside) := by
  have hf := bankOf_lt hu
  have hcounted : SameUnits s (s.countBy .fifo (bankOf u) 0x23 n) := (SameUnits.refl s).setReg .fifo 0x23 hf
  have hmarked (x : UnitPackets) : SameUnits s (((s.countBy .fifo (bankOf u) 0x23 n).setUnitPkts u x).countDropping (bankOf u)) :=
    ((hcounted.records _).setReg .fifo 0x20 hf).setReg .fifo 0x20 hf
  unfold State.dropWords
  extract_lets f p counted
  split
  · exact hmarked _
  · exact .ite (hmarked _) (((hmarked _).records _).trans (sameUnits_notify ..))

/-- The words a unit writes go to its packets, or are counted as dropped. -/
theorem sameUnits_unitWrite {u : Nat} (hu : u < 65536) (s : State) (recno offset t : Nat) (ws : List Word) (last : Bool) :
    SameUnits s (s.unitWrite u recno offset t ws last) := by
  unfold State.unitWrite
  extract_lets limit room
  have hroom : SameUnits s room := by
    unfold room
    split
    · exact .ite (sameUnits_closeOpen ..) (.refl s)
    · exact .refl s
  refine .ite (sameUnits_dropWords hu ..) (hroom.trans ?_)
  clear_value room
  split
  · exact .ite (((SameUnits.refl room).records _).trans (sameUnits_closeOpen ..)) ((SameUnits.refl room).records _)
  · refine .ite (sameUnits_dropWords hu ..) (.ite ?_ ((SameUnits.refl room).records _))
    exact ((SameUnits.refl room).records _).trans (sameUnits_closeOpen ..)

theorem sameUnits_unitEndRecord {u : Nat} (hu : u < 65536) (s : State) (recno t : Nat) (header : List Word) :
    SameUnits s (s.unitEndRecord u recno t header) := by
  unfold State.unitEndRecord
  split
  · refine .ite (((SameUnits.refl s).records _).trans (sameUnits_closeOpen ..)) ((sameUnits_closeOpen s u false).trans ?_)
    exact .ite (sameUnits_dropWords hu ..) ((SameUnits.refl _).records _)
  · exact .ite (sameUnits_dropWords hu ..) ((SameUnits.refl s).records _)

theorem sameUnits_unitDetection {u : Nat} (hu : u < 65536) (s : State) (recno t : Nat) (ws : List Word) :
    SameUnits s (s.unitDetection u recno t ws) :=
  .ite (sameUnits_dropWords hu ..) (.ite (sameUnits_dropWords hu ..) ((SameUnits.refl s).records _))

end Sys2Proof.AcquisitionTriggers
end

section
/-!
PROOFS. 09_acquisition_triggers: the state of a unit and its counts; arming, and what a trigger meets.
-/

namespace Sys2Proof.AcquisitionTriggers

open Sys2Proof Sys2Proof.Machine Sys2Proof.LoopExtensions

/-! ## The record and the words of a unit -/

/-- The part of a unit beside its fields is read off the units. -/
theorem acq_congr {s t : State} (h : t.acqs = s.acqs) (u : Nat) : t.acq u = s.acq u := by
  rw [State.acq, h, State.acq]

theorem acq_setAcq {s : State} (h : sortedKeys s.acqs = true) (u : Nat) (x : Acq) : (s.setAcq u x).acq u = x :=
  findD_store_same _ _ _ _ h

theorem sortedKeys_setAcq {s : State} (h : sortedKeys s.acqs = true) (u : Nat) (x : Acq) : sortedKeys (s.setAcq u x).acqs = true :=
  VectorMode.sortedKeys_store _ _ _ h

theorem regAt_setAcq (s : State) (u : Nat) (x : Acq) (o : Obj) (n f w : Nat) : (s.setAcq u x).regAt o n f w = s.regAt o n f w := rfl

theorem reg_setAcq (s : State) (u : Nat) (x : Acq) (o : Obj) (n f : Nat) : (s.setAcq u x).reg o n f = s.reg o n f := rfl

theorem regsCanonical_setAcq {s : State} (h : s.regsCanonical) (u : Nat) (x : Acq) : (s.setAcq u x).regsCanonical := h

/-- A write of a word of one unit leaves the words of the others alone. -/
theorem regAt_setReg_unit {u v f g w : Nat} (hvu : v ≠ u) (hu : u < 65536) (hv : v < 65536) (hf : f < 65536) (hg : g < 65536) (hw : w < 16)
    (s : State) (x : Word) : (s.setReg .acq u f x).regAt .acq v g w = s.regAt .acq v g w :=
  regAt_setRegAt_other _ _ _ _ _ _ _ _ _ _ fun h => hvu (regKey_inj hv hu hg hf hw (by decide) h).2.1

/-! ## STATE.STATE -/

theorem fld_putFld_high (w : Word) {v : Nat} (hv : v < 16) : fld (putFld w 31 28 v) 31 28 = v := by
  simp only [fld, putFld, putBits, bitsOf, BitVec.toNat_ofNat]
  omega

theorem regs_setAcqState (s : State) (u v : Nat) : (s.setAcqState u v).regs = (s.setRf .acq u 0x20 31 28 v).regs := by
  unfold State.setAcqState
  dsimp only
  split <;> rfl

theorem acqs_setAcqState (s : State) (u v : Nat) : (s.setAcqState u v).acqs = s.acqs := by
  rw [← State.setRf_acqs s .acq u 0x20 31 28 v]
  unfold State.setAcqState
  dsimp only
  split <;> rfl

theorem acqState_setAcqState {s : State} (h : s.regsCanonical) (u : Nat) {v : Nat} (hv : v < 16) : (s.setAcqState u v).acqState u = v := by
  rw [State.acqState, State.rf, reg_congr (regs_setAcqState ..), State.setRf, reg_setReg_same h, fld_putFld_high _ hv]

theorem regAt_setAcqState (s : State) (u v : Nat) (o : Obj) (n f w : Nat) :
    (s.setAcqState u v).regAt o n f w = (s.setRf .acq u 0x20 31 28 v).regAt o n f w := by
  rw [State.regAt, regs_setAcqState, State.regAt]

theorem reg_setAcqState {f : Nat} (h : f ≠ 0x20) (s : State) (u v : Nat) : (s.setAcqState u v).reg .acq u f = s.reg .acq u f :=
  (regAt_setAcqState ..).trans (reg_setReg_field h ..)

/-! ## ACQ.ARM (R367, R368) -/

/-- Fields of a unit set to 0. -/
def cleared (s : State) (u : Nat) (l : List Nat) : State := l.foldl (fun s f => s.setReg .acq u f 0) s

theorem regsCanonical_cleared {s : State} (h : s.regsCanonical) (u : Nat) (l : List Nat) : (cleared s u l).regsCanonical := by
  induction l generalizing s with
  | nil => exact h
  | cons f l ih => exact ih (regsCanonical_setReg h ..)

theorem acqs_cleared (s : State) (u : Nat) (l : List Nat) : (cleared s u l).acqs = s.acqs :=
  Organisation.foldl_keeps State.acqs (fun _ _ => State.setReg_acqs ..) l s

theorem reg_cleared {s : State} (h : s.regsCanonical) (u f : Nat) (l : List Nat) :
    (cleared s u l).reg .acq u f = if f ∈ l then 0 else s.reg .acq u f := by
  induction l generalizing s with
  | nil => rfl
  | cons g l ih =>
    rw [cleared, List.foldl_cons, ← cleared, ih (regsCanonical_setReg h ..)]
    by_cases hfg : f = g
    · subst hfg
      simp [reg_setReg_same h]
    · simp [hfg, reg_setReg_field hfg]

theorem regAt_cleared {u v g w : Nat} {l : List Nat} (hl : ∀ f ∈ l, f < 65536) (hvu : v ≠ u) (hu : u < 65536) (hv : v < 65536)
    (hg : g < 65536) (hw : w < 16) (s : State) : (cleared s u l).regAt .acq v g w = s.regAt .acq v g w := by
  induction l generalizing s with
  | nil => rfl
  | cons f l ih =>
    exact (ih (fun k hk => hl k (List.mem_cons_of_mem _ hk)) _).trans
      (regAt_setReg_unit hvu hu hv (hl f (List.mem_cons_self ..)) hg hw s 0)

/-- The counts of a unit are 0, and the level of its detection is low. -/
def unitCleared (s : State) (u : Nat) : State := (cleared s u [0x21, 0x22, 0x23, 0x24]).setRb .acq u 0x20 27 false

theorem regsCanonical_unitCleared {s : State} (h : s.regsCanonical) (u : Nat) : (unitCleared s u).regsCanonical :=
  regsCanonical_setRb (regsCanonical_cleared h ..) ..

theorem acqs_unitCleared (s : State) (u : Nat) : (unitCleared s u).acqs = s.acqs := (State.setRb_acqs ..).trans (acqs_cleared ..)

theorem reg_unitCleared {s : State} (h : s.regsCanonical) (u : Nat) {f : Nat} (hf : f ≠ 0x20) :
    (unitCleared s u).reg .acq u f = if f ∈ [0x21, 0x22, 0x23, 0x24] then 0 else s.reg .acq u f := by
  rw [unitCleared, reg_setRb_field hf, reg_cleared h]

/-- Arming clears the counts, begins the unit's record afresh and puts the unit in the state of its mode. -/
theorem acqArm_eq {s : State} (h : s.regsCanonical) (u : Nat) :
    s.acqArm u = ((unitCleared s u).setAcq u { Acq.fresh with detTimes := (s.acq u).detTimes }).setAcqState u
      (if s.acqMode u = 2 then 5 else 1) := by
  have hmode : (unitCleared s u).acqMode u = s.acqMode u := by
    rw [State.acqMode, State.rf, reg_unitCleared h u (by decide), if_neg (by decide), State.acqMode, State.rf]
  rw [← hmode, ← acq_congr (acqs_unitCleared s u) u]
  rfl

/-! ## Triggers (R370, R377) -/

theorem acqTrigger_ignored {s : State} {u : Nat} (h : s.acqState u = 0 ∨ s.acqState u = 4) (t : Trigger) : s.acqTrigger u t = s := by
  rcases h with h | h <;> simp [State.acqTrigger, h]

theorem acqTrigger_busy {s : State} {u : Nat} {t : Trigger} (h : s.acqState u = 2 ∨ s.acqState u = 3) (ht : t.cause ≠ .event) :
    s.acqTrigger u t = s.count .acq u 0x22 := by
  rcases h with h | h <;> simp [State.acqTrigger, h, ht]

/-- A trigger of an armed unit that has taken no frame yet waits as it came: it is not late. -/
theorem acqTrigger_waits {s : State} {u : Nat} (h : s.acqState u = 1 ∨ s.acqState u = 5) (htaken : (s.acq u).taken = none)
    (t : Trigger) : s.acqTrigger u t = s.setAcq u { s.acq u with trigs := (s.acq u).trigs ++ [t] } := by
  rcases h with h | h <;> simp [State.acqTrigger, h, htaken]

/-- Settles O28: arming starts the unit afresh and leaves the other units alone; the unit's state decides on a trigger. -/
theorem unitsArmAndTrigger : Obligations.UnitsArmAndTrigger := by
  refine ⟨fun s u hregs hs hu => ?_, fun s u t => ⟨fun h => acqTrigger_ignored h t, acqTrigger_busy, fun h ht => acqTrigger_waits h ht t⟩⟩
  have hs' : sortedKeys (unitCleared s u).acqs = true := by rw [acqs_unitCleared, hs]
  have hcan : ((unitCleared s u).setAcq u { Acq.fresh with detTimes := (s.acq u).detTimes }).regsCanonical :=
    regsCanonical_setAcq (regsCanonical_unitCleared hregs u) ..
  rw [acqArm_eq hregs]
  refine ⟨acqState_setAcqState hcan u (by split <;> decide), ?_, fun f hf => ?_, fun v f w hv hvu hf hw => ?_⟩
  · rw [acq_congr (acqs_setAcqState ..), acq_setAcq hs']
  · have hne : f ≠ 0x20 := fun h => absurd (h ▸ hf) (by decide)
    rw [reg_setAcqState hne, reg_setAcq, reg_unitCleared hregs u hne, if_pos hf]
  · have hlt {n : Nat} (h : n < 512) : n < 65536 := Nat.lt_trans h (by decide)
    have hother (t : State) (x : Word) : (t.setReg .acq u 0x20 x).regAt .acq v f w = t.regAt .acq v f w :=
      regAt_setReg_unit hvu (hlt hu) (hlt hv) (by decide) hf hw t x
    rw [regAt_setAcqState, State.setRf, hother, regAt_setAcq, unitCleared, State.setRb, State.setRf, hother,
      regAt_cleared (by decide) hvu (hlt hu) (hlt hv) hf hw]

end Sys2Proof.AcquisitionTriggers
end

section
/-!
PROOFS. 09_acquisition_triggers: the events of a unit and of a pattern, and the end of a record.
-/

namespace Sys2Proof.AcquisitionTriggers

open Sys2Proof Sys2Proof.Machine Sys2Proof.LoopEngine Sys2Proof.LoopExtensions

/-! ## Events of a unit and of a pattern (R369, R390, R395) -/

theorem holdoffEnd_due {s : State} {u : Nat} (hst : s.acqState u = 3) (hleft : (s.acq u).holdLeft = 0) :
    s.holdoffEnd u = (s.setAcq u { s.acq u with primed := false, pre := [], ival := none, trigs := [] }).setAcqState u 1 :=
  if_pos (by simp [hst, hleft])

theorem detectionStart_due {s : State} {u : Nat} (h : (s.acq u).det.toStart = true) (cyc : Nat) :
    s.detectionStart u cyc = (((s.setAcq u { s.acq u with det := { (s.acq u).det with toStart := false } }).count .acq u 0x23).setRb
      .acq u 0x20 27 true).fire (mkId 6 (8 * u + 2)) cyc :=
  if_neg (by simp [h])

theorem detectionEnd_due {s : State} {u ends : Nat} (h : (s.acq u).det.toEnd = some ends) (cyc : Nat) :
    s.detectionEnd u cyc = (((s.setAcq u { s.acq u with det := { (s.acq u).det with toEnd := none } }).setRb .acq u 0x20 27
      (s.acq u).det.inForce).fire (mkId 6 (8 * u + 3)) cyc).detRecord u (s.acq u).det (some ends) := by
  simp only [State.detectionEnd, h, acqSource]

theorem patternFire_due {s : State} {p : Nat} (hen : s.rb .pattern p 0 31 = true) (hrun : s.rf .pattern p 0 15 0 ≤ s.rf .pattern p 0x80 15 0)
    (hmatch : s.rb .pattern p 0x80 31 = true) (hnew : p ∉ s.patternFired) (cyc : Nat) :
    s.patternFire p cyc = (({ s with patternFired := s.patternFired ++ [p] } : State).count .pattern p 0x81).fire (mkId 7 p) cyc :=
  if_pos (by simp [hen, hrun, hmatch, hnew])

theorem recordComplete_whole {s : State} {u : Nat} {r : Record} (hr : (s.acq u).rcd = some r) (hw : r.whole = true) (cyc : Nat) :
    s.recordComplete u cyc = s.endRecord u false cyc := by
  simp only [State.recordComplete, hr, hw, if_true]

theorem exec_acqRecordComplete {s : State} {u : Nat} {r : Record} (hrun : s.boot.phase = .running) (hu : u < 512)
    (hr : (s.acq u).rcd = some r) (hw : r.whole = true) (cyc : Nat) :
    exec (.acqRecordComplete u cyc) s = .next (s.endRecord u false cyc) := by
  rw [exec_happening (i := .acqRecordComplete u cyc) rfl (decide_eq_true hu) hrun, recordComplete_whole hr hw]

/-! ## The words of a record that ends (R382, R387, R404) -/

/-- The measurement groups of a unit. -/
def measGroups (s : State) (u : Nat) : List Nat := (upto 5).filter fun k => bitsOf (s.acqMeas u) k k == 1

/-- Group k of a record is written behind what stands before it. -/
def groupWritten (u : Nat) (r : Record) (groups : List Nat) (p : State × Nat) (k : Nat) : State × Nat :=
  (p.1.unitWrite u r.recno p.2 p.1.now (r.win.group k) (groups.getLast? == some k), p.2 + (r.win.group k).length)

/-- The measurement words and the final header of a record of unit u are written. -/
def recordWritten (s : State) (u : Nat) (r : Record) (trunc : Bool) : State :=
  let t := ((measGroups s u).foldl (groupWritten u r (measGroups s u)) (s, r.offset)).1
  t.unitEndRecord u r.recno t.now (t.recordHeader u r trunc)

theorem sameUnits_groupsWritten {u : Nat} (hu : u < 65536) (r : Record) (groups l : List Nat) (p : State × Nat) :
    SameUnits p.1 (l.foldl (groupWritten u r groups) p).1 := by
  induction l generalizing p with
  | nil => exact .refl _
  | cons k l ih => exact (sameUnits_unitWrite hu ..).trans (ih (groupWritten u r groups p k))

theorem sameUnits_recordWritten {u : Nat} (hu : u < 65536) (s : State) (r : Record) (trunc : Bool) :
    SameUnits s (recordWritten s u r trunc) :=
  (sameUnits_groupsWritten hu r _ _ (s, r.offset)).trans (sameUnits_unitEndRecord hu ..)

/-! ## The unit behind a record (R369) -/

/-- A record has been counted in t: nothing of it stays in the unit, which is no longer busy, unless its mode is continuous; there what
waits for a frame stays as well. -/
def recordClosed (t : State) (u cyc : Nat) : State :=
  let x := { t.acq u with rcd := none, pre := [], ival := none, trigs := if t.acqMode u == 2 then (t.acq u).trigs else [] }
  if t.acqMode u == 2 then t.setAcq u x else (t.setAcq u x).busyEnds (mkId 6 u) cyc

/-- Whether a unit is done with a record: it was truncated, the mode is single, or it was the last of its run. -/
def runEnds (t : State) (u : Nat) (trunc : Bool) : Bool :=
  trunc || t.acqMode u == 0 || (t.rf .acq u 7 31 16 != 0 && decide (t.rf .acq u 7 31 16 ≤ (t.reg .acq u 0x21).toNat))

/-- A unit is DONE. -/
def unitDone (t : State) (u cyc : Nat) : State := ((t.endDetection u).setAcqState u 4).fire (mkId 6 (8 * u + 1)) cyc

/-- A unit goes on: it waits for a trigger anew, holds off, or logs on. -/
def unitGoesOn (t : State) (u : Nat) (logging : Bool) : State :=
  if logging then t
  else if t.rf .acq u 7 15 0 = 0 then (t.setAcq u { t.acq u with primed := false }).setAcqState u 1
  else (t.setAcq u { t.acq u with holdLeft := t.rf .acq u 7 15 0 }).setAcqState u 3

/-- What a counted record comes to in t. -/
def recordEnded (t : State) (u : Nat) (trunc : Bool) (cyc : Nat) : State :=
  if runEnds (recordClosed t u cyc) u trunc then unitDone (recordClosed t u cyc) u cyc
  else unitGoesOn (recordClosed t u cyc) u (t.acqMode u == 2)

theorem endRecord_eq {s : State} {u : Nat} {r : Record} (hr : (s.acq u).rcd = some r) (trunc : Bool) (cyc : Nat) :
    s.endRecord u trunc cyc = recordEnded ((recordWritten s u r trunc).count .acq u 0x21) u trunc cyc := by
  unfold State.endRecord
  extract_lets x
  rw [show x.rcd = some r from hr]
  rfl

/-! ## What stands beside the unit's state -/

/-- Unit u has the same record in progress and the same count of records; the word file and the units keep their canonical form. -/
structure KeepsRecord (u : Nat) (s t : State) : Prop where
  canonical : s.regsCanonical → t.regsCanonical
  sorted : sortedKeys s.acqs = true → sortedKeys t.acqs = true
  rcd : sortedKeys s.acqs = true → (t.acq u).rcd = (s.acq u).rcd
  count : t.reg .acq u 0x21 = s.reg .acq u 0x21

namespace KeepsRecord

variable {u : Nat} {s t v : State}

theorem refl (u : Nat) (s : State) : KeepsRecord u s s := ⟨id, id, fun _ => rfl, rfl⟩

theorem trans (h : KeepsRecord u s t) (k : KeepsRecord u t v) : KeepsRecord u s v where
  canonical hs := k.canonical (h.canonical hs)
  sorted hs := k.sorted (h.sorted hs)
  rcd hs := (k.rcd (h.sorted hs)).trans (h.rcd hs)
  count := k.count.trans h.count

theorem ite {p : Prop} [Decidable p] (h : KeepsRecord u s t) (k : KeepsRecord u s v) : KeepsRecord u s (if p then t else v) := by
  split
  · exact h
  · exact k

theorem same (hu : u < 65536) (h : KeepsRecord u s t) (k : SameUnits t v) : KeepsRecord u s v :=
  h.trans ⟨k.canonical, fun ht => k.acqs ▸ ht, fun _ => by rw [k.acq], k.words u 0x21 hu (by decide)⟩

theorem setAcq (h : KeepsRecord u s t) {x : Acq} (hx : x.rcd = (t.acq u).rcd) : KeepsRecord u s (t.setAcq u x) :=
  h.trans ⟨id, fun ht => sortedKeys_setAcq ht u x, fun ht => by rw [acq_setAcq ht, hx], reg_setAcq ..⟩

theorem setReg (h : KeepsRecord u s t) (f : Nat) {w : Word} (hf : 0x21 ≠ f := by decide) : KeepsRecord u s (t.setReg .acq u f w) :=
  have hacqs := State.setReg_acqs t .acq u f w
  h.trans ⟨fun ht => regsCanonical_setReg ht .., fun ht => hacqs ▸ ht, fun _ => by rw [acq_congr hacqs], reg_setReg_field hf ..⟩

theorem setAcqState (h : KeepsRecord u s t) (k : Nat) : KeepsRecord u s (t.setAcqState u k) where
  canonical hs := by
    rw [State.regsCanonical, regs_setAcqState]
    exact regsCanonical_setReg (h.canonical hs) ..
  sorted hs := by rw [acqs_setAcqState, h.sorted hs]
  rcd hs := by rw [acq_congr (acqs_setAcqState ..), h.rcd hs]
  count := (reg_setAcqState (by decide) ..).trans h.count

end KeepsRecord

/-- A detection record is written, or counted as lost (R392). -/
theorem keepsRecord_detRecord {u : Nat} (hu : u < 65536) (s : State) (d : Detection) (endAt : Option Nat) :
    KeepsRecord u s (s.detRecord u d endAt) := by
  refine .ite (.refl u s) (.ite (.setReg (.setAcq (.refl u s) ?_) 0x24) (.same hu (.setAcq (.refl u s) ?_) (sameUnits_unitDetection hu ..)))
  · rfl
  · rfl

theorem keepsRecord_endDetection {u : Nat} (hu : u < 65536) (s : State) : KeepsRecord u s (s.endDetection u) := by
  unfold State.endDetection
  extract_lets d t
  have ht : KeepsRecord u s t := .ite (keepsRecord_detRecord hu ..) (.refl u s)
  exact (ht.setAcq (x := { t.acq u with det := .fresh }) rfl).setReg 0x20

theorem keepsRecord_unitDone {u : Nat} (hu : u < 65536) (t : State) (cyc : Nat) : KeepsRecord u t (unitDone t u cyc) :=
  ((keepsRecord_endDetection hu t).setAcqState 4).same hu (sameUnits_fire ..)

theorem keepsRecord_unitGoesOn (t : State) (u : Nat) (logging : Bool) : KeepsRecord u t (unitGoesOn t u logging) := by
  refine .ite (.refl u t) (.ite (.setAcqState (.setAcq (.refl u t) ?_) 1) (.setAcqState (.setAcq (.refl u t) ?_) 3))
  · rfl
  · rfl

theorem keepsRecord_recordEnded {u : Nat} (hu : u < 65536) (t : State) (trunc : Bool) (cyc : Nat) :
    KeepsRecord u (recordClosed t u cyc) (recordEnded t u trunc cyc) :=
  .ite (keepsRecord_unitDone hu ..) (keepsRecord_unitGoesOn ..)

/-! ## The closed record -/

theorem reg_recordClosed (t : State) (u cyc : Nat) (o : Obj) (n f : Nat) : (recordClosed t u cyc).reg o n f = t.reg o n f := by
  unfold recordClosed
  dsimp only
  split <;> rfl

theorem rf_recordClosed (t : State) (u cyc : Nat) (o : Obj) (n f hi lo : Nat) : (recordClosed t u cyc).rf o n f hi lo = t.rf o n f hi lo := by
  rw [State.rf, reg_recordClosed, State.rf]

theorem acqMode_recordClosed (t : State) (u cyc : Nat) : (recordClosed t u cyc).acqMode u = t.acqMode u := rf_recordClosed ..

theorem regsCanonical_recordClosed {t : State} (h : t.regsCanonical) (u cyc : Nat) : (recordClosed t u cyc).regsCanonical := by
  unfold recordClosed
  dsimp only
  split <;> exact h

theorem sortedKeys_recordClosed {t : State} (h : sortedKeys t.acqs = true) (u cyc : Nat) :
    sortedKeys (recordClosed t u cyc).acqs = true := by
  unfold recordClosed
  dsimp only
  split <;> exact sortedKeys_setAcq h ..

theorem rcd_recordClosed {t : State} (h : sortedKeys t.acqs = true) (u cyc : Nat) : ((recordClosed t u cyc).acq u).rcd = none := by
  have hset (x : Acq) : (t.setAcq u x).acq u = x := acq_setAcq h u x
  unfold recordClosed
  dsimp only
  split
  · rw [hset]
  · exact congrArg Acq.rcd (hset _)

/-! ## The state of the unit behind a record (R369) -/

theorem acqState_unitDone {t : State} (h : t.regsCanonical) {u : Nat} (hu : u < 65536) (cyc : Nat) : (unitDone t u cyc).acqState u = 4 :=
  ((sameUnits_fire ..).rf hu (by decide) 31 28).trans
    (acqState_setAcqState ((keepsRecord_endDetection hu t).canonical h) u (by decide))

theorem unitGoesOn_armed {t : State} {u : Nat} (h : t.rf .acq u 7 15 0 = 0) :
    unitGoesOn t u false = (t.setAcq u { t.acq u with primed := false }).setAcqState u 1 := by
  rw [unitGoesOn, if_neg Bool.false_ne_true, if_pos h]

theorem unitGoesOn_holdoff {t : State} {u : Nat} (h : t.rf .acq u 7 15 0 ≠ 0) :
    unitGoesOn t u false = (t.setAcq u { t.acq u with holdLeft := t.rf .acq u 7 15 0 }).setAcqState u 3 := by
  rw [unitGoesOn, if_neg Bool.false_ne_true, if_neg h]

section

variable {t : State} {u : Nat} (cyc : Nat)

/-- A single record, or the last of a run, leaves the unit DONE. -/
theorem recordEnded_done (h : t.acqMode u = 0 ∨ t.rf .acq u 7 31 16 ≠ 0 ∧ t.rf .acq u 7 31 16 ≤ (t.reg .acq u 0x21).toNat) :
    recordEnded t u false cyc = unitDone (recordClosed t u cyc) u cyc := by
  refine if_pos ?_
  rcases h with hsingle | ⟨hlimit, hlast⟩
  · simp [runEnds, acqMode_recordClosed, hsingle]
  · simp [runEnds, rf_recordClosed, reg_recordClosed, hlimit, hlast]

/-- A repetitive run without a limit goes on. -/
theorem recordEnded_goesOn (hmode : t.acqMode u = 1) (hlimit : t.rf .acq u 7 31 16 = 0) :
    recordEnded t u false cyc = unitGoesOn (recordClosed t u cyc) u false := by
  have hends : runEnds (recordClosed t u cyc) u false = false := by
    simp [runEnds, acqMode_recordClosed, rf_recordClosed, hmode, hlimit]
  have hlogs : (t.acqMode u == 2) = false := by rw [hmode]; rfl
  rw [recordEnded, hends, if_neg Bool.false_ne_true, hlogs]

end

/-- The record of unit u is written and counted. -/
def recordCounted (s : State) (u : Nat) (r : Record) : State := (recordWritten s u r false).count .acq u 0x21

section

variable {s : State} {u : Nat} (hu : u < 65536) (r : Record)

include hu

theorem regsCanonical_recordCounted (h : s.regsCanonical) : (recordCounted s u r).regsCanonical :=
  regsCanonical_setReg ((sameUnits_recordWritten hu s r false).canonical h) ..

theorem acqs_recordCounted : (recordCounted s u r).acqs = s.acqs :=
  (State.count_acqs ..).trans (sameUnits_recordWritten hu s r false).acqs

theorem rf_recordCounted {f : Nat} (hf : f < 0x21) (hi lo : Nat) : (recordCounted s u r).rf .acq u f hi lo = s.rf .acq u f hi lo := by
  rw [State.rf, recordCounted, State.count, reg_setReg_field (Nat.ne_of_lt hf)]
  exact (sameUnits_recordWritten hu s r false).rf hu (Nat.lt_trans hf (by decide)) hi lo

theorem count_recordCounted (h : s.regsCanonical) : (recordCounted s u r).reg .acq u 0x21 = satInc (s.reg .acq u 0x21) := by
  have hsame := sameUnits_recordWritten hu s r false
  rw [recordCounted, State.count, reg_setReg_same (hsame.canonical h), hsame.words u 0x21 hu (by decide)]

end

/-- Settles O27: each event has its effect, and a record that ends is counted, leaves nothing and sends the unit on as its mode says. -/
theorem recordsAreTaken : Obligations.RecordsAreTaken := by
  refine ⟨⟨?_, ?_, ?_, ?_, fun s u cyc r hrun hu hr hw => exec_acqRecordComplete hrun hu hr hw cyc⟩, ?_⟩
  · intro s u hrun hu hst hleft
    rw [exec_happening (i := .acqHoldoffEnd u) rfl (decide_eq_true hu) hrun, holdoffEnd_due hst hleft]
  · intro s u cyc hrun hu hstart
    rw [exec_happening (i := .detectionStart u cyc) rfl (decide_eq_true hu) hrun, detectionStart_due hstart]
  · intro s u cyc ends hrun hu hend
    rw [exec_happening (i := .detectionEnd u cyc) rfl (decide_eq_true hu) hrun, detectionEnd_due hend]
  · intro s p cyc hrun hp hen hhold hmatch hnew
    rw [exec_happening (i := .patternFire p cyc) rfl (decide_eq_true hp) hrun, patternFire_due hen hhold hmatch hnew]
  · intro s u cyc r hcan hs hrun hu hr hw
    have hu' : u < 65536 := Nat.lt_trans hu (by decide)
    have hc := regsCanonical_recordClosed (regsCanonical_recordCounted hu' r hcan) u cyc
    have hsorted : sortedKeys (recordCounted s u r).acqs = true := by rw [acqs_recordCounted hu', hs]
    have hk := sortedKeys_recordClosed hsorted u cyc
    have hends := keepsRecord_recordEnded hu' (recordCounted s u r) false cyc
    have hmode : (recordCounted s u r).acqMode u = s.acqMode u := rf_recordCounted hu' r (by decide) 31 30
    have hlimit := rf_recordCounted (s := s) hu' r (f := 7) (by decide) 31 16
    have hhold : (recordClosed (recordCounted s u r) u cyc).rf .acq u 7 15 0 = s.rf .acq u 7 15 0 := by
      rw [rf_recordClosed, rf_recordCounted hu' r (by decide)]
    refine ⟨recordEnded (recordCounted s u r) u false cyc, ?_, ?_, ?_, ?_, ?_, ?_⟩
    · rw [exec_acqRecordComplete hrun hu hr hw, endRecord_eq hr, recordCounted]
    · rw [hends.rcd hk, rcd_recordClosed hsorted]
    · rw [hends.count, reg_recordClosed, count_recordCounted hu' r hcan]
    · intro hm hl h0
      rw [recordEnded_goesOn cyc (hmode.trans hm) (hlimit.trans hl), unitGoesOn_holdoff (by rwa [hhold]), hhold]
      exact ⟨acqState_setAcqState (regsCanonical_setAcq hc ..) u (by decide), by rw [acq_congr (acqs_setAcqState ..), acq_setAcq hk]⟩
    · intro hm hl h0
      rw [recordEnded_goesOn cyc (hmode.trans hm) (hlimit.trans hl), unitGoesOn_armed (hhold.trans h0)]
      exact acqState_setAcqState (regsCanonical_setAcq hc ..) u (by decide)
    · intro h
      rw [recordEnded_done cyc (by rwa [hmode, hlimit, count_recordCounted hu' r hcan])]
      exact acqState_unitDone hc hu' cyc

end Sys2Proof.AcquisitionTriggers
end
